-- ==== Sys2Proof/Word.lean ====
section
/-! DEFINITION. The word types of the Brollira 288 and their plainest arithmetic (00_scope R4: bit 0 is the
least significant bit; memory is little-endian). -/

namespace Sys2Proof

/-- A 32-bit register or memory word (R95). -/
abbrev Word := BitVec 32
/-- A 64-bit pair, address or mask register (R95, R97). -/
abbrev DWord := BitVec 64
/-- One byte of memory (R4). -/
abbrev Byte := BitVec 8
/-- A lane mask: bit i belongs to lane position i (R100). -/
abbrev Mask := BitVec 64
/-- A 7-bit register field: 0-95 name v0-v95, 96-127 name k0-k31 (R141). -/
abbrev RegName := BitVec 7
/-- A 9-bit trap cause (R366). -/
abbrev Cause := BitVec 9

/-- The pair of registers with `lo` in the even one (R97). -/
def mkPair (lo hi : Word) : DWord := hi ++ lo
/-- The low word of a pair (R97). -/
def loWord (p : DWord) : Word := p.extractLsb' 0 32
/-- The high word of a pair (R97). -/
def hiWord (p : DWord) : Word := p.extractLsb' 32 32
/-- Low32 of 08_instr_arithmetic: an exact integer modulo 2^32. -/
def low32 (i : Int) : Word := BitVec.ofInt 32 i
/-- Clamp of 08_instr_arithmetic. -/
def clampInt (i lo hi : Int) : Int := if i < lo then lo else if hi < i then hi else i

end Sys2Proof
end

