-- ==== Sys2Proof/Config.lean ====
section
/-! DEFINITION. What an implementation fixes and what the spec leaves open: the numbers of the machine (01 R8-R12,
14 R311) and the uninterpreted functions (free values) of log entries 5 and 6. -/

namespace Sys2Proof.Config

/-- Compute cores 0-287 (R9). -/
def nCompute : Nat := 288
/-- Cores 0-303 (R9). -/
def nCores : Nat := 304
/-- Bytes of scratchpad a core can allocate (R311). -/
def spadBytes (core : Nat) : Nat := if core < nCompute then 524288 else 65536
/-- Register rows a core can allocate (R311). -/
def regRows (core : Nat) : Nat := if core < nCompute then 2048 else 512
/-- Teams a core can hold (R311). -/
def maxTeams (core : Nat) : Nat := if core < nCompute then 64 else 16
/-- A core has a matrix engine and an accumulator store exactly when it is a compute core (R146). -/
def hasMatrix (core : Nat) : Bool := core < nCompute
/-- Words the loop buffer and the fetch-ahead of a group hold (R12). -/
def loopWords : Nat := 256

/-- FREE VALUE (log entry 5): the raw choice a part makes for FEX2 off its special cases and exact points (R178). -/
opaque fex2 : Word → Word
/-- FREE VALUE (log entry 5): the raw choice a part makes for FLG2 (R178). -/
opaque flg2 : Word → Word
/-- FREE VALUE (log entry 5): the raw choice a part makes for FSIN (R178). -/
opaque fsin : Word → Word
/-- FREE VALUE (log entry 5): the raw choice a part makes for FCOS (R178). -/
opaque fcos : Word → Word
/-- FREE VALUE (log entry 5): the raw choice a part makes for FTANH (R178). -/
opaque ftanh : Word → Word

/-- FREE VALUE (log entry 6): SHA3-256, named by R348 and defined outside the spec. -/
opaque sha3w256 : List Byte → List Byte
/-- FREE VALUE (log entry 6): SHA3-384, named by R351 and defined outside the spec. -/
opaque sha3w384 : List Byte → List Byte
/-- FREE VALUE (log entry 6): Ed25519 verification of key, signature and message (R348). -/
opaque ed25519Ok : List Byte → List Byte → List Byte → Bool
/-- FREE VALUE (log entry 6): ML-DSA-65 verification of key, signature and message (R348). -/
opaque mldsaOk : List Byte → List Byte → List Byte → Bool
/-- FREE VALUE (log entry 6): the fused hash of the Ed25519 key (R348). -/
opaque fusedEdHash : List Byte
/-- FREE VALUE (log entry 6): the fused hash of the ML-DSA-65 key (R348). -/
opaque fusedMlHash : List Byte
/-- FREE VALUE (log entry 6): the fused minimum SVN of an image kind (R348). -/
opaque fusedMinSvn : Nat → Nat
/-- FREE VALUE (log entry 6): the attestation signature of Ed25519 over the report bytes (R351). -/
opaque attestEd : List Byte → List Byte → List Byte
/-- FREE VALUE (log entry 6): the attestation signature of ML-DSA-65 over the report bytes (R351). -/
opaque attestMl : List Byte → List Byte → List Byte

/-- FREE VALUE (log entry 8): the mirror peer of another package, which the domain fixes at bring-up (R11, R88). -/
opaque peerOf : Nat → Nat

end Sys2Proof.Config
end

