-- ==== Sys2Proof/Machine/Formats.lean ====
section
/-! DEFINITION. Number formats, rounding and exact sums (06 R116-R137), and the FP32 functions of 08 R175-R180. A
finite value is an exact dyadic, so every result is one rounding of an exact value. -/

namespace Sys2Proof.Machine

/-- A decoded value: a NaN, an infinity (negative?), or the finite ±m × 2^e. -/
inductive FVal where
  | nan (signalling : Bool)
  | inf (neg : Bool)
  | fin (neg : Bool) (m : Nat) (e : Int)
deriving DecidableEq, Repr

/-- The shape of an IEEE-style format (R116): width, fraction bits, bias, largest finite code, infinity code if any,
canonical NaN (R118). -/
structure Fmt where
  w : Nat
  mbits : Nat
  bias : Nat
  maxFin : Nat
  infCode : Option Nat
  nan : Nat
deriving DecidableEq, Repr

/-- FP32 (R116). -/
def fp32 : Fmt := ⟨32, 23, 127, 0x7F7FFFFF, some 0x7F800000, 0x7FC00000⟩
/-- FP16 (R116). -/
def fp16 : Fmt := ⟨16, 10, 15, 0x7BFF, some 0x7C00, 0x7E00⟩
/-- BF16 (R116). -/
def bf16 : Fmt := ⟨16, 7, 127, 0x7F7F, some 0x7F80, 0x7FC0⟩
/-- E4M3 (R116): no infinity, one NaN code of either sign. -/
def e4m3 : Fmt := ⟨8, 3, 7, 0x7E, none, 0x7F⟩
/-- E5M2 (R116). -/
def e5m2 : Fmt := ⟨8, 2, 15, 0x7B, some 0x7C, 0x7E⟩

/-- Exponent of the smallest quantum of a format: that of its subnormals (R117). -/
def fmtMinQ (F : Fmt) : Int := 1 - (F.bias : Int) - (F.mbits : Int)

/-- Sign bit of a code. -/
def codeNeg (F : Fmt) (x : Nat) : Bool := x / 2 ^ (F.w - 1) % 2 == 1
/-- Magnitude part of a code. -/
def codeMag (F : Fmt) (x : Nat) : Nat := x % 2 ^ (F.w - 1)

/-- DecodeIEEE (R117). -/
def decodeIEEE (F : Fmt) (x : Nat) : FVal :=
  let c := codeMag F x
  let s := codeNeg F x
  let ex := c / 2 ^ F.mbits
  let fr := c % 2 ^ F.mbits
  match F.infCode with
  | none => if F.maxFin < c then .nan false
            else if ex = 0 then .fin s fr (fmtMinQ F)
            else .fin s (2 ^ F.mbits + fr) (fmtMinQ F + (ex : Int) - 1)
  | some i => if c = i then .inf s
              else if i < c then .nan (fr / 2 ^ (F.mbits - 1) % 2 == 0)
              else if ex = 0 then .fin s fr (fmtMinQ F)
              else .fin s (2 ^ F.mbits + fr) (fmtMinQ F + (ex : Int) - 1)

/-- Length of the run of bits equal to bit 6 of a T8 code, from bit 6 down (R119). -/
def t8Run (c : Nat) : Nat :=
  let b := c / 64
  if c / 32 % 2 ≠ b then 1 else if c / 16 % 2 ≠ b then 2 else if c / 8 % 2 ≠ b then 3
  else if c / 4 % 2 ≠ b then 4 else if c / 2 % 2 ≠ b then 5 else if c % 2 ≠ b then 6 else 7

/-- Magnitude of a nonzero T8 code (R119), in units of 2^-12 (every T8 magnitude is a multiple of it). -/
def t8Mag (c : Nat) : Nat :=
  let n := t8Run c
  let k : Int := if c / 64 = 1 then (n : Int) - 1 else -(n : Int)
  let rest := 6 - n
  let e := if 1 ≤ rest then c / 2 ^ (5 - n) % 2 else 0
  let nf := rest - 1
  let f := c % 2 ^ nf
  let p := (2 * k + (e : Int) + 12).toNat
  if nf ≤ p then (2 ^ nf + f) * 2 ^ (p - nf) else (2 ^ nf + f) / 2 ^ (nf - p)

/-- DecodeT8 (R119): void is a quiet NaN. -/
def decodeT8 (x : Nat) : FVal :=
  let c := x % 128
  let s := x / 128 % 2 == 1
  if c = 0 then (if s then .nan false else .fin false 0 0) else .fin s (t8Mag c) (-12)

/-- Rounding modes (R124, R186). -/
inductive RMode where
  | rne
  | rz
  | sr (u : Nat)
  | rdn
  | rup
deriving DecidableEq, Repr

/-- Choose between lo (units of the quantum) and lo + 1, where the exact value is lo + rem / 2^sh of a quantum and
rem ≠ 0 (R126); `neg` matters only to the directed modes of R186. -/
def pickGrid (mode : RMode) (neg : Bool) (lo rem sh : Nat) : Nat :=
  match mode with
  | .rne => if 2 * rem < 2 ^ sh then lo else if 2 ^ sh < 2 * rem then lo + 1 else if lo % 2 = 0 then lo else lo + 1
  | .rz => lo
  | .sr u => if u < rem * 65536 / 2 ^ sh then lo + 1 else lo
  | .rdn => if neg then lo + 1 else lo
  | .rup => if neg then lo else lo + 1

/-- m × 2^e in units of 2^q, rounded. -/
def roundUnits (mode : RMode) (neg : Bool) (m : Nat) (e q : Int) : Nat :=
  if q ≤ e then m * 2 ^ (e - q).toNat
  else
    let sh := (q - e).toNat
    let lo := m / 2 ^ sh
    let rem := m % 2 ^ sh
    if rem = 0 then lo else pickGrid mode neg lo rem sh

/-- The quantum exponent of the unbounded grid at the magnitude m × 2^e, m ≠ 0 (R126). -/
def gridQ (F : Fmt) (m : Nat) (e : Int) : Int :=
  let q := (Nat.log2 m : Int) + e - (F.mbits : Int)
  if q < fmtMinQ F then fmtMinQ F else q

/-- The code, on the unbounded grid, of the rounded magnitude (R126): consecutive codes are consecutive magnitudes. -/
def roundCode (F : Fmt) (mode : RMode) (neg : Bool) (m : Nat) (e : Int) : Nat :=
  let q := gridQ F m e
  (q - fmtMinQ F).toNat * 2 ^ F.mbits + roundUnits mode neg m e q

/-- Put a sign on a magnitude code. -/
def signCode (F : Fmt) (neg : Bool) (c : Nat) : Nat := if neg then 2 ^ (F.w - 1) + c else c

/-- Overflow (R126): `ieee` is OVF = 1. -/
def overflowCode (F : Fmt) (ieee neg : Bool) : Nat :=
  if ieee then
    match F.infCode with
    | some i => signCode F neg i
    | none => F.nan
  else signCode F neg F.maxFin

/-- RoundToFormat for the IEEE-style formats (R126). -/
def roundIEEE (F : Fmt) (ieee : Bool) (mode : RMode) : FVal → Nat
  | .nan _ => F.nan
  | .inf s => overflowCode F ieee s
  | .fin s m e =>
    if m = 0 then signCode F s 0
    else
      let c := roundCode F mode s m e
      if F.maxFin < c then (if mode = .rz then signCode F s F.maxFin else overflowCode F ieee s) else signCode F s c

/-- The largest T8 code whose magnitude is at most num / 2^sh in units of 2^-12 (R126 over the codes of R119). -/
def t8Floor (num sh : Nat) : Nat → Nat
  | 0 => 1
  | c + 1 => if t8Mag (c + 1) * 2 ^ sh ≤ num then c + 1 else t8Floor num sh c

/-- EncodeT8 (R120). -/
def encodeT8 (ieee : Bool) (mode : RMode) : FVal → Nat
  | .nan _ => 0x80
  | .inf s => if ieee then 0x80 else if s then 0xFF else 0x7F
  | .fin s m e =>
    if m = 0 then 0
    else
      let sh := if e + 12 < 0 then (-(e + 12)).toNat else 0
      let num := if e + 12 < 0 then m else m * 2 ^ (e + 12).toNat
      let c :=
        if t8Mag 127 * 2 ^ sh ≤ num then 127
        else if num < t8Mag 1 * 2 ^ sh then 1
        else
          let lo := t8Floor num sh 126
          let d := num - t8Mag lo * 2 ^ sh
          let gap := (t8Mag (lo + 1) - t8Mag lo) * 2 ^ sh
          if d = 0 then lo
          else match mode with
            | .rne => if 2 * d < gap then lo else if gap < 2 * d then lo + 1 else if lo % 2 = 0 then lo else lo + 1
            | .sr u => if u < d * 65536 / gap then lo + 1 else lo
            | _ => lo
      if s then 128 + c else c

/-- Integer conversion with clamping (R121, R186). -/
def roundInt (lo hi : Int) (mode : RMode) : FVal → Int
  | .nan _ => 0
  | .inf s => if s then lo else hi
  | .fin s m e =>
    let n := roundUnits mode s m e 0
    clampInt (if s then -(n : Int) else (n : Int)) lo hi

/-- ELEM of R124: 0 FP32 ... 5 T8, 6 INT8, 7 UINT8, 8 INT32. -/
def elemWidth (elem : Nat) : Nat := if elem = 0 ∨ elem = 8 then 32 else if elem ≤ 2 then 16 else 8

/-- The shape of a floating ELEM other than T8. -/
def elemFmt (elem : Nat) : Fmt := if elem = 0 then fp32 else if elem = 1 then fp16 else if elem = 2 then bf16
  else if elem = 3 then e4m3 else e5m2

/-- An integer as a value. -/
def intVal (i : Int) : FVal := .fin (i < 0) i.natAbs 0

/-- Two's complement reading of the low w bits. -/
def signedOf (w x : Nat) : Int := let y := x % 2 ^ w; if 2 ^ (w - 1) ≤ y then (y : Int) - 2 ^ w else y

/-- Decode an element (R117, R119, R121). -/
def decodeElem (elem x : Nat) : FVal :=
  if elem = 5 then decodeT8 x
  else if elem = 6 then intVal (signedOf 8 x)
  else if elem = 7 then intVal (x % 256 : Nat)
  else if elem = 8 then intVal (signedOf 32 x)
  else decodeIEEE (elemFmt elem) (x % 2 ^ elemWidth elem)

/-- Encode a value into an element (R120, R121, R126). -/
def encodeElem (elem : Nat) (ieee : Bool) (mode : RMode) (v : FVal) : Nat :=
  if elem = 5 then encodeT8 ieee mode v
  else if elem = 6 then (roundInt (-128) 127 mode v % 256).toNat
  else if elem = 7 then (roundInt 0 255 mode v).toNat
  else if elem = 8 then (roundInt (-2147483648) 2147483647 mode v % 4294967296).toNat
  else roundIEEE (elemFmt elem) ieee mode v

/-- A signalling NaN (R133). -/
def isSnan : FVal → Bool
  | .nan true => true
  | _ => false
/-- Any NaN. -/
def isNan : FVal → Bool
  | .nan _ => true
  | _ => false

/-- Decode an FP32 word. -/
def dec32 (w : Word) : FVal := decodeIEEE fp32 w.toNat
/-- RoundToFormat to FP32 with ROUND = 0 and OVF = 1 (R127). -/
def rnd32 (v : FVal) : Word := BitVec.ofNat 32 (roundIEEE fp32 true .rne v)

/-! ## Exact arithmetic -/

/-- Signed integer of a finite value in units of 2^q, q at most its exponent. -/
def unitsOf (neg : Bool) (m : Nat) (e q : Int) : Int :=
  let n : Int := ((m * 2 ^ (e - q).toNat : Nat) : Int)
  if neg then -n else n

/-- Exact sum (R127, R132, R175): an exact zero sum is -0 only when both terms are -0. -/
def addV (a b : FVal) : FVal :=
  match a, b with
  | .nan s, .nan t => .nan (s || t)
  | .nan s, _ => .nan s
  | _, .nan s => .nan s
  | .inf s, .inf t => if s = t then .inf s else .nan false
  | .inf s, _ => .inf s
  | _, .inf s => .inf s
  | .fin s m e, .fin t n f =>
    let q := if e < f then e else f
    let x := unitsOf s m e q + unitsOf t n f q
    if x = 0 then .fin (s && t) 0 q else .fin (x < 0) x.natAbs q

/-- Exact product (R132, R175). DESIGN CHOICE (log entry 93): the sign of a zero product of integer elements is the exclusive-or of theirs, as
for numbers. -/
def mulV (a b : FVal) : FVal :=
  match a, b with
  | .nan s, .nan t => .nan (s || t)
  | .nan s, _ => .nan s
  | _, .nan s => .nan s
  | .inf s, .inf t => .inf (s != t)
  | .inf s, .fin t n _ => if n = 0 then .nan false else .inf (s != t)
  | .fin s m _, .inf t => if m = 0 then .nan false else .inf (s != t)
  | .fin s m e, .fin t n f => .fin (s != t) (m * n) (e + f)

/-- Negation; a NaN stays a NaN. -/
def negV : FVal → FVal
  | .nan s => .nan s
  | .inf s => .inf (!s)
  | .fin s m e => .fin (!s) m e

/-- Exact sum of a list of terms (R135). -/
def sumV : List FVal → FVal
  | [] => .fin false 0 0
  | [x] => x
  | x :: y :: rest => addV x (sumV (y :: rest))

/-- Order of two non-NaN values: `true` when a < b, taking -0 and +0 as equal. -/
def ltV (a b : FVal) : Bool :=
  match a, b with
  | .nan _, _ => false
  | _, .nan _ => false
  | .inf s, .inf t => s && !t
  | .inf s, .fin _ _ _ => s
  | .fin _ _ _, .inf t => !t
  | .fin s m e, .fin t n f =>
    let q := if e < f then e else f
    unitsOf s m e q < unitsOf t n f q
/-- Equality of two non-NaN values. -/
def eqV (a b : FVal) : Bool := !isNan a && !isNan b && !ltV a b && !ltV b a

/-- A zero of either sign. -/
def isZeroV : FVal → Bool
  | .fin _ 0 _ => true
  | _ => false
/-- A negative value, zeros included. -/
def isNegV : FVal → Bool
  | .inf s => s
  | .fin s _ _ => s
  | .nan _ => false

/-- MinF (false) and MaxF (true) on codes of a format (R134); P selects NaN propagation. -/
def minMaxCode (F : Fmt) (max p : Bool) (a b : Nat) : Nat :=
  let x := decodeIEEE F a
  let y := decodeIEEE F b
  if isSnan x || isSnan y then F.nan
  else if isNan x && isNan y then F.nan
  else if p && (isNan x || isNan y) then F.nan
  else if isNan x then b
  else if isNan y then a
  else if isZeroV x && isZeroV y then
    signCode F (if max then isNegV x && isNegV y else isNegV x || isNegV y) 0
  else if max then (if ltV x y then b else a) else (if ltV y x then b else a)

/-- TreeSum and the trees of R136 over any combining function; `fuel` is at least the number of levels. -/
def treeLevel (f : Word → Word → Word) : List Word → List Word
  | x :: y :: rest => f x y :: treeLevel f rest
  | xs => xs
/-- R136. -/
def treeFold (f : Word → Word → Word) : Nat → List Word → Word
  | _, [] => 0
  | _, [x] => x
  | 0, x :: _ => x
  | n + 1, xs => treeFold f n (treeLevel f xs)

/-- FP32 sum of two words (R127). -/
def add32 (a b : Word) : Word := rnd32 (addV (dec32 a) (dec32 b))
/-- A word that an instruction computes with, every NaN made canonical (R118). -/
def canon32 (a : Word) : Word := if isNan (dec32 a) then 0x7FC00000 else a

/-! ## Stochastic rounding -/

/-- Mix (R129). -/
def mix (x0 : Word) : Word :=
  let x1 := (x0 ^^^ (x0 >>> 16)) * 0x6B2F1D93#32
  let x2 := (x1 ^^^ (x1 >>> 15)) * 0x3C9A7E45#32
  x2 ^^^ (x2 >>> 16)

/-- The draw of R129. -/
def drawU (seed teamlin srcnt i : Word) : Nat := (mix (seed ^^^ teamlin ^^^ (srcnt <<< 8) ^^^ i)).toNat / 65536

/-! ## Format slots (R124) -/

/-- ELEM. -/
def slotElem (f : DWord) : Nat := (f.extractLsb' 0 4).toNat
/-- SCALE = 1. -/
def slotScale (f : DWord) : Bool := f.extractLsb' 8 4 == 1#4
/-- BLK in elements. -/
def slotBlk (f : DWord) : Nat := if f.extractLsb' 16 1 = 1#1 then 32 else 16
/-- OVF = 1. -/
def slotIeee (f : DWord) : Bool := f.extractLsb' 17 1 == 1#1
/-- ROUND. -/
def slotRound (f : DWord) : Nat := (f.extractLsb' 18 2).toNat
/-- SEED. -/
def slotSeed (f : DWord) : Word := f.extractLsb' 32 32
/-- The rounding mode of a slot with the draw u (R126). -/
def slotMode (f : DWord) (u : Nat) : RMode := if slotRound f = 0 then .rne else if slotRound f = 1 then .rz else .sr u
/-- The checks of R125 on one slot; the check against collective bindings is the launch's. -/
def slotOk (f : DWord) : Bool :=
  f.extractLsb' 20 12 == 0#12 && f.extractLsb' 12 4 == 0#4 && f.extractLsb' 4 4 == 0#4 &&
  slotElem f ≤ 8 && slotRound f != 3 && (f.extractLsb' 8 4).toNat ≤ 1 &&
  (slotScale f || f.extractLsb' 16 1 == 0#1) && (!slotScale f || (3 ≤ slotElem f && slotElem f ≤ 7))

/-- EMAX (R123). -/
def elemEmax (elem : Nat) : Int := if elem = 3 then 8 else if elem = 4 then 15 else if elem = 5 then 12
  else if elem = 6 then 6 else 7

/-- Floor(log₂ |v|) of a nonzero finite value. -/
def flog2 (m : Nat) (e : Int) : Int := (Nat.log2 m : Int) + e

/-- The largest Floor(log₂) among the finite nonzero values of a block, if any (R123). -/
def blockLog : List FVal → Option Int
  | [] => none
  | .fin _ m e :: rest =>
    if m = 0 then blockLog rest
    else match blockLog rest with
      | none => some (flog2 m e)
      | some l => some (if l < flog2 m e then flog2 m e else l)
  | _ :: rest => blockLog rest

/-- The E8 scale of a block (R123). -/
def blockScale (elem : Nat) (xs : List FVal) : Nat :=
  if xs.any isNan then 255
  else match blockLog xs with
    | none => 127
    | some l => (clampInt (l - elemEmax elem + 127) 0 254).toNat

/-- v × 2^k, exact. -/
def scaleV (k : Int) : FVal → FVal
  | .fin s m e => .fin s m (e + k)
  | v => v

/-- An element under an E8 scale byte (R122). -/
def scaledElem (scale : Nat) (v : FVal) : FVal := if scale = 255 then .nan false else scaleV ((scale : Int) - 127) v

/-! ## Correctly rounded functions (R178) -/

/-- Integer square root, one bit at a time. -/
def isqrtBits (x : Nat) : Nat → Nat → Nat
  | 0, r => r
  | n + 1, r => if (r + 2 ^ n) * (r + 2 ^ n) ≤ x then isqrtBits x n (r + 2 ^ n) else isqrtBits x n r
/-- Floor of the square root. -/
def isqrt (x : Nat) : Nat := isqrtBits x (Nat.log2 x / 2 + 1) 0

/-- m × 2^e with a sticky bit when the value is not exact: it rounds as the exact value does (R126). -/
def stickyV (neg : Bool) (m : Nat) (exact : Bool) (e : Int) : FVal :=
  .fin neg (2 * m + (if exact then 0 else 1)) (e - 1)

/-- 1 / a (R178). -/
def rcpV : FVal → FVal
  | .nan s => .nan s
  | .inf s => .fin s 0 0
  | .fin s m e =>
    if m = 0 then .inf s
    else
      let k := Nat.log2 m + 64
      stickyV s (2 ^ k / m) (2 ^ k % m == 0) (-(k : Int) - e)

/-- √a (R178). -/
def sqrtV : FVal → FVal
  | .nan s => .nan s
  | .inf s => if s then .nan false else .inf false
  | .fin s m e =>
    if m = 0 then .fin s 0 0
    else if s then .nan false
    else
      let odd : Nat := if e % 2 = 0 then 0 else 1
      let x := m * 2 ^ (odd + 128)
      let r := isqrt x
      stickyV false r (r * r == x) ((e - (odd : Int)) / 2 - 64)

/-- 1 / √a (R178). -/
def rsqV : FVal → FVal
  | .nan s => .nan s
  | .inf s => if s then .nan false else .fin false 0 0
  | .fin s m e =>
    if m = 0 then .inf s
    else if s then .nan false
    else
      let odd : Nat := if e % 2 = 0 then 0 else 1
      let d := m * 2 ^ odd
      let k := Nat.log2 d + 64
      let x := 2 ^ (2 * k) / d
      let r := isqrt x
      stickyV false r (r * r * d == 2 ^ (2 * k)) (-(k : Int) - (e - (odd : Int)) / 2)

/-! ## The approximations (R178, log entry 5)

The part's result is a free value of Config, kept within the error bound that R178 states: `window` is the interval of
FP32 codes that the bound allows, computed in fixed point with `apBits` bits. -/

/-- ln 2 × 2^300, rounded down. -/
def ln2C : Nat := 1411965743695424507508857192728570223734551239724995589061361292466257174357546532574725854
/-- π × 2^300, rounded down. -/
def piC : Nat := 6399537258350533404498902296276095619968599404742382956244570183135712832137875919436931981

/-- Fraction bits of the fixed-point arithmetic. -/
def apBits : Nat := 300

/-- Σ y^k / k! for fixed-point y, with n terms after the first: t is the current term. -/
def expSeries (y : Int) : Nat → Int → Int → Int
  | 0, _, _ => 0
  | n + 1, k, t => t + expSeries y n (k + 1) (t * y / 2 ^ apBits / k)

/-- exp y in fixed point, |y| < 1. -/
def expFix (y : Int) : Int := expSeries y 70 1 (2 ^ apBits)

/-- Σ z^(2k+1) / (2k+1): t is z^(2k+1). -/
def atanhSeries (z2 : Int) : Nat → Int → Int → Int
  | 0, _, _ => 0
  | n + 1, k, t => t / k + atanhSeries z2 n (k + 2) (t * z2 / 2 ^ apBits)

/-- log₂ of m × 2^e in fixed point. -/
def log2Fix (m : Nat) (e : Int) : Int :=
  let l := Nat.log2 m
  let x : Int := ((m * 2 ^ apBits / 2 ^ l : Nat) : Int)
  let one : Int := 2 ^ apBits
  let z := (x - one) * one / (x + one)
  let ln := 2 * atanhSeries (z * z / one) 100 1 z
  ((l : Int) + e) * one + ln * one / (ln2C : Int)

/-- Alternating Taylor series for sine and cosine: t is the current term. -/
def trigSeries (y2 : Int) : Nat → Int → Int → Int
  | 0, _, _ => 0
  | n + 1, k, t => t + trigSeries y2 n (k + 2) (-(t * y2 / 2 ^ apBits) / (k * (k + 1)))

/-- A finite value in fixed point. -/
def fixOf (s : Bool) (m : Nat) (e : Int) : Int :=
  let x : Int := e + apBits
  let n : Nat := if 0 ≤ x then m * 2 ^ x.toNat else m / 2 ^ (-x).toNat
  if s then -(n : Int) else n

/-- sin (false) or cos (true) of the fixed-point y, after reduction modulo 2π. -/
def trigFix (cos : Bool) (y : Int) : Int :=
  let p : Int := 2 * (piC : Int)
  let r := y % p
  let r := if (piC : Int) < r then r - p else r
  if cos then trigSeries (r * r / 2 ^ apBits) 50 1 (2 ^ apBits) else trigSeries (r * r / 2 ^ apBits) 50 2 r

/-- 2^a in fixed point times 2^-n: the pair (n, 2^(a-n)) with n = Floor(a). -/
def exp2Fix (s : Bool) (m : Nat) (e : Int) : Int × Int :=
  let x := fixOf s m e
  let n := x / 2 ^ apBits
  let f := x % 2 ^ apBits
  (n, expFix (f * (ln2C : Int) / 2 ^ apBits))

/-- tanh a in fixed point, |a| < 9. -/
def tanhFix (s : Bool) (m : Nat) (e : Int) : Int :=
  let one : Int := 2 ^ apBits
  let x := (fixOf false m e) / 8
  let q := expFix x
  let q := q * q / one
  let q := q * q / one
  let q := q * q / one
  let q := q * q / one
  let r := (q - one) * one / (q + one)
  if s then -r else r

/-- Fixed point as an exact value, moved by 2^k. -/
def valOfFix (x k : Int) : FVal := .fin (x < 0) x.natAbs (k - apBits)

/-- The order key of an FP32 code that is no NaN: codes in the order of their values. -/
def keyOf (w : Word) : Int :=
  let c : Int := (w.toNat % 2 ^ 31 : Nat)
  if w.msb then -c else c


/-- The FP32 value nearest to v on the given side. -/
def directed (up : Bool) (v : FVal) : Word :=
  match v with
  | .fin s m e =>
    if m = 0 then 0
    else
      let c := roundCode fp32 (if up then .rup else .rdn) s m e
      BitVec.ofNat 32 (signCode fp32 s (if fp32.maxFin < c then fp32.maxFin else c))
  | _ => 0

/-- Keep a free choice within err of v: itself when its value lies in [v - err, v + err], else the lowest FP32 value
there. -/
def within (v err : FVal) (free : Word) : Word :=
  let lo := directed true (addV v (negV err))
  let hi := directed false (addV v err)
  if keyOf lo ≤ keyOf free ∧ keyOf free ≤ keyOf hi then free else lo

/-- 2 ulp at v, and one part in 2^130 of it for the fixed-point error. -/
def twoUlp : FVal → FVal
  | .fin _ m e => if m = 0 then .fin false 1 (-148) else .fin false (2 ^ 130 + 1) (gridQ fp32 m e - 129)
  | v => v

/-- FEX2 (R178). -/
def fex2V (free : Word) (a : FVal) : Word :=
  match a with
  | .nan _ => 0x7FC00000
  | .inf s => if s then 0 else 0x7F800000
  | .fin s m e =>
    if m = 0 then 0x3F800000
    else
      let x := roundInt (-1000) 1000 (if s then .rdn else .rz) (.fin s m e)
      if 128 ≤ x then 0x7F800000
      else if ltV a (.fin true 150 0) || eqV a (.fin true 150 0) then 0
      else if eqV a (intVal x) ∧ -149 ≤ x then rnd32 (.fin false 1 x)
      else
        let (n, f) := exp2Fix s m e
        let v := valOfFix f n
        within v (twoUlp v) free

/-- FLG2 (R178). DESIGN CHOICE (log entry 93): the exact zero of FLG2(1.0) is +0. -/
def flg2V (free : Word) (a : FVal) : Word :=
  match a with
  | .nan _ => 0x7FC00000
  | .inf s => if s then 0x7FC00000 else 0x7F800000
  | .fin s m e =>
    if m = 0 then 0xFF800000
    else if s then 0x7FC00000
    else if m = 2 ^ Nat.log2 m then rnd32 (intVal (flog2 m e))
    else
      let v := valOfFix (log2Fix m e) 0
      let near := !ltV a (.fin false 1 (-1)) && !ltV (.fin false 2 0) a
      within v (if near then .fin false (2 ^ 130 + 1) (-152) else twoUlp v) free

/-- FSIN and FCOS (R178). -/
def trigV (cos : Bool) (free : Word) (a : FVal) : Word :=
  match a with
  | .nan _ => 0x7FC00000
  | .inf _ => 0x7FC00000
  | .fin s m e =>
    if m = 0 then (if cos then 0x3F800000 else if s then 0x80000000 else 0)
    else if ltV (.fin false 1 20) (.fin false m e) then 0x7FC00000
    else within (valOfFix (trigFix cos (fixOf s m e)) 0) (.fin false (2 ^ 130 + 1) (-151)) free

/-- FTANH (R178). -/
def ftanhV (free : Word) (a : FVal) : Word :=
  match a with
  | .nan _ => 0x7FC00000
  | .inf s => if s then 0xBF800000 else 0x3F800000
  | .fin s m e =>
    if m = 0 then (if s then 0x80000000 else 0)
    else if !ltV (.fin false m e) (.fin false 9 0) then (if s then 0xBF800000 else 0x3F800000)
    else
      let v := valOfFix (tanhFix s m e) 0
      within v (twoUlp v) free

end Sys2Proof.Machine
end

