-- ==== Sys2Proof/Machine/Flags.lean ====
section
/-! DEFINITION. What one lane computes (08): saturation, division, shifts, fields, comparisons, classes, the packed half
instructions and the conversions. The Brollira 288 keeps no arithmetic flags (R132); these comparison results, the class
test and the saturating and unordered cases are what stands in their place. -/

namespace Sys2Proof.Machine

/-- A truth value as a register (R172, R177). -/
def flag (b : Bool) : Word := if b then 1 else 0

/-! ## Integer (R167-R173) -/

/-- ADD (R167): wrapping, or clamped under .SAT. -/
def addF (sat : Bool) (a b : Word) : Word :=
  if sat then low32 (clampInt (a.toInt + b.toInt) (-2147483648) 2147483647) else a + b
/-- SUB (R167). -/
def subF (sat : Bool) (a b : Word) : Word :=
  if sat then low32 (clampInt (a.toInt - b.toInt) (-2147483648) 2147483647) else a - b
/-- MULH (R167): the high word of the exact product. -/
def mulhF (unsigned : Bool) (a b : Word) : Word :=
  if unsigned then BitVec.ofNat 32 (a.toNat * b.toNat / 2 ^ 32) else low32 ((a.toInt * b.toInt) / 2 ^ 32)
/-- DIV (R168). -/
def divF (unsigned : Bool) (a b : Word) : Word :=
  if b = 0 then 0xFFFFFFFF
  else if unsigned then BitVec.ofNat 32 (a.toNat / b.toNat)
  else if a = 0x80000000 ∧ b = 0xFFFFFFFF then 0x80000000
  else low32 (a.toInt.tdiv b.toInt)
/-- REM (R168). -/
def remF (unsigned : Bool) (a b : Word) : Word :=
  if b = 0 then a
  else if unsigned then BitVec.ofNat 32 (a.toNat % b.toNat)
  else if a = 0x80000000 ∧ b = 0xFFFFFFFF then 0
  else low32 (a.toInt.tmod b.toInt)
/-- SHL (R169). -/
def shlF (a : Word) (n : Nat) : Word := if 32 ≤ n then 0 else a <<< n
/-- SHR.L (R169). -/
def shrF (a : Word) (n : Nat) : Word := if 32 ≤ n then 0 else a >>> n
/-- SHR.A (R169). -/
def sarF (a : Word) (n : Nat) : Word := a.sshiftRight (min n 31)
/-- ABS (R170). -/
def absF (a : Word) : Word := low32 (a.toInt.natAbs : Int)
/-- CLZ (R170). -/
def clzF (a : Word) : Word := if a = 0 then 32 else BitVec.ofNat 32 (31 - Nat.log2 a.toNat)
/-- POPC (R170). -/
def popcF (a : Word) : Word := BitVec.ofNat 32 (((List.range 32).filter (fun i => a.getLsbD i)).length)
/-- BREV (R170). -/
def brevF (a : Word) : Word :=
  (List.range 32).foldl (fun d i => if a.getLsbD (31 - i) then d ||| BitVec.ofNat 32 (2 ^ i) else d) 0
/-- Position, width and mask of a field control (R171). -/
def fieldOf (b : Word) : Nat × Nat × Word :=
  let p := (b.extractLsb' 0 5).toNat
  let n := min (b.extractLsb' 8 6).toNat 32
  let w := min n (32 - p)
  (p, w, BitVec.ofNat 32 ((2 ^ w - 1) * 2 ^ p))
/-- BFX (R171). -/
def bfxF (a b : Word) : Word :=
  let (p, w, m) := fieldOf b
  let v := (a &&& m) >>> p
  if w = 0 then 0 else if b.getLsbD 16 then low32 (signedOf w v.toNat) else v
/-- BFI (R171). -/
def bfiF (d a b : Word) : Word :=
  let (p, _, m) := fieldOf b
  (d &&& ~~~m) ||| ((a <<< p) &&& m)
/-- ISET.LT (R172). -/
def isetLtF (unsigned : Bool) (a b : Word) : Word := flag (if unsigned then a.toNat < b.toNat else a.toInt < b.toInt)
/-- ISET.LE (R172). -/
def isetLeF (unsigned : Bool) (a b : Word) : Word := flag (if unsigned then a.toNat ≤ b.toNat else a.toInt ≤ b.toInt)
/-- SEL (R172). -/
def selF (d a b : Word) : Word := if d ≠ 0 then a else b

/-! ## Floating point (R175-R178) -/

/-- A signalling NaN operand (R133). -/
def snan32 (w : Word) : Bool := isSnan (dec32 w)
/-- FADD (R175). -/
def faddF (a b : Word) : Word := rnd32 (addV (dec32 a) (dec32 b))
/-- FSUB (R175). -/
def fsubF (a b : Word) : Word := rnd32 (addV (dec32 a) (negV (dec32 b)))
/-- FMUL (R175). -/
def fmulF (a b : Word) : Word := rnd32 (mulV (dec32 a) (dec32 b))
/-- FFMA (R175): one rounding. -/
def ffmaF (d a b : Word) : Word := rnd32 (addV (mulV (dec32 a) (dec32 b)) (dec32 d))
/-- FMIN and FMAX (R176). -/
def fminmaxF (max p : Bool) (a b : Word) : Word := BitVec.ofNat 32 (minMaxCode fp32 max p a.toNat b.toNat)
/-- Unordered (R177). -/
def unordered (a b : Word) : Bool := isNan (dec32 a) || isNan (dec32 b)
/-- FSET.EQ (R177). -/
def fsetEqF (a b : Word) : Word := flag (!unordered a b && eqV (dec32 a) (dec32 b))
/-- FSET.NE (R177). -/
def fsetNeF (a b : Word) : Word := flag (unordered a b || !eqV (dec32 a) (dec32 b))
/-- FSET.LT (R177). -/
def fsetLtF (un : Bool) (a b : Word) : Word := flag ((un && unordered a b) || (!unordered a b && ltV (dec32 a) (dec32 b)))
/-- FSET.LE (R177). -/
def fsetLeF (un : Bool) (a b : Word) : Word :=
  flag ((un && unordered a b) || (!unordered a b && (ltV (dec32 a) (dec32 b) || eqV (dec32 a) (dec32 b))))
/-- The class bit of an FP32 value (R177). -/
def fclassBit (a : Word) : Nat :=
  let neg := a.getLsbD 31
  let e := (a.extractLsb' 23 8).toNat
  let f := (a.extractLsb' 0 23).toNat
  if e = 255 then (if f = 0 then 2 else if a.getLsbD 22 then 1 else 0)
  else if e = 0 then (if f = 0 then 5 else if neg then 4 else 6)
  else if neg then 3 else 7
/-- FCLASS (R177). -/
def fclassF (imm : BitVec 8) (a : Word) : Word := flag (imm.getLsbD (fclassBit a))
/-- FNEG (R178): a NaN input gives the canonical NaN. -/
def fnegF (a : Word) : Word := if isNan (dec32 a) then 0x7FC00000 else a ^^^ 0x80000000
/-- FABS (R178). -/
def fabsF (a : Word) : Word := if isNan (dec32 a) then 0x7FC00000 else a &&& 0x7FFFFFFF
/-- FRCP (R178). -/
def frcpF (a : Word) : Word := rnd32 (rcpV (dec32 a))
/-- FRSQ (R178). -/
def frsqF (a : Word) : Word := rnd32 (rsqV (dec32 a))
/-- FSQRT (R178). -/
def fsqrtF (a : Word) : Word := rnd32 (sqrtV (dec32 a))
/-- FEX2 (R178), free within its bound (log entry 5). -/
def fex2F (a : Word) : Word := fex2V (Config.fex2 a) (dec32 a)
/-- FLG2 (R178). -/
def flg2F (a : Word) : Word := flg2V (Config.flg2 a) (dec32 a)
/-- FSIN (R178). -/
def fsinF (a : Word) : Word := trigV false (Config.fsin a) (dec32 a)
/-- FCOS (R178). -/
def fcosF (a : Word) : Word := trigV true (Config.fcos a) (dec32 a)
/-- FTANH (R178). -/
def ftanhF (a : Word) : Word := ftanhV (Config.ftanh a) (dec32 a)

/-! ## Packed halves (R179, R180) -/

/-- The format of .F16 and .BF16. -/
def halfFmt (bf : Bool) : Fmt := if bf then bf16 else fp16
/-- Half h of a register. -/
def half (w : Word) (h : Nat) : Nat := (w.extractLsb' (16 * h) 16).toNat
/-- A register of two halves. -/
def halves (lo hi : Nat) : Word := BitVec.ofNat 32 (hi * 65536 + lo)
/-- Half h as a value. -/
def decHalf (bf : Bool) (w : Word) (h : Nat) : FVal := decodeIEEE (halfFmt bf) (half w h)
/-- Round to a half (R127). -/
def rndHalf (bf : Bool) (v : FVal) : Nat := roundIEEE (halfFmt bf) true .rne v
/-- A half of any of the operands is a signalling NaN. -/
def snanHalves (bf : Bool) (ws : List Word) : Bool := ws.any (fun w => isSnan (decHalf bf w 0) || isSnan (decHalf bf w 1))
/-- Both halves. -/
def onHalves (f : Nat → Nat) : Word := halves (f 0) (f 1)
/-- HADD2 (R179). -/
def hadd2F (bf : Bool) (a b : Word) : Word := onHalves (fun h => rndHalf bf (addV (decHalf bf a h) (decHalf bf b h)))
/-- HMUL2 (R179). -/
def hmul2F (bf : Bool) (a b : Word) : Word := onHalves (fun h => rndHalf bf (mulV (decHalf bf a h) (decHalf bf b h)))
/-- HFMA2 (R179): one rounding. -/
def hfma2F (bf : Bool) (d a b : Word) : Word :=
  onHalves (fun h => rndHalf bf (addV (mulV (decHalf bf a h) (decHalf bf b h)) (decHalf bf d h)))
/-- HMIN2, HMAX2 (R180). -/
def hminmaxF (bf max p : Bool) (d a : Word) : Word := onHalves (fun h => minMaxCode (halfFmt bf) max p (half a h) (half d h))
/-- HNEG2 (R180). -/
def hneg2F (bf : Bool) (a : Word) : Word :=
  onHalves (fun h => if isNan (decHalf bf a h) then (halfFmt bf).nan else (half a h) ^^^ 0x8000)
/-- HABS2 (R180). -/
def habs2F (bf : Bool) (a : Word) : Word :=
  onHalves (fun h => if isNan (decHalf bf a h) then (halfFmt bf).nan else half a h % 0x8000)

/-! ## Conversions (R182-R188) -/

/-- CVTS (R183): element p of d in the slot's format. -/
def cvtsF (slot : DWord) (p u : Nat) (d a : Word) : Word :=
  let w := elemWidth (slotElem slot)
  let e := encodeElem (slotElem slot) (slotIeee slot) (slotMode slot u) (dec32 a)
  let m := BitVec.ofNat 32 ((2 ^ w - 1) * 2 ^ (w * p))
  (d &&& ~~~m) ||| (BitVec.ofNat 32 (e * 2 ^ (w * p)) &&& m)
/-- Element p of a register, as a code (R184). -/
def elemAt (slot : DWord) (p : Nat) (a : Word) : Nat :=
  let w := elemWidth (slotElem slot)
  a.toNat / 2 ^ (w * p) % 2 ^ w
/-- CVTX (R184): INT32 is rounded under the slot's ROUND. -/
def cvtxF (slot : DWord) (p u : Nat) (a : Word) : Word :=
  let v := decodeElem (slotElem slot) (elemAt slot p a)
  if slotElem slot = 8 then BitVec.ofNat 32 (roundIEEE fp32 true (slotMode slot u) v) else rnd32 v
/-- A signalling NaN in CVTX's element (R184). -/
def cvtxSnan (slot : DWord) (p : Nat) (a : Word) : Bool := isSnan (decodeElem (slotElem slot) (elemAt slot p a))
/-- The rounding mode CVTI carries (R186). -/
def cvtiMode (r : BitVec 2) : RMode :=
  if r = 0 then .rne else if r = 1 then .rz else if r = 2 then .rdn else .rup
/-- CVTI (R186): u is DIR, v is U. -/
def cvtiF (dir un : Bool) (r : BitVec 2) (a : Word) : Word :=
  if !dir then
    low32 (if un then roundInt 0 4294967295 (cvtiMode r) (dec32 a)
           else roundInt (-2147483648) 2147483647 (cvtiMode r) (dec32 a))
  else BitVec.ofNat 32 (roundIEEE fp32 true (cvtiMode r) (intVal (if un then (a.toNat : Int) else a.toInt)))
/-- CVTB (R187): the registers written, in order. -/
def cvtbF (slot : DWord) (xs : List Word) : List Word :=
  let vs := xs.map dec32
  let e := blockScale (slotElem slot) vs
  let code := fun v => if e = 255 then 0 else
    encodeElem (slotElem slot) (slotIeee slot) (slotMode slot 0) (scaleV (127 - (e : Int)) v)
  let cs := vs.map code
  (List.range (xs.length / 4)).map (fun j =>
    BitVec.ofNat 32 (cs.getD (4 * j) 0 + 256 * cs.getD (4 * j + 1) 0 + 65536 * cs.getD (4 * j + 2) 0 +
      16777216 * cs.getD (4 * j + 3) 0)) ++ [BitVec.ofNat 32 e]
/-- CVTH narrowing (R188): half h of d becomes a, rounded. -/
def cvthNarrow (bf : Bool) (h : Nat) (d a : Word) : Word :=
  let c := rndHalf bf (dec32 a)
  if h = 0 then halves c (half d 1) else halves (half d 0) c
/-- CVTH widening (R188). -/
def cvthWiden (bf : Bool) (h : Nat) (a : Word) : Word := rnd32 (decHalf bf a h)

end Sys2Proof.Machine
end

