-- ==== Sys2Proof/Syntax.lean ====
section
/-! DEFINITION. The instructions and events of the Brollira 288: one constructor for each row of
spec/opcode_table.json. The 177 encoded rows carry the fields of their word (07 R139-R142; `s` is the stall count
S); the 83 event rows, which have no encoding, carry what the environment or the acting unit decides. -/

namespace Sys2Proof

/-- An agent of translation coherence (R79): a core, a slice's L2 translation cache, a fabric port, a network port or the storage
port; `pkg` stands for every agent of another package (R87). -/
inductive Agent where
  | core (n : Nat)
  | slice (n : Nat)
  | port (n : Nat)
  | net (n : Nat)
  | storage
  | pkg (n : Nat)
deriving DecidableEq, Repr

/-- Coherence state of a holder of a control sector's data (R86). -/
inductive CState where
  | m
  | o
  | e
  | s
deriving DecidableEq, Repr

/-- How the word of data that travel stands: good, poisoned (R411), or with a check that does not fit, which is carried and not
verified (R409). -/
inductive Mark where
  | good
  | poisoned
  | unfit
deriving DecidableEq, Repr

/-- What the far end of a remote access answers (R222, R236, R332): `start` is the sending of the request. -/
inductive RemoteResp where
  | start
  | data (bytes : List Byte) (mark : Mark)
  | ack
  | fail (cause : Cause)
deriving DecidableEq, Repr

/-- What a remote access does at its destination (R220, R235). A write carries the elements gathered into one packet (R332): the
offset of each from the packet's address, its bytes, and how they stand. A read says whether its word is moved whole, and so is not
verified (R409). -/
inductive RemoteOp where
  | read (size : Nat) (whole : Bool)
  | write (parts : List (Nat × List Byte × Mark))
  | atom (op : Nat) (operands : List Word)
deriving DecidableEq, Repr

/-- A remote access that arrives at this package: whence, by which fabric port (R79), for which operation there (R412), the context
it runs under and its tensor address (R70). -/
structure RemoteReq where
  src : Nat
  port : Nat
  copy : Nat
  ctx : BitVec 16
  addr : DWord
  op : RemoteOp
deriving DecidableEq, Repr

/-- What a package reports of a sector in a rebuild (R418): the state it holds the data in, whether its agents hold it in T, and the
data of an M or O holder with the marks of its two words: bits 0 and 1 poisoned, bits 2 and 3 a check that does not fit. -/
structure HeldCopy where
  pkg : Nat
  sector : Nat
  state : Option CState
  t : Bool
  data : List Byte
  marks : Nat
deriving DecidableEq, Repr

/-- A control-space message of another package that reaches this one (R81, R86-R90, R416, R418). The first part are requests to a
home or mirror here; the second what a home elsewhere, or a holder of a sector homed here, says. `marks` are those of the two words of the
data (R409, R411): bits 0 and 1 poisoned, bits 2 and 3 a check that does not fit. -/
inductive HomeReq where
  | readShared (pkg sector : Nat)
  | readOwned (pkg sector : Nat)
  | walk (pkg sector : Nat)
  | store (pkg addr : Nat) (data : List Byte)
  | cadd (pkg core fmt addr : Nat) (operand : DWord)
  | writeback (pkg sector : Nat) (data : List Byte) (marks : Nat)
  | supply (pkg sector : Nat) (data : List Byte) (marks : Nat) (dirty : Bool)
  | leave (pkg region : Nat)
  | mirror (pkg sector : Nat) (data : List Byte) (marks : Nat) (dl : Bool)
  /-- the boot region, with its poisoned words and those whose check does not fit -/
  | bootCopy (pkg : Nat) (cells : List (Nat × Byte)) (poison bad : List Nat)
  | query (pkg lost : Nat)
  /-- a pin of an open collective is placed or released (R438) -/
  | pin (pkg sector : Nat) (on : Bool)
  /-- an ICINV of another package covers this one (R280, R297): its number there -/
  | icinv (pkg num : Nat) (ctx : BitVec 16) (start len : Nat)
  /-- an answer: 0 a walk read, 1 shared, 2 exclusive; the data and their marks -/
  | grant (pkg sector kind : Nat) (data : List Byte) (marks : Nat)
  | caddDone (pkg op lane : Nat)
  | invalidate (pkg sector : Nat)
  | callHome (pkg sector : Nat)
  /-- the mirror home has made a write of the sector (R88); a package has dropped the range of this one's ICINV -/
  | mirrorMade (pkg sector : Nat)
  | icinvDone (pkg num : Nat)
deriving DecidableEq, Repr

/-- What a collective packet carries (R338): a partial of the chain, a final result, or all-gather data. -/
inductive CollBody where
  | partSum (words : List Word)
  | result (bytes : List Byte)
  | gather (bytes : List Byte)
  /-- the acknowledgement of a packet (R339) -/
  | ack
deriving DecidableEq, Repr

/-- A collective packet (R333, R338, R340): NMEMB and the sender's position travel with it. -/
structure CollPkt where
  ctx : Nat
  c : Nat
  chunk : Nat
  pos : Nat
  nmemb : Nat
  rank : Nat
  pkg : Nat
  body : CollBody
deriving DecidableEq, Repr

/-- What the hub firmware learns of the peer package (R349): its identity words, whether the link is up and whether
the peer can take the mirror copy. -/
structure PeerInfo where
  linkUp : Bool
  pkgid : Nat
  peer : Nat
  ready : Bool
deriving DecidableEq, Repr

/-- Where a memory error struck (R411). -/
inductive EccSite where
  | ctl (word : Nat)
  | ten (word : Nat)
  | spad (core word : Nat)
  | reg (core index : Nat)
  | acc (core index : Nat)
deriving DecidableEq, Repr

/-- A memory error (R411): corrected; uncorrectable in a clean cached copy; uncorrectable in the only or a dirty
copy; or unseen by ECC, so that only the sillage catches it (R410). -/
inductive EccEvent where
  | corrected
  | clean (site : EccSite)
  | dirty (site : EccSite)
  | silent (site : EccSite)
deriving DecidableEq, Repr

/-- One physical lane's sample of a link interval (R426). -/
structure LinkSample where
  corr : Nat
  margin : Nat
deriving DecidableEq, Repr

/-- A memory access of the host endpoint, the storage port or a network port (R349, R409-R411): in control or tensor
memory, a read or a write with its bytes and its poison mark. One of the storage port (port 2) or a network port (0 and 1) may name
a virtual address under a context (R79). -/
structure HostAccess where
  port : Nat
  ctx : Option (BitVec 16)
  tensor : Bool
  write : Bool
  addr : Nat
  data : List Byte
  poisoned : Bool
deriving DecidableEq, Repr

/-- The rows of spec/opcode_table.json. -/
inductive Instr where
  | blk (s : BitVec 3) (i : BitVec 8) -- BLK, R192
  | br (s : BitVec 3) (o : BitVec 8) -- BR, R193
  | bz (s : BitVec 3) (o : BitVec 8) (a : BitVec 7) -- BZ, R193
  | bnz (s : BitVec 3) (o : BitVec 8) (a : BitVec 7) -- BNZ, R193
  | bms (s : BitVec 3) (o : BitVec 8) (m : BitVec 3) -- BMS, R193
  | bmc (s : BitVec 3) (o : BitVec 8) (m : BitVec 3) -- BMC, R193
  | call (s : BitVec 3) (o : BitVec 8) (d : BitVec 7) -- CALL, R195
  | jmp (s : BitVec 3) (a : BitVec 7) -- JMP, R194
  | calli (s : BitVec 3) (d : BitVec 7) (a : BitVec 7) -- CALLI, R195
  | ret (s : BitVec 3) (a : BitVec 7) -- RET, R194
  | nop (s : BitVec 3) -- NOP, R197
  | yield (s : BitVec 3) -- YIELD, R197
  | exit (s : BitVec 3) -- EXIT, R197
  | add (s : BitVec 3) (x : BitVec 1) (d : BitVec 7) (a : BitVec 7) (b : BitVec 7) -- ADD, R167
  | sub (s : BitVec 3) (x : BitVec 1) (d : BitVec 7) (a : BitVec 7) (b : BitVec 7) -- SUB, R167
  | addi (s : BitVec 3) (i : BitVec 8) (d : BitVec 7) (a : BitVec 7) -- ADDI, R167
  | mul (s : BitVec 3) (d : BitVec 7) (a : BitVec 7) (b : BitVec 7) -- MUL, R167
  | mulh (s : BitVec 3) (x : BitVec 1) (d : BitVec 7) (a : BitVec 7) (b : BitVec 7) -- MULH, R167
  | muli (s : BitVec 3) (i : BitVec 8) (d : BitVec 7) (a : BitVec 7) -- MULI, R167
  | div (s : BitVec 3) (x : BitVec 1) (d : BitVec 7) (a : BitVec 7) (b : BitVec 7) -- DIV, R168
  | rem (s : BitVec 3) (x : BitVec 1) (d : BitVec 7) (a : BitVec 7) (b : BitVec 7) -- REM, R168
  | and (s : BitVec 3) (d : BitVec 7) (a : BitVec 7) (b : BitVec 7) -- AND, R169
  | or (s : BitVec 3) (d : BitVec 7) (a : BitVec 7) (b : BitVec 7) -- OR, R169
  | xor (s : BitVec 3) (d : BitVec 7) (a : BitVec 7) (b : BitVec 7) -- XOR, R169
  | andi (s : BitVec 3) (i : BitVec 8) (d : BitVec 7) (a : BitVec 7) -- ANDI, R169
  | ori (s : BitVec 3) (i : BitVec 8) (d : BitVec 7) (a : BitVec 7) -- ORI, R169
  | xori (s : BitVec 3) (i : BitVec 8) (d : BitVec 7) (a : BitVec 7) -- XORI, R169
  | shl (s : BitVec 3) (d : BitVec 7) (a : BitVec 7) (b : BitVec 7) -- SHL, R169
  | shr (s : BitVec 3) (x : BitVec 1) (d : BitVec 7) (a : BitVec 7) (b : BitVec 7) -- SHR, R169
  | shli (s : BitVec 3) (i : BitVec 8) (d : BitVec 7) (a : BitVec 7) -- SHLI, R169
  | shri (s : BitVec 3) (i : BitVec 8) (d : BitVec 7) (a : BitVec 7) -- SHRI, R169
  | shrai (s : BitVec 3) (i : BitVec 8) (d : BitVec 7) (a : BitVec 7) -- SHRAI, R169
  | movi (s : BitVec 3) (i : BitVec 8) (d : BitVec 7) -- MOVI, R169
  | not (s : BitVec 3) (d : BitVec 7) (a : BitVec 7) -- NOT, R170
  | neg (s : BitVec 3) (d : BitVec 7) (a : BitVec 7) -- NEG, R170
  | abs (s : BitVec 3) (d : BitVec 7) (a : BitVec 7) -- ABS, R170
  | clz (s : BitVec 3) (d : BitVec 7) (a : BitVec 7) -- CLZ, R170
  | popc (s : BitVec 3) (d : BitVec 7) (a : BitVec 7) -- POPC, R170
  | brev (s : BitVec 3) (d : BitVec 7) (a : BitVec 7) -- BREV, R170
  | mov (s : BitVec 3) (d : BitVec 7) (a : BitVec 7) -- MOV, R170
  | bfx (s : BitVec 3) (d : BitVec 7) (a : BitVec 7) (b : BitVec 7) -- BFX, R171
  | bfi (s : BitVec 3) (d : BitVec 7) (a : BitVec 7) (b : BitVec 7) -- BFI, R171
  | isetEq (s : BitVec 3) (d : BitVec 7) (a : BitVec 7) (b : BitVec 7) -- ISET_EQ, R172
  | isetNe (s : BitVec 3) (d : BitVec 7) (a : BitVec 7) (b : BitVec 7) -- ISET_NE, R172
  | isetLt (s : BitVec 3) (x : BitVec 1) (d : BitVec 7) (a : BitVec 7) (b : BitVec 7) -- ISET_LT, R172
  | isetLe (s : BitVec 3) (x : BitVec 1) (d : BitVec 7) (a : BitVec 7) (b : BitVec 7) -- ISET_LE, R172
  | sel (s : BitVec 3) (d : BitVec 7) (a : BitVec 7) (b : BitVec 7) -- SEL, R172
  | add64 (s : BitVec 3) (d : BitVec 7) (a : BitVec 7) (b : BitVec 7) -- ADD64, R173
  | addi64 (s : BitVec 3) (i : BitVec 8) (d : BitVec 7) (a : BitVec 7) -- ADDI64, R173
  | lea (s : BitVec 3) (d : BitVec 7) (a : BitVec 7) (b : BitVec 7) -- LEA, R173
  | imad (s : BitVec 3) (d : BitVec 7) (a : BitVec 7) (b : BitVec 7) -- IMAD, R167
  | fadd (s : BitVec 3) (d : BitVec 7) (a : BitVec 7) (b : BitVec 7) -- FADD, R175
  | fsub (s : BitVec 3) (d : BitVec 7) (a : BitVec 7) (b : BitVec 7) -- FSUB, R175
  | fmul (s : BitVec 3) (d : BitVec 7) (a : BitVec 7) (b : BitVec 7) -- FMUL, R175
  | ffma (s : BitVec 3) (d : BitVec 7) (a : BitVec 7) (b : BitVec 7) -- FFMA, R175
  | fmin (s : BitVec 3) (x : BitVec 1) (d : BitVec 7) (a : BitVec 7) (b : BitVec 7) -- FMIN, R176
  | fmax (s : BitVec 3) (x : BitVec 1) (d : BitVec 7) (a : BitVec 7) (b : BitVec 7) -- FMAX, R176
  | fsetEq (s : BitVec 3) (d : BitVec 7) (a : BitVec 7) (b : BitVec 7) -- FSET_EQ, R177
  | fsetNe (s : BitVec 3) (d : BitVec 7) (a : BitVec 7) (b : BitVec 7) -- FSET_NE, R177
  | fsetLt (s : BitVec 3) (x : BitVec 1) (d : BitVec 7) (a : BitVec 7) (b : BitVec 7) -- FSET_LT, R177
  | fsetLe (s : BitVec 3) (x : BitVec 1) (d : BitVec 7) (a : BitVec 7) (b : BitVec 7) -- FSET_LE, R177
  | fclass (s : BitVec 3) (i : BitVec 8) (d : BitVec 7) (a : BitVec 7) -- FCLASS, R177
  | fneg (s : BitVec 3) (d : BitVec 7) (a : BitVec 7) -- FNEG, R178
  | fabs (s : BitVec 3) (d : BitVec 7) (a : BitVec 7) -- FABS, R178
  | frcp (s : BitVec 3) (d : BitVec 7) (a : BitVec 7) -- FRCP, R178
  | frsq (s : BitVec 3) (d : BitVec 7) (a : BitVec 7) -- FRSQ, R178
  | fsqrt (s : BitVec 3) (d : BitVec 7) (a : BitVec 7) -- FSQRT, R178
  | fex2 (s : BitVec 3) (d : BitVec 7) (a : BitVec 7) -- FEX2, R178
  | flg2 (s : BitVec 3) (d : BitVec 7) (a : BitVec 7) -- FLG2, R178
  | fsin (s : BitVec 3) (d : BitVec 7) (a : BitVec 7) -- FSIN, R178
  | fcos (s : BitVec 3) (d : BitVec 7) (a : BitVec 7) -- FCOS, R178
  | ftanh (s : BitVec 3) (d : BitVec 7) (a : BitVec 7) -- FTANH, R178
  | hadd2 (s : BitVec 3) (x : BitVec 1) (d : BitVec 7) (a : BitVec 7) (b : BitVec 7) -- HADD2, R179
  | hmul2 (s : BitVec 3) (x : BitVec 1) (d : BitVec 7) (a : BitVec 7) (b : BitVec 7) -- HMUL2, R179
  | hfma2 (s : BitVec 3) (x : BitVec 1) (d : BitVec 7) (a : BitVec 7) (b : BitVec 7) -- HFMA2, R179
  | hmin2 (s : BitVec 3) (x : BitVec 1) (d : BitVec 7) (a : BitVec 7) -- HMIN2, R180
  | hmin2P (s : BitVec 3) (x : BitVec 1) (d : BitVec 7) (a : BitVec 7) -- HMIN2_P, R180
  | hmax2 (s : BitVec 3) (x : BitVec 1) (d : BitVec 7) (a : BitVec 7) -- HMAX2, R180
  | hmax2P (s : BitVec 3) (x : BitVec 1) (d : BitVec 7) (a : BitVec 7) -- HMAX2_P, R180
  | hneg2 (s : BitVec 3) (x : BitVec 1) (d : BitVec 7) (a : BitVec 7) -- HNEG2, R180
  | habs2 (s : BitVec 3) (x : BitVec 1) (d : BitVec 7) (a : BitVec 7) -- HABS2, R180
  | cvts (s : BitVec 3) (d : BitVec 7) (a : BitVec 7) (p : BitVec 2) (f : BitVec 3) -- CVTS, R183
  | cvtx (s : BitVec 3) (d : BitVec 7) (a : BitVec 7) (p : BitVec 2) (f : BitVec 3) -- CVTX, R184
  | cvti (s : BitVec 3) (d : BitVec 7) (a : BitVec 7) (u : BitVec 1) (v : BitVec 1) (r : BitVec 2) -- CVTI, R186
  | cvtb (s : BitVec 3) (d : BitVec 7) (a : BitVec 7) (f : BitVec 3) -- CVTB, R187
  | cvthF2hl (s : BitVec 3) (d : BitVec 7) (a : BitVec 7) -- CVTH_F2HL, R188
  | cvthF2hh (s : BitVec 3) (d : BitVec 7) (a : BitVec 7) -- CVTH_F2HH, R188
  | cvthF2bl (s : BitVec 3) (d : BitVec 7) (a : BitVec 7) -- CVTH_F2BL, R188
  | cvthF2bh (s : BitVec 3) (d : BitVec 7) (a : BitVec 7) -- CVTH_F2BH, R188
  | cvthHl2f (s : BitVec 3) (d : BitVec 7) (a : BitVec 7) -- CVTH_HL2F, R188
  | cvthHh2f (s : BitVec 3) (d : BitVec 7) (a : BitVec 7) -- CVTH_HH2F, R188
  | cvthBl2f (s : BitVec 3) (d : BitVec 7) (a : BitVec 7) -- CVTH_BL2F, R188
  | cvthBh2f (s : BitVec 3) (d : BitVec 7) (a : BitVec 7) -- CVTH_BH2F, R188
  | lane (s : BitVec 3) (x : BitVec 1) (d : BitVec 7) -- LANE, R202
  | shfl (s : BitVec 3) (x : BitVec 1) (d : BitVec 7) (a : BitVec 7) (b : BitVec 7) -- SHFL, R201
  | voteAny (s : BitVec 3) (x : BitVec 1) (d : BitVec 7) (a : BitVec 7) -- VOTE_ANY, R201
  | voteAll (s : BitVec 3) (x : BitVec 1) (d : BitVec 7) (a : BitVec 7) -- VOTE_ALL, R201
  | voteBallot (s : BitVec 3) (m : BitVec 3) (a : BitVec 7) -- VOTE_BALLOT, R202
  | bcast (s : BitVec 3) (x : BitVec 1) (d : BitVec 7) (a : BitVec 7) (b : BitVec 7) -- BCAST, R201
  | matchLanes (s : BitVec 3) (x : BitVec 1) (d : BitVec 7) (a : BitVec 7) -- MATCH, R201
  | redAdd (s : BitVec 3) (x : BitVec 1) (d : BitVec 7) (a : BitVec 7) -- RED_ADD, R201
  | redMinS (s : BitVec 3) (x : BitVec 1) (d : BitVec 7) (a : BitVec 7) -- RED_MIN_S, R201
  | redMinU (s : BitVec 3) (x : BitVec 1) (d : BitVec 7) (a : BitVec 7) -- RED_MIN_U, R201
  | redMaxS (s : BitVec 3) (x : BitVec 1) (d : BitVec 7) (a : BitVec 7) -- RED_MAX_S, R201
  | redMaxU (s : BitVec 3) (x : BitVec 1) (d : BitVec 7) (a : BitVec 7) -- RED_MAX_U, R201
  | redAnd (s : BitVec 3) (x : BitVec 1) (d : BitVec 7) (a : BitVec 7) -- RED_AND, R201
  | redOr (s : BitVec 3) (x : BitVec 1) (d : BitVec 7) (a : BitVec 7) -- RED_OR, R201
  | redXor (s : BitVec 3) (x : BitVec 1) (d : BitVec 7) (a : BitVec 7) -- RED_XOR, R201
  | fredAdd (s : BitVec 3) (x : BitVec 1) (d : BitVec 7) (a : BitVec 7) -- FRED_ADD, R136
  | fredMin (s : BitVec 3) (x : BitVec 1) (d : BitVec 7) (a : BitVec 7) -- FRED_MIN, R201
  | fredMinp (s : BitVec 3) (x : BitVec 1) (d : BitVec 7) (a : BitVec 7) -- FRED_MINP, R201
  | fredMax (s : BitVec 3) (x : BitVec 1) (d : BitVec 7) (a : BitVec 7) -- FRED_MAX, R201
  | fredMaxp (s : BitVec 3) (x : BitVec 1) (d : BitVec 7) (a : BitVec 7) -- FRED_MAXP, R201
  | scanAdd (s : BitVec 3) (x : BitVec 1) (d : BitVec 7) (a : BitVec 7) -- SCAN_ADD, R201
  | scanXadd (s : BitVec 3) (x : BitVec 1) (d : BitVec 7) (a : BitVec 7) -- SCAN_XADD, R201
  | scanFadd (s : BitVec 3) (x : BitVec 1) (d : BitVec 7) (a : BitVec 7) -- SCAN_FADD, R201
  | barArrive (s : BitVec 3) (n : BitVec 5) (d : BitVec 7) -- BAR_ARRIVE, R204
  | barWait (s : BitVec 3) (n : BitVec 5) (a : BitVec 7) -- BAR_WAIT, R204
  | barSync (s : BitVec 3) (n : BitVec 5) -- BAR_SYNC, R204
  | regrp (s : BitVec 3) (k : BitVec 7) (f : BitVec 7) (c : BitVec 7) -- REGRP, R37
  | winb (s : BitVec 3) (i : BitVec 8) -- WINB, R208
  | tcall (s : BitVec 3) (m : BitVec 3) (p : BitVec 7) (n : BitVec 3) -- TCALL, R47
  | tret (s : BitVec 3) -- TRET, R59
  | ld (s : BitVec 3) (c : BitVec 1) (d : BitVec 7) (a : BitVec 7) (b : BitVec 7) -- LD, R216
  | ldB64 (s : BitVec 3) (c : BitVec 1) (d : BitVec 7) (a : BitVec 7) (b : BitVec 7) -- LD_B64, R216
  | ldB8 (s : BitVec 3) (d : BitVec 7) (a : BitVec 7) (b : BitVec 7) -- LD_B8, R216
  | ldB16 (s : BitVec 3) (d : BitVec 7) (a : BitVec 7) (b : BitVec 7) -- LD_B16, R216
  | ldNr (s : BitVec 3) (c : BitVec 1) (d : BitVec 7) (a : BitVec 7) (m : BitVec 3) -- LD_NR, R91
  | st (s : BitVec 3) (c : BitVec 1) (d : BitVec 7) (a : BitVec 7) (b : BitVec 7) -- ST, R216
  | stB64 (s : BitVec 3) (c : BitVec 1) (d : BitVec 7) (a : BitVec 7) (b : BitVec 7) -- ST_B64, R216
  | stB8 (s : BitVec 3) (d : BitVec 7) (a : BitVec 7) (b : BitVec 7) -- ST_B8, R216
  | stB16 (s : BitVec 3) (d : BitVec 7) (a : BitVec 7) (b : BitVec 7) -- ST_B16, R216
  | ldsp (s : BitVec 3) (d : BitVec 7) (a : BitVec 7) (b : BitVec 7) -- LDSP, R219
  | stsp (s : BitVec 3) (d : BitVec 7) (a : BitVec 7) (b : BitVec 7) -- STSP, R219
  | atom (s : BitVec 3) (d : BitVec 7) (a : BitVec 7) (o : BitVec 7) -- ATOM, R220
  | ratom (s : BitVec 3) (d : BitVec 7) (a : BitVec 7) (o : BitVec 7) -- RATOM, R222
  | cadd (s : BitVec 3) (d : BitVec 7) (a : BitVec 7) (f : BitVec 7) -- CADD, R223
  | fence (s : BitVec 3) (c : BitVec 7) -- FENCE, R224
  | fenceTc (s : BitVec 3) -- FENCE_TC, R225
  | fenceQ (s : BitVec 3) (a : BitVec 7) -- FENCE_Q, R226
  | pref (s : BitVec 3) (l : BitVec 7) (a : BitVec 7) -- PREF, R227
  | pgreq (s : BitVec 3) (h : BitVec 4) (a : BitVec 7) -- PGREQ, R92
  | qpush (s : BitVec 3) (q : BitVec 3) (a : BitVec 7) -- QPUSH, R230
  | qpop (s : BitVec 3) (d : BitVec 7) (m : BitVec 3) (q : BitVec 3) -- QPOP, R231
  | copy (s : BitVec 3) (h : BitVec 4) (a : BitVec 7) (q : BitVec 3) -- COPY, R232
  | hwait (s : BitVec 3) (h : BitVec 4) -- HWAIT, R237
  | htest (s : BitVec 3) (d : BitVec 7) (h : BitVec 4) -- HTEST, R237
  | hcancel (s : BitVec 3) (h : BitVec 4) -- HCANCEL, R237
  | hexport (s : BitVec 3) (d : BitVec 7) (h : BitVec 4) -- HEXPORT, R237
  | himport (s : BitVec 3) (h : BitVec 4) (a : BitVec 7) -- HIMPORT, R237
  | macq (s : BitVec 3) -- MACQ, R244
  | mrel (s : BitVec 3) -- MREL, R245
  | mma (s : BitVec 3) (x : BitVec 1) (t : BitVec 3) (a : BitVec 7) (b : BitVec 7) -- MMA, R252
  | mmaP (s : BitVec 3) (x : BitVec 1) (t : BitVec 3) (a : BitVec 7) (b : BitVec 7) -- MMA_P, R253
  | mzero (s : BitVec 3) (t : BitVec 3) -- MZERO, R256
  | mloada (s : BitVec 3) (t : BitVec 3) (a : BitVec 7) -- MLOADA, R256
  | mstorea (s : BitVec 3) (t : BitVec 3) (a : BitVec 7) -- MSTOREA, R256
  | collPost (s : BitVec 3) (h : BitVec 4) (c : BitVec 2) -- COLL_POST, R260
  | collFire (s : BitVec 3) (c : BitVec 2) (a : BitVec 7) -- COLL_FIRE, R260
  | collProg (s : BitVec 3) (d : BitVec 7) (c : BitVec 2) -- COLL_PROG, R260
  | collAgree (s : BitVec 3) (h : BitVec 4) (c : BitVec 2) -- COLL_AGREE, R435
  | deq (s : BitVec 3) (d : BitVec 7) (a : BitVec 7) -- DEQ, R264
  | enq (s : BitVec 3) (d : BitVec 7) (a : BitVec 7) -- ENQ, R265
  | launch (s : BitVec 3) (h : BitVec 4) (a : BitVec 7) -- LAUNCH, R266
  | wfetch (s : BitVec 3) (d : BitVec 7) (a : BitVec 7) -- WFETCH, R267
  | srd (s : BitVec 3) (r : BitVec 8) (d : BitVec 7) -- SRD, R275
  | swr (s : BitVec 3) (r : BitVec 8) (a : BitVec 7) -- SWR, R276
  | trap (s : BitVec 3) (n : BitVec 4) -- TRAP, R277
  | eret (s : BitVec 3) -- ERET, R278
  | kset (s : BitVec 3) (k : BitVec 5) (a : BitVec 7) -- KSET, R279
  | icinv (s : BitVec 3) (c : BitVec 7) (a : BitVec 7) -- ICINV, R280
  | isync (s : BitVec 3) -- ISYNC, R281
  | xlate (s : BitVec 3) (d : BitVec 7) (a : BitVec 7) -- XLATE, R282
  | sleep (s : BitVec 3) (a : BitVec 7) -- SLEEP, R283
  | halt (s : BitVec 3) -- HALT, R284
  | ctxsave (s : BitVec 3) (h : BitVec 4) (a : BitVec 7) -- CTXSAVE, R285
  | ctxload (s : BitVec 3) (h : BitVec 4) (a : BitVec 7) -- CTXLOAD, R285
  | stallCountExpiry (core gid : Nat) -- STALL_COUNT_EXPIRY, R25
  | deferredRelease (core gid : Nat) (pc : DWord) (prio : Byte) -- DEFERRED_RELEASE, R29
  | loadResult (tok : Nat) -- LOAD_RESULT, R83
  | ratomResult (op lane : Nat) (resp : RemoteResp) -- RATOM_RESULT, R222
  | remoteAccessRequest (r : RemoteReq) -- REMOTE_ACCESS_REQUEST, R332
  | copyElement (op i0 i1 i2 i3 : Nat) (resp : RemoteResp) -- COPY_ELEMENT, R235
  | copyComplete (op : Nat) -- COPY_COMPLETE, R236
  | matrixOpRetire (core : Nat) (cell : Bool) -- MATRIX_OP_RETIRE, R246
  | invalidation (agent : Agent) (sector : Nat) -- INVALIDATION, R81
  | tAcknowledge (agent : Agent) (sector : Nat) -- T_ACKNOWLEDGE, R81
  | completionPoint (sector : Nat) -- COMPLETION_POINT, R82
  | pageRequestRecordPost (op : Nat) -- PAGE_REQUEST_RECORD_POST, R228
  | windowAccessArrival (op lane : Nat) -- WINDOW_ACCESS_ARRIVAL, R105
  | teamRelease (core team : Nat) -- TEAM_RELEASE, R238
  | mailboxWrite (core team : Nat) -- MAILBOX_WRITE, R267
  | collCheckReturn (core gid : Nat) -- COLL_CHECK_RETURN, R261
  | launchCheck (q : Nat) -- LAUNCH_CHECK, R309
  | placeStep (part : Nat) -- PLACE_STEP, R310
  | tenantPartitionWrite (t : Nat) (v : DWord) -- TENANT_PARTITION_WRITE, R306
  | wqcfgWrite (q : Nat) (v : DWord) -- WQCFG_WRITE, R307
  | hostItemAppend (q : Nat) (v : DWord) -- HOST_ITEM_APPEND, R308
  | preemptSave (core : Nat) (v : DWord) -- PREEMPT_SAVE, R313
  | groupHalt (core gid : Nat) -- GROUP_HALT, R314
  | forcedSave (core : Nat) -- FORCED_SAVE, R315
  | teamStateSave (core team : Nat) -- TEAM_STATE_SAVE, R316
  | preemptRestore (core : Nat) (v : DWord) -- PREEMPT_RESTORE, R317
  | restoreResume (core : Nat) (damaged : Bool) -- RESTORE_RESUME, R317
  | paddockWrite (w : Nat) (v : DWord) -- PADDOCK_WRITE, R326
  | circuitRelease (pkg : Nat) -- CIRCUIT_RELEASE, R431
  | pauseFlit (port vc : Nat) -- PAUSE_FLIT, R330
  | resumeFlit (port vc : Nat) -- RESUME_FLIT, R330
  | collPacketArrival (p : CollPkt) -- COLL_PACKET_ARRIVAL, R338
  | retryAfter (p : CollPkt) (us : Nat) -- RETRY_AFTER, R341
  | retryResend (n : Nat) -- RETRY_RESEND, R341
  | collCommit (ctx c : Nat) -- COLL_COMMIT, R339
  | agreementStart (ctx c : Nat) -- AGREEMENT_START, R435
  | agreeProgress (ctx c rank : Nat) (value : Option Nat) -- AGREE_PROGRESS, R435
  | agreeResult (ctx c : Nat) (value : Option Nat) -- AGREE_RESULT, R435
  | collCancel (ctx c pkg : Nat) -- COLL_CANCEL, R436
  | cancelAck (ctx c rank : Nat) -- CANCEL_ACK, R436
  | governorInterval (perStream perByte : Nat) (temps : List Nat) -- GOVERNOR_INTERVAL, R342
  | governorFloorWrite (v : DWord) -- GOVERNOR_FLOOR_WRITE, R343
  | bootcfgWrite (v : DWord) -- BOOTCFG_WRITE, R346
  | romHubVerify  -- ROM_HUB_VERIFY, R349
  | hubKernelVerify (peer : PeerInfo) -- HUB_KERNEL_VERIFY, R349
  | attestRequest (v : DWord) -- ATTEST_REQUEST, R351
  | thermalTrip (die temp : Nat) -- THERMAL_TRIP, R424
  | tripClear (v : DWord) -- TRIP_CLEAR, R424
  | powerRemove (die temp : Nat) -- POWER_REMOVE, R424
  | debugRelease (ch : Nat) (v : DWord) -- DEBUG_RELEASE, R284
  | pendingTrapRelease (core gid : Nat) -- PENDING_TRAP_RELEASE, R369
  | trapRecordPost (tenant : Nat) -- TRAP_RECORD_POST, R373
  | trapbaseWrite (t : Nat) (v : DWord) -- TRAPBASE_WRITE, R371
  | trapResume (v : DWord) -- TRAP_RESUME, R379
  | trapKill (v : DWord) -- TRAP_KILL, R379
  | killHeld (core : Nat) (v : DWord) -- KILL_HELD, R380
  | killContext (core : Nat) (v : DWord) -- KILL_CONTEXT, R380
  | killDone (core : Nat) -- KILL_DONE, R380
  | illegalOpcodeWord (w : Word) -- ILLEGAL_OPCODE_WORD, R145
  | sleepCountExpiry (core gid : Nat) (pc : DWord) (prio : Byte) -- SLEEP_COUNT_EXPIRY, R283
  | storePerformed (op lane : Nat) -- STORE_PERFORMED, R300
  | icinvComplete (core gid : Nat) (pc : DWord) (prio : Byte) -- ICINV_COMPLETE, R280
  | ctxmoveComplete (op : Nat) -- CTXMOVE_COMPLETE, R285
  | scratchpadZeroingComplete (core team : Nat) -- SCRATCHPAD_ZEROING_COMPLETE, R311
  | declareLost (v : DWord) -- DECLARE_LOST, R415
  | lossRequestTimeout (pkg : Nat) -- LOSS_REQUEST_TIMEOUT, R429
  | switchLinksDown (pkg : Nat) -- SWITCH_LINKS_DOWN, R429
  | lossNotice (pkg : Nat) -- LOSS_NOTICE, R429
  | homeRebuild (pkg : Nat) (copies : List HeldCopy) -- HOME_REBUILD, R418
  | eccError (e : EccEvent) -- ECC_ERROR, R411
  | structureError (kind unit effect : Nat) (hit : List Nat) -- STRUCTURE_ERROR, R422
  | tenantReset (t : Nat) (v : DWord) -- TENANT_RESET, R423
  | laneSampleInterval (port : Nat) (samples : List LinkSample) (trained : Bool) -- LANE_SAMPLE_INTERVAL, R426
  | swapRequest (port : Nat) (v : DWord) -- SWAP_REQUEST, R427
  | swapProposal (port lane seq : Nat) (spareWeak : Bool) -- SWAP_PROPOSAL, R427
  | replayRequest (port seq : Nat) -- REPLAY_REQUEST, R428
  | moduleReset  -- MODULE_RESET, R349
  | apertureRegisterWrite (off : Nat) (v : DWord) -- APERTURE_REGISTER_WRITE, R345
  | homeRequest (r : HomeReq) -- HOME_REQUEST, R87
  | laneLossOfLock (port lane : Nat) -- LANE_LOSS_OF_LOCK, R428
  | uncorrectableFlit (port seq : Nat) -- UNCORRECTABLE_FLIT, R428
  | hostEndpointAccess (a : HostAccess) -- HOST_ENDPOINT_ACCESS, R350
  | storageNetworkTransfer (a : HostAccess) -- STORAGE_NETWORK_TRANSFER, R409
deriving DecidableEq, Repr
end Sys2Proof
end

