-- ==== Sys2Proof/WellFormed.lean ====
section
/-! DEFINITION. What makes an instruction well formed (07 R139-R142, R97, R99): the operands of each instruction in
one table, `operands`, from which the illegal-operand check of R147 step 4, the register-range check of step 5 and the
reads and writes of the scoreboard (R149-R152) are all taken. -/

namespace Sys2Proof

/-- One operand of an instruction (R141): how its field is read, and whether the register is read or written. -/
inductive Opd where
  /-- vector destination -/
  | dv (r : RegName)
  /-- even vector pair destination -/
  | dvp (r : RegName)
  /-- destination that may be uniform -/
  | dvu (r : RegName)
  /-- even pair destination that may be uniform -/
  | dvup (r : RegName)
  /-- uniform destination kN -/
  | dk (n : BitVec 5)
  /-- even uniform pair destination, k2:k3 to k30:k31 (R242) -/
  | dkp (r : RegName)
  /-- vector register read and written -/
  | rw (r : RegName)
  /-- run of `n` vector registers written -/
  | drun (r : RegName) (n : Nat)
  /-- run of `n` vector registers read -/
  | srun (r : RegName) (n : Nat)
  /-- source, vector or uniform -/
  | sv (r : RegName)
  /-- even source pair, vector or uniform -/
  | sp (r : RegName)
  /-- uniform source -/
  | sk (r : RegName)
  /-- even uniform source pair -/
  | skp (r : RegName)
  /-- even uniform source pair and the register after it (ICINV, CTXSAVE, CTXLOAD, LAUNCH) -/
  | sk3 (r : RegName)
  /-- mask read -/
  | sm (m : BitVec 3)
  /-- mask written -/
  | dm (m : BitVec 3)
  /-- handle read -/
  | sh (h : BitVec 4)
  /-- handle written -/
  | dh (h : BitVec 4)
  /-- a further condition on the fields -/
  | chk (ok : Bool)
deriving DecidableEq, Repr

/-- A field names a vector register (R141). -/
def isV (r : RegName) : Bool := r.toNat < 96
/-- A field names an even register (R97, R141). -/
def isEven (r : RegName) : Bool := r.toNat % 2 == 0

/-- The illegal-operand check of one operand (R139, R141, R142). -/
def Opd.ok : Opd → Bool
  | .dv r => isV r
  | .dvp r => isV r && isEven r
  | .dvu _ => true
  | .dvup r => isEven r
  | .dk _ => true
  | .dkp r => !isV r && isEven r && r != 96
  | .rw r => isV r
  | .drun r n => n == 0 || isV r
  | .srun r n => n == 0 || isV r
  | .sv _ => true
  | .sp r => isEven r
  | .sk r => !isV r
  | .skp r => !isV r && isEven r
  | .sk3 r => !isV r && isEven r && r != 126
  | .sm _ => true
  | .dm _ => true
  | .sh _ => true
  | .dh _ => true
  | .chk b => b

/-- Registers of the operand run of an atomic that are read (R220). -/
def atomReads (op : Nat) : Nat := if op = 13 then 4 else if op = 9 ∨ op = 11 ∨ op = 12 then 2 else 1
/-- Registers of the operand run of an atomic that receive the old value (R220). -/
def atomWrites (op : Nat) : Nat := if op = 11 ∨ op = 12 ∨ op = 13 then 2 else 1
/-- The operation and operand checks of an atomic (R220): the operation exists, a 64-bit operand is an even pair and
the run of CAS64 starts at a multiple of 4. -/
def atomOk (op : Nat) (d : RegName) : Bool :=
  op ≤ 13 && (!(op == 11 || op == 12) || isEven d) && (op != 13 || d.toNat % 4 == 0)

/-- The number is one R113 lists. -/
def srListed (n : Nat) : Bool := n ≤ 0x0D || (0x10 ≤ n && n ≤ 0x12) || (0x40 ≤ n && n ≤ 0x7F)
/-- The register's stated bits reach above bit 31, so that it is read and written as a pair (R113, R275). -/
def srWide (n : Nat) : Bool :=
  n == 0x06 || n == 0x08 || n == 0x0B || n == 0x0C || n == 0x10 || n == 0x12 || (0x40 ≤ n && n ≤ 0x7F)
/-- The User column of R113 is a dash. -/
def srKernelOnly (n : Nat) : Bool := n == 0x06 || n == 0x09 || (0x10 ≤ n && n ≤ 0x12)

/-- SRD's destination (R275). -/
def srdOpds (d : RegName) (n : Nat) : List Opd := [.chk (srListed n), if srWide n then .dvup d else .dvu d]
/-- SWR's source (R275). -/
def swrOpds (a : RegName) (n : Nat) : List Opd := [.chk (srListed n), if srWide n then .sp a else .sv a]
/-- CADD's operand (R223): a pair for i64. -/
def caddOpd (d : RegName) (f : Nat) : Opd := if f = 2 then .sp d else .sv d

/-- The operands of every instruction; an event has none. -/
def operands : Instr → List Opd
  | .blk _ _ => []
  | .br _ _ => []
  | .bz _ _ a => [.sv a]
  | .bnz _ _ a => [.sv a]
  | .bms _ _ m => [.sm m]
  | .bmc _ _ m => [.sm m]
  | .call _ _ d => [.dvp d]
  | .jmp _ a => [.sp a]
  | .calli _ d a => [.dvp d, .sp a]
  | .ret _ a => [.sp a]
  | .nop _ => []
  | .yield _ => []
  | .exit _ => []
  | .add _ _ d a b => [.dv d, .sv a, .sv b]
  | .sub _ _ d a b => [.dv d, .sv a, .sv b]
  | .addi _ _ d a => [.dv d, .sv a]
  | .mul _ d a b => [.dv d, .sv a, .sv b]
  | .mulh _ _ d a b => [.dv d, .sv a, .sv b]
  | .muli _ _ d a => [.dv d, .sv a]
  | .div _ _ d a b => [.dv d, .sv a, .sv b]
  | .rem _ _ d a b => [.dv d, .sv a, .sv b]
  | .and _ d a b => [.dv d, .sv a, .sv b]
  | .or _ d a b => [.dv d, .sv a, .sv b]
  | .xor _ d a b => [.dv d, .sv a, .sv b]
  | .andi _ _ d a => [.dv d, .sv a]
  | .ori _ _ d a => [.dv d, .sv a]
  | .xori _ _ d a => [.dv d, .sv a]
  | .shl _ d a b => [.dv d, .sv a, .sv b]
  | .shr _ _ d a b => [.dv d, .sv a, .sv b]
  | .shli _ i d a => [.dv d, .sv a, .chk (i.toNat ≤ 31)]
  | .shri _ i d a => [.dv d, .sv a, .chk (i.toNat ≤ 31)]
  | .shrai _ i d a => [.dv d, .sv a, .chk (i.toNat ≤ 31)]
  | .movi _ _ d => [.dv d]
  | .not _ d a => [.dv d, .sv a]
  | .neg _ d a => [.dv d, .sv a]
  | .abs _ d a => [.dv d, .sv a]
  | .clz _ d a => [.dv d, .sv a]
  | .popc _ d a => [.dv d, .sv a]
  | .brev _ d a => [.dv d, .sv a]
  | .mov _ d a => [.dv d, .sv a]
  | .bfx _ d a b => [.dv d, .sv a, .sv b]
  | .bfi _ d a b => [.rw d, .sv a, .sv b]
  | .isetEq _ d a b => [.dv d, .sv a, .sv b]
  | .isetNe _ d a b => [.dv d, .sv a, .sv b]
  | .isetLt _ _ d a b => [.dv d, .sv a, .sv b]
  | .isetLe _ _ d a b => [.dv d, .sv a, .sv b]
  | .sel _ d a b => [.rw d, .sv a, .sv b]
  | .add64 _ d a b => [.dvp d, .sp a, .sp b]
  | .addi64 _ _ d a => [.dvp d, .sp a]
  | .lea _ d a b => [.dvp d, .sp a, .sv b]
  | .imad _ d a b => [.rw d, .sv a, .sv b]
  | .fadd _ d a b => [.dv d, .sv a, .sv b]
  | .fsub _ d a b => [.dv d, .sv a, .sv b]
  | .fmul _ d a b => [.dv d, .sv a, .sv b]
  | .ffma _ d a b => [.rw d, .sv a, .sv b]
  | .fmin _ _ d a b => [.dv d, .sv a, .sv b]
  | .fmax _ _ d a b => [.dv d, .sv a, .sv b]
  | .fsetEq _ d a b => [.dv d, .sv a, .sv b]
  | .fsetNe _ d a b => [.dv d, .sv a, .sv b]
  | .fsetLt _ _ d a b => [.dv d, .sv a, .sv b]
  | .fsetLe _ _ d a b => [.dv d, .sv a, .sv b]
  | .fclass _ _ d a => [.dv d, .sv a]
  | .fneg _ d a => [.dv d, .sv a]
  | .fabs _ d a => [.dv d, .sv a]
  | .frcp _ d a => [.dv d, .sv a]
  | .frsq _ d a => [.dv d, .sv a]
  | .fsqrt _ d a => [.dv d, .sv a]
  | .fex2 _ d a => [.dv d, .sv a]
  | .flg2 _ d a => [.dv d, .sv a]
  | .fsin _ d a => [.dv d, .sv a]
  | .fcos _ d a => [.dv d, .sv a]
  | .ftanh _ d a => [.dv d, .sv a]
  | .hadd2 _ _ d a b => [.dv d, .sv a, .sv b]
  | .hmul2 _ _ d a b => [.dv d, .sv a, .sv b]
  | .hfma2 _ _ d a b => [.rw d, .sv a, .sv b]
  | .hmin2 _ _ d a => [.rw d, .sv a]
  | .hmin2P _ _ d a => [.rw d, .sv a]
  | .hmax2 _ _ d a => [.rw d, .sv a]
  | .hmax2P _ _ d a => [.rw d, .sv a]
  | .hneg2 _ _ d a => [.dv d, .sv a]
  | .habs2 _ _ d a => [.dv d, .sv a]
  | .cvts _ d a _ _ => [.rw d, .sv a]
  | .cvtx _ d a _ _ => [.dv d, .sv a]
  | .cvti _ d a _ _ _ => [.dv d, .sv a]
  | .cvtb _ d a _ => [.drun d 1, .sv a]
  | .cvthF2hl _ d a => [.rw d, .sv a]
  | .cvthF2hh _ d a => [.rw d, .sv a]
  | .cvthF2bl _ d a => [.rw d, .sv a]
  | .cvthF2bh _ d a => [.rw d, .sv a]
  | .cvthHl2f _ d a => [.dv d, .sv a]
  | .cvthHh2f _ d a => [.dv d, .sv a]
  | .cvthBl2f _ d a => [.dv d, .sv a]
  | .cvthBh2f _ d a => [.dv d, .sv a]
  | .lane _ _ d => [.dv d]
  | .shfl _ _ d a b => [.dv d, .sv a, .sv b, .sm 0]
  | .voteAny _ _ d a => [.dv d, .sv a, .sm 0]
  | .voteAll _ _ d a => [.dv d, .sv a, .sm 0]
  | .voteBallot _ m a => [.dm m, .sv a]
  | .bcast _ _ d a b => [.dvu d, .sv a, .sk b, .sm 0]
  | .matchLanes _ _ d a => [.dvp d, .sv a, .sm 0]
  | .redAdd _ _ d a => [.dv d, .sv a, .sm 0]
  | .redMinS _ _ d a => [.dv d, .sv a, .sm 0]
  | .redMinU _ _ d a => [.dv d, .sv a, .sm 0]
  | .redMaxS _ _ d a => [.dv d, .sv a, .sm 0]
  | .redMaxU _ _ d a => [.dv d, .sv a, .sm 0]
  | .redAnd _ _ d a => [.dv d, .sv a, .sm 0]
  | .redOr _ _ d a => [.dv d, .sv a, .sm 0]
  | .redXor _ _ d a => [.dv d, .sv a, .sm 0]
  | .fredAdd _ _ d a => [.dv d, .sv a, .sm 0]
  | .fredMin _ _ d a => [.dv d, .sv a, .sm 0]
  | .fredMinp _ _ d a => [.dv d, .sv a, .sm 0]
  | .fredMax _ _ d a => [.dv d, .sv a, .sm 0]
  | .fredMaxp _ _ d a => [.dv d, .sv a, .sm 0]
  | .scanAdd _ _ d a => [.dv d, .sv a, .sm 0]
  | .scanXadd _ _ d a => [.dv d, .sv a, .sm 0]
  | .scanFadd _ _ d a => [.dv d, .sv a, .sm 0]
  | .barArrive _ _ d => [.dv d]
  | .barWait _ _ a => [.sv a]
  | .barSync _ _ => []
  | .regrp _ k f c => [.rw k, .srun f c.toNat, .drun f c.toNat, .chk (c.toNat ≤ 8 && (c != 0 || f == 0))]
  | .winb _ i => [.chk (i.toNat % 8 = 0)]
  | .tcall _ _ p _ => [.skp p]
  | .tret _ => []
  | .ld _ _ d a b => [.dv d, .sp a, .sv b]
  | .ldB64 _ _ d a b => [.dvp d, .sp a, .sv b]
  | .ldB8 _ d a b => [.dv d, .sp a, .sv b]
  | .ldB16 _ d a b => [.dv d, .sp a, .sv b]
  | .ldNr _ _ d a m => [.dv d, .dm m, .sp a]
  | .st _ _ d a b => [.sv d, .sp a, .sv b]
  | .stB64 _ _ d a b => [.sp d, .sp a, .sv b]
  | .stB8 _ d a b => [.sv d, .sp a, .sv b]
  | .stB16 _ d a b => [.sv d, .sp a, .sv b]
  | .ldsp _ d a b => [.dv d, .sv a, .sv b]
  | .stsp _ d a b => [.sv d, .sv a, .sv b]
  | .atom _ d a o => [.srun d (atomReads o.toNat), .drun d (atomWrites o.toNat), .sp a, .chk (atomOk o.toNat d)]
  | .ratom _ d a o => [.srun d (atomReads o.toNat), .drun d (atomWrites o.toNat), .sp a, .chk (atomOk o.toNat d)]
  | .cadd _ d a f => [caddOpd d f.toNat, .sp a, .chk (f.toNat ≤ 2)]
  | .fence _ c => [.chk (c.toNat ≤ 13)]
  | .fenceTc _ => []
  | .fenceQ _ a => [.sk a]
  | .pref _ l a => [.sp a, .chk (l.toNat ≤ 1)]
  | .pgreq _ h a => [.dh h, .sp a]
  | .qpush _ _ a => [.sv a]
  | .qpop _ d m _ => [.dv d, .dm m]
  | .copy _ h a _ => [.dh h, .skp a]
  | .hwait _ h => [.sh h]
  | .htest _ d h => [.dvu d, .sh h]
  | .hcancel _ h => [.sh h]
  | .hexport _ d h => [.dvu d, .sh h]
  | .himport _ h a => [.dh h, .sv a]
  | .macq _ => []
  | .mrel _ => []
  | .mma _ _ _ a b => [.skp a, .sk b]
  | .mmaP _ _ _ a b => [.skp a, .sk b]
  | .mzero _ _ => []
  | .mloada _ _ a => [.skp a]
  | .mstorea _ _ a => [.skp a]
  | .collPost _ h _ => [.dh h]
  | .collFire _ _ a => [.sk a]
  | .collProg _ d _ => [.dvu d]
  | .collAgree _ h _ => [.dh h]
  | .deq _ d a => [.dkp d, .sk a]
  | .enq _ d a => [.skp d, .sk a]
  | .launch _ h a => [.dh h, .sk3 a]
  | .wfetch _ d a => [.dvu d, .sk a]
  | .srd _ r d => srdOpds d r.toNat
  | .swr _ r a => swrOpds a r.toNat
  | .trap _ _ => []
  | .eret _ => []
  | .kset _ k a => [.dk k, .sv a]
  | .icinv _ c a => [.sk3 a, .chk (c.toNat ≤ 13)]
  | .isync _ => []
  | .xlate _ d a => [.dvp d, .sp a]
  | .sleep _ a => [.sv a]
  | .halt _ => []
  | .ctxsave _ h a => [.dh h, .sk3 a]
  | .ctxload _ h a => [.dh h, .sk3 a]
  | .stallCountExpiry _ _ => []
  | .deferredRelease _ _ _ _ => []
  | .loadResult _ => []
  | .ratomResult _ _ _ => []
  | .remoteAccessRequest _ => []
  | .copyElement _ _ _ _ _ _ => []
  | .copyComplete _ => []
  | .matrixOpRetire _ _ => []
  | .invalidation _ _ => []
  | .tAcknowledge _ _ => []
  | .completionPoint _ => []
  | .pageRequestRecordPost _ => []
  | .windowAccessArrival _ _ => []
  | .teamRelease _ _ => []
  | .mailboxWrite _ _ => []
  | .collCheckReturn _ _ => []
  | .launchCheck _ => []
  | .placeStep _ => []
  | .tenantPartitionWrite _ _ => []
  | .wqcfgWrite _ _ => []
  | .hostItemAppend _ _ => []
  | .preemptSave _ _ => []
  | .groupHalt _ _ => []
  | .forcedSave _ => []
  | .teamStateSave _ _ => []
  | .preemptRestore _ _ => []
  | .restoreResume _ _ => []
  | .paddockWrite _ _ => []
  | .circuitRelease _ => []
  | .pauseFlit _ _ => []
  | .resumeFlit _ _ => []
  | .collPacketArrival _ => []
  | .retryAfter _ _ => []
  | .retryResend _ => []
  | .collCommit _ _ => []
  | .agreementStart _ _ => []
  | .agreeProgress _ _ _ _ => []
  | .agreeResult _ _ _ => []
  | .collCancel _ _ _ => []
  | .cancelAck _ _ _ => []
  | .governorInterval _ _ _ => []
  | .governorFloorWrite _ => []
  | .bootcfgWrite _ => []
  | .romHubVerify => []
  | .hubKernelVerify _ => []
  | .attestRequest _ => []
  | .thermalTrip _ _ => []
  | .tripClear _ => []
  | .powerRemove _ _ => []
  | .debugRelease _ _ => []
  | .pendingTrapRelease _ _ => []
  | .trapRecordPost _ => []
  | .trapbaseWrite _ _ => []
  | .trapResume _ => []
  | .trapKill _ => []
  | .killHeld _ _ => []
  | .killContext _ _ => []
  | .killDone _ => []
  | .declareLost _ => []
  | .lossRequestTimeout _ => []
  | .switchLinksDown _ => []
  | .lossNotice _ => []
  | .homeRebuild _ _ => []
  | .eccError _ => []
  | .structureError _ _ _ _ => []
  | .tenantReset _ _ => []
  | .laneSampleInterval _ _ _ => []
  | .swapRequest _ _ => []
  | .swapProposal _ _ _ _ => []
  | .replayRequest _ _ => []
  | .moduleReset => []
  | .apertureRegisterWrite _ _ => []
  | .illegalOpcodeWord _ => []
  | .sleepCountExpiry _ _ _ _ => []
  | .storePerformed _ _ => []
  | .homeRequest _ => []
  | .icinvComplete _ _ _ _ => []
  | .ctxmoveComplete _ => []
  | .scratchpadZeroingComplete _ _ => []
  | .laneLossOfLock _ _ => []
  | .uncorrectableFlit _ _ => []
  | .hostEndpointAccess _ => []
  | .storageNetworkTransfer _ => []

/-- Every operand passes the illegal-operand check of R147 step 4. -/
def Instr.wf (i : Instr) : Bool := (operands i).all Opd.ok

/-- The instruction is an event: it has no instruction word. -/
def Instr.isEvent : Instr → Bool
  | .blk _ _ => false
  | .br _ _ => false
  | .bz _ _ _ => false
  | .bnz _ _ _ => false
  | .bms _ _ _ => false
  | .bmc _ _ _ => false
  | .call _ _ _ => false
  | .jmp _ _ => false
  | .calli _ _ _ => false
  | .ret _ _ => false
  | .nop _ => false
  | .yield _ => false
  | .exit _ => false
  | .add _ _ _ _ _ => false
  | .sub _ _ _ _ _ => false
  | .addi _ _ _ _ => false
  | .mul _ _ _ _ => false
  | .mulh _ _ _ _ _ => false
  | .muli _ _ _ _ => false
  | .div _ _ _ _ _ => false
  | .rem _ _ _ _ _ => false
  | .and _ _ _ _ => false
  | .or _ _ _ _ => false
  | .xor _ _ _ _ => false
  | .andi _ _ _ _ => false
  | .ori _ _ _ _ => false
  | .xori _ _ _ _ => false
  | .shl _ _ _ _ => false
  | .shr _ _ _ _ _ => false
  | .shli _ _ _ _ => false
  | .shri _ _ _ _ => false
  | .shrai _ _ _ _ => false
  | .movi _ _ _ => false
  | .not _ _ _ => false
  | .neg _ _ _ => false
  | .abs _ _ _ => false
  | .clz _ _ _ => false
  | .popc _ _ _ => false
  | .brev _ _ _ => false
  | .mov _ _ _ => false
  | .bfx _ _ _ _ => false
  | .bfi _ _ _ _ => false
  | .isetEq _ _ _ _ => false
  | .isetNe _ _ _ _ => false
  | .isetLt _ _ _ _ _ => false
  | .isetLe _ _ _ _ _ => false
  | .sel _ _ _ _ => false
  | .add64 _ _ _ _ => false
  | .addi64 _ _ _ _ => false
  | .lea _ _ _ _ => false
  | .imad _ _ _ _ => false
  | .fadd _ _ _ _ => false
  | .fsub _ _ _ _ => false
  | .fmul _ _ _ _ => false
  | .ffma _ _ _ _ => false
  | .fmin _ _ _ _ _ => false
  | .fmax _ _ _ _ _ => false
  | .fsetEq _ _ _ _ => false
  | .fsetNe _ _ _ _ => false
  | .fsetLt _ _ _ _ _ => false
  | .fsetLe _ _ _ _ _ => false
  | .fclass _ _ _ _ => false
  | .fneg _ _ _ => false
  | .fabs _ _ _ => false
  | .frcp _ _ _ => false
  | .frsq _ _ _ => false
  | .fsqrt _ _ _ => false
  | .fex2 _ _ _ => false
  | .flg2 _ _ _ => false
  | .fsin _ _ _ => false
  | .fcos _ _ _ => false
  | .ftanh _ _ _ => false
  | .hadd2 _ _ _ _ _ => false
  | .hmul2 _ _ _ _ _ => false
  | .hfma2 _ _ _ _ _ => false
  | .hmin2 _ _ _ _ => false
  | .hmin2P _ _ _ _ => false
  | .hmax2 _ _ _ _ => false
  | .hmax2P _ _ _ _ => false
  | .hneg2 _ _ _ _ => false
  | .habs2 _ _ _ _ => false
  | .cvts _ _ _ _ _ => false
  | .cvtx _ _ _ _ _ => false
  | .cvti _ _ _ _ _ _ => false
  | .cvtb _ _ _ _ => false
  | .cvthF2hl _ _ _ => false
  | .cvthF2hh _ _ _ => false
  | .cvthF2bl _ _ _ => false
  | .cvthF2bh _ _ _ => false
  | .cvthHl2f _ _ _ => false
  | .cvthHh2f _ _ _ => false
  | .cvthBl2f _ _ _ => false
  | .cvthBh2f _ _ _ => false
  | .lane _ _ _ => false
  | .shfl _ _ _ _ _ => false
  | .voteAny _ _ _ _ => false
  | .voteAll _ _ _ _ => false
  | .voteBallot _ _ _ => false
  | .bcast _ _ _ _ _ => false
  | .matchLanes _ _ _ _ => false
  | .redAdd _ _ _ _ => false
  | .redMinS _ _ _ _ => false
  | .redMinU _ _ _ _ => false
  | .redMaxS _ _ _ _ => false
  | .redMaxU _ _ _ _ => false
  | .redAnd _ _ _ _ => false
  | .redOr _ _ _ _ => false
  | .redXor _ _ _ _ => false
  | .fredAdd _ _ _ _ => false
  | .fredMin _ _ _ _ => false
  | .fredMinp _ _ _ _ => false
  | .fredMax _ _ _ _ => false
  | .fredMaxp _ _ _ _ => false
  | .scanAdd _ _ _ _ => false
  | .scanXadd _ _ _ _ => false
  | .scanFadd _ _ _ _ => false
  | .barArrive _ _ _ => false
  | .barWait _ _ _ => false
  | .barSync _ _ => false
  | .regrp _ _ _ _ => false
  | .winb _ _ => false
  | .tcall _ _ _ _ => false
  | .tret _ => false
  | .ld _ _ _ _ _ => false
  | .ldB64 _ _ _ _ _ => false
  | .ldB8 _ _ _ _ => false
  | .ldB16 _ _ _ _ => false
  | .ldNr _ _ _ _ _ => false
  | .st _ _ _ _ _ => false
  | .stB64 _ _ _ _ _ => false
  | .stB8 _ _ _ _ => false
  | .stB16 _ _ _ _ => false
  | .ldsp _ _ _ _ => false
  | .stsp _ _ _ _ => false
  | .atom _ _ _ _ => false
  | .ratom _ _ _ _ => false
  | .cadd _ _ _ _ => false
  | .fence _ _ => false
  | .fenceTc _ => false
  | .fenceQ _ _ => false
  | .pref _ _ _ => false
  | .pgreq _ _ _ => false
  | .qpush _ _ _ => false
  | .qpop _ _ _ _ => false
  | .copy _ _ _ _ => false
  | .hwait _ _ => false
  | .htest _ _ _ => false
  | .hcancel _ _ => false
  | .hexport _ _ _ => false
  | .himport _ _ _ => false
  | .macq _ => false
  | .mrel _ => false
  | .mma _ _ _ _ _ => false
  | .mmaP _ _ _ _ _ => false
  | .mzero _ _ => false
  | .mloada _ _ _ => false
  | .mstorea _ _ _ => false
  | .collPost _ _ _ => false
  | .collFire _ _ _ => false
  | .collProg _ _ _ => false
  | .collAgree _ _ _ => false
  | .deq _ _ _ => false
  | .enq _ _ _ => false
  | .launch _ _ _ => false
  | .wfetch _ _ _ => false
  | .srd _ _ _ => false
  | .swr _ _ _ => false
  | .trap _ _ => false
  | .eret _ => false
  | .kset _ _ _ => false
  | .icinv _ _ _ => false
  | .isync _ => false
  | .xlate _ _ _ => false
  | .sleep _ _ => false
  | .halt _ => false
  | .ctxsave _ _ _ => false
  | .ctxload _ _ _ => false
  | .stallCountExpiry _ _ => true
  | .deferredRelease _ _ _ _ => true
  | .loadResult _ => true
  | .ratomResult _ _ _ => true
  | .remoteAccessRequest _ => true
  | .copyElement _ _ _ _ _ _ => true
  | .copyComplete _ => true
  | .matrixOpRetire _ _ => true
  | .invalidation _ _ => true
  | .tAcknowledge _ _ => true
  | .completionPoint _ => true
  | .pageRequestRecordPost _ => true
  | .windowAccessArrival _ _ => true
  | .teamRelease _ _ => true
  | .mailboxWrite _ _ => true
  | .collCheckReturn _ _ => true
  | .launchCheck _ => true
  | .placeStep _ => true
  | .tenantPartitionWrite _ _ => true
  | .wqcfgWrite _ _ => true
  | .hostItemAppend _ _ => true
  | .preemptSave _ _ => true
  | .groupHalt _ _ => true
  | .forcedSave _ => true
  | .teamStateSave _ _ => true
  | .preemptRestore _ _ => true
  | .restoreResume _ _ => true
  | .paddockWrite _ _ => true
  | .circuitRelease _ => true
  | .pauseFlit _ _ => true
  | .resumeFlit _ _ => true
  | .collPacketArrival _ => true
  | .retryAfter _ _ => true
  | .retryResend _ => true
  | .collCommit _ _ => true
  | .agreementStart _ _ => true
  | .agreeProgress _ _ _ _ => true
  | .agreeResult _ _ _ => true
  | .collCancel _ _ _ => true
  | .cancelAck _ _ _ => true
  | .governorInterval _ _ _ => true
  | .governorFloorWrite _ => true
  | .bootcfgWrite _ => true
  | .romHubVerify => true
  | .hubKernelVerify _ => true
  | .attestRequest _ => true
  | .thermalTrip _ _ => true
  | .tripClear _ => true
  | .powerRemove _ _ => true
  | .debugRelease _ _ => true
  | .pendingTrapRelease _ _ => true
  | .trapRecordPost _ => true
  | .trapbaseWrite _ _ => true
  | .trapResume _ => true
  | .trapKill _ => true
  | .killHeld _ _ => true
  | .killContext _ _ => true
  | .killDone _ => true
  | .declareLost _ => true
  | .lossRequestTimeout _ => true
  | .switchLinksDown _ => true
  | .lossNotice _ => true
  | .homeRebuild _ _ => true
  | .eccError _ => true
  | .structureError _ _ _ _ => true
  | .tenantReset _ _ => true
  | .laneSampleInterval _ _ _ => true
  | .swapRequest _ _ => true
  | .swapProposal _ _ _ _ => true
  | .replayRequest _ _ => true
  | .moduleReset => true
  | .apertureRegisterWrite _ _ => true
  | .illegalOpcodeWord _ => false
  | .sleepCountExpiry _ _ _ _ => true
  | .storePerformed _ _ => true
  | .homeRequest _ => true
  | .icinvComplete _ _ _ _ => true
  | .ctxmoveComplete _ => true
  | .scratchpadZeroingComplete _ _ => true
  | .laneLossOfLock _ _ => true
  | .uncorrectableFlit _ _ => true
  | .hostEndpointAccess _ => true
  | .storageNetworkTransfer _ => true

end Sys2Proof
end

