-- ==== Sys2Proof/Decode.lean ====
section
/-! DEFINITION. Decoding and encoding (07 R139-R145): a word is split into its five fields, the major and, where it has
them, the sub-opcode or X name the instruction, and a word with a nonzero unused field is refused by name. Then the
encoder, from the same tables, and each constructor's decoding shown by a word written out from the spec. -/

namespace Sys2Proof

/-- The fields of an instruction word (R139). -/
structure Fields where
  s : BitVec 3
  op : BitVec 7
  x : BitVec 1
  d : BitVec 7
  a : BitVec 7
  b : BitVec 7
deriving DecidableEq, Repr

/-- R139, from bit 31 down to bit 0. -/
def splitWord (w : Word) : Fields :=
  ⟨w.extractLsb' 29 3, w.extractLsb' 22 7, w.extractLsb' 21 1, w.extractLsb' 14 7, w.extractLsb' 7 7, w.extractLsb' 0 7⟩

/-- R139, the other way. -/
def packWord (f : Fields) : Word := f.s ++ f.op ++ f.x ++ f.d ++ f.a ++ f.b

/-- The instruction that the major, sub-opcode or X name (R144); its unused fields are not looked at. `none`: reserved
major or unassigned sub-opcode (R145). -/
def decodeFields (f : Fields) : Option Instr :=
  match f.op.toNat with
  | 0x01 => some (.blk f.s (f.x ++ f.b))
  | 0x02 => some (.br f.s (f.x ++ f.b))
  | 0x03 => some (.bz f.s (f.x ++ f.b) f.a)
  | 0x04 => some (.bnz f.s (f.x ++ f.b) f.a)
  | 0x05 => some (.bms f.s (f.x ++ f.b) (f.d.extractLsb' 0 3))
  | 0x06 => some (.bmc f.s (f.x ++ f.b) (f.d.extractLsb' 0 3))
  | 0x07 => some (.call f.s (f.x ++ f.b) f.d)
  | 0x08 => some (.jmp f.s f.a)
  | 0x09 => some (.calli f.s f.d f.a)
  | 0x0A => some (.ret f.s f.a)
  | 0x0B =>
    match f.b.toNat with
    | 0 => some (.nop f.s)
    | 1 => some (.yield f.s)
    | 2 => some (.exit f.s)
    | _ => none
  | 0x10 => some (.add f.s f.x f.d f.a f.b)
  | 0x11 => some (.sub f.s f.x f.d f.a f.b)
  | 0x12 => some (.addi f.s (f.x ++ f.b) f.d f.a)
  | 0x13 => some (.mul f.s f.d f.a f.b)
  | 0x14 => some (.mulh f.s f.x f.d f.a f.b)
  | 0x15 => some (.muli f.s (f.x ++ f.b) f.d f.a)
  | 0x16 => some (.div f.s f.x f.d f.a f.b)
  | 0x17 => some (.rem f.s f.x f.d f.a f.b)
  | 0x18 => some (.and f.s f.d f.a f.b)
  | 0x19 => some (.or f.s f.d f.a f.b)
  | 0x1A => some (.xor f.s f.d f.a f.b)
  | 0x1B => some (.andi f.s (f.x ++ f.b) f.d f.a)
  | 0x1C => some (.ori f.s (f.x ++ f.b) f.d f.a)
  | 0x1D => some (.xori f.s (f.x ++ f.b) f.d f.a)
  | 0x1E => some (.shl f.s f.d f.a f.b)
  | 0x1F => some (.shr f.s f.x f.d f.a f.b)
  | 0x20 => some (.shli f.s (f.x ++ f.b) f.d f.a)
  | 0x21 => some (.shri f.s (f.x ++ f.b) f.d f.a)
  | 0x22 => some (.shrai f.s (f.x ++ f.b) f.d f.a)
  | 0x23 => some (.movi f.s (f.x ++ f.b) f.d)
  | 0x24 =>
    match f.b.toNat with
    | 0 => some (.not f.s f.d f.a)
    | 1 => some (.neg f.s f.d f.a)
    | 2 => some (.abs f.s f.d f.a)
    | 3 => some (.clz f.s f.d f.a)
    | 4 => some (.popc f.s f.d f.a)
    | 5 => some (.brev f.s f.d f.a)
    | 6 => some (.mov f.s f.d f.a)
    | _ => none
  | 0x25 => some (.bfx f.s f.d f.a f.b)
  | 0x26 => some (.bfi f.s f.d f.a f.b)
  | 0x27 => if f.x = 0 then some (.isetEq f.s f.d f.a f.b) else some (.isetNe f.s f.d f.a f.b)
  | 0x28 => some (.isetLt f.s f.x f.d f.a f.b)
  | 0x29 => some (.isetLe f.s f.x f.d f.a f.b)
  | 0x2A => some (.sel f.s f.d f.a f.b)
  | 0x2B => some (.add64 f.s f.d f.a f.b)
  | 0x2C => some (.addi64 f.s (f.x ++ f.b) f.d f.a)
  | 0x2D => some (.lea f.s f.d f.a f.b)
  | 0x2E => some (.imad f.s f.d f.a f.b)
  | 0x30 => some (.fadd f.s f.d f.a f.b)
  | 0x31 => some (.fsub f.s f.d f.a f.b)
  | 0x32 => some (.fmul f.s f.d f.a f.b)
  | 0x33 => some (.ffma f.s f.d f.a f.b)
  | 0x34 => some (.fmin f.s f.x f.d f.a f.b)
  | 0x35 => some (.fmax f.s f.x f.d f.a f.b)
  | 0x36 => if f.x = 0 then some (.fsetEq f.s f.d f.a f.b) else some (.fsetNe f.s f.d f.a f.b)
  | 0x37 => some (.fsetLt f.s f.x f.d f.a f.b)
  | 0x38 => some (.fsetLe f.s f.x f.d f.a f.b)
  | 0x39 => some (.fclass f.s (f.x ++ f.b) f.d f.a)
  | 0x3A =>
    match f.b.toNat with
    | 0 => some (.fneg f.s f.d f.a)
    | 1 => some (.fabs f.s f.d f.a)
    | 2 => some (.frcp f.s f.d f.a)
    | 3 => some (.frsq f.s f.d f.a)
    | 4 => some (.fsqrt f.s f.d f.a)
    | 5 => some (.fex2 f.s f.d f.a)
    | 6 => some (.flg2 f.s f.d f.a)
    | 7 => some (.fsin f.s f.d f.a)
    | 8 => some (.fcos f.s f.d f.a)
    | 9 => some (.ftanh f.s f.d f.a)
    | _ => none
  | 0x3B => some (.hadd2 f.s f.x f.d f.a f.b)
  | 0x3C => some (.hmul2 f.s f.x f.d f.a f.b)
  | 0x3D => some (.hfma2 f.s f.x f.d f.a f.b)
  | 0x3E =>
    match f.b.toNat with
    | 0 => some (.hmin2 f.s f.x f.d f.a)
    | 1 => some (.hmin2P f.s f.x f.d f.a)
    | 2 => some (.hmax2 f.s f.x f.d f.a)
    | 3 => some (.hmax2P f.s f.x f.d f.a)
    | 4 => some (.hneg2 f.s f.x f.d f.a)
    | 5 => some (.habs2 f.s f.x f.d f.a)
    | _ => none
  | 0x48 => some (.cvts f.s f.d f.a (f.b.extractLsb' 3 2) (f.b.extractLsb' 0 3))
  | 0x49 => some (.cvtx f.s f.d f.a (f.b.extractLsb' 3 2) (f.b.extractLsb' 0 3))
  | 0x4A => some (.cvti f.s f.d f.a (f.b.extractLsb' 3 1) (f.b.extractLsb' 2 1) (f.b.extractLsb' 0 2))
  | 0x4B => some (.cvtb f.s f.d f.a (f.b.extractLsb' 0 3))
  | 0x4C =>
    match f.b.toNat with
    | 0 => some (.cvthF2hl f.s f.d f.a)
    | 1 => some (.cvthF2hh f.s f.d f.a)
    | 2 => some (.cvthF2bl f.s f.d f.a)
    | 3 => some (.cvthF2bh f.s f.d f.a)
    | 4 => some (.cvthHl2f f.s f.d f.a)
    | 5 => some (.cvthHh2f f.s f.d f.a)
    | 6 => some (.cvthBl2f f.s f.d f.a)
    | 7 => some (.cvthBh2f f.s f.d f.a)
    | _ => none
  | 0x50 => some (.lane f.s f.x f.d)
  | 0x51 => some (.shfl f.s f.x f.d f.a f.b)
  | 0x52 =>
    match f.b.toNat with
    | 0 => some (.voteAny f.s f.x f.d f.a)
    | 1 => some (.voteAll f.s f.x f.d f.a)
    | 2 => some (.voteBallot f.s (f.d.extractLsb' 0 3) f.a)
    | _ => none
  | 0x53 => some (.bcast f.s f.x f.d f.a f.b)
  | 0x54 => some (.matchLanes f.s f.x f.d f.a)
  | 0x55 =>
    match f.b.toNat with
    | 0 => some (.redAdd f.s f.x f.d f.a)
    | 1 => some (.redMinS f.s f.x f.d f.a)
    | 2 => some (.redMinU f.s f.x f.d f.a)
    | 3 => some (.redMaxS f.s f.x f.d f.a)
    | 4 => some (.redMaxU f.s f.x f.d f.a)
    | 5 => some (.redAnd f.s f.x f.d f.a)
    | 6 => some (.redOr f.s f.x f.d f.a)
    | 7 => some (.redXor f.s f.x f.d f.a)
    | _ => none
  | 0x56 =>
    match f.b.toNat with
    | 0 => some (.fredAdd f.s f.x f.d f.a)
    | 1 => some (.fredMin f.s f.x f.d f.a)
    | 2 => some (.fredMinp f.s f.x f.d f.a)
    | 3 => some (.fredMax f.s f.x f.d f.a)
    | 4 => some (.fredMaxp f.s f.x f.d f.a)
    | _ => none
  | 0x57 =>
    match f.b.toNat with
    | 0 => some (.scanAdd f.s f.x f.d f.a)
    | 1 => some (.scanXadd f.s f.x f.d f.a)
    | 2 => some (.scanFadd f.s f.x f.d f.a)
    | _ => none
  | 0x58 =>
    match f.b.toNat with
    | 0 => some (.barArrive f.s (f.d.extractLsb' 0 5) f.a)
    | 1 => some (.barWait f.s (f.d.extractLsb' 0 5) f.a)
    | 2 => some (.barSync f.s (f.d.extractLsb' 0 5))
    | _ => none
  | 0x59 => some (.regrp f.s f.d f.a f.b)
  | 0x5A => some (.winb f.s (f.x ++ f.b))
  | 0x5E => some (.tcall f.s (f.d.extractLsb' 0 3) f.a (f.b.extractLsb' 0 3))
  | 0x5F => some (.tret f.s)
  | 0x60 => some (.ld f.s f.x f.d f.a f.b)
  | 0x61 => some (.ldB64 f.s f.x f.d f.a f.b)
  | 0x62 => if f.x = 0 then some (.ldB8 f.s f.d f.a f.b) else some (.ldB16 f.s f.d f.a f.b)
  | 0x63 => some (.ldNr f.s f.x f.d f.a (f.b.extractLsb' 0 3))
  | 0x64 => some (.st f.s f.x f.d f.a f.b)
  | 0x65 => some (.stB64 f.s f.x f.d f.a f.b)
  | 0x66 => if f.x = 0 then some (.stB8 f.s f.d f.a f.b) else some (.stB16 f.s f.d f.a f.b)
  | 0x67 => if f.x = 0 then some (.ldsp f.s f.d f.a f.b) else some (.stsp f.s f.d f.a f.b)
  | 0x68 => some (.atom f.s f.d f.a f.b)
  | 0x69 => some (.ratom f.s f.d f.a f.b)
  | 0x6A => some (.cadd f.s f.d f.a f.b)
  | 0x6B =>
    match f.b.toNat with
    | 0 => some (.fence f.s f.d)
    | 1 => some (.fenceTc f.s)
    | 2 => some (.fenceQ f.s f.a)
    | 3 => some (.pref f.s f.d f.a)
    | 4 => some (.pgreq f.s (f.d.extractLsb' 0 4) f.a)
    | 5 => some (.qpush f.s (f.d.extractLsb' 0 3) f.a)
    | 6 => some (.qpop f.s f.d (f.a.extractLsb' 3 3) (f.a.extractLsb' 0 3))
    | _ => none
  | 0x6C => some (.copy f.s (f.d.extractLsb' 0 4) f.a (f.b.extractLsb' 0 3))
  | 0x6D =>
    match f.b.toNat with
    | 0 => some (.hwait f.s (f.a.extractLsb' 0 4))
    | 1 => some (.htest f.s f.d (f.a.extractLsb' 0 4))
    | 2 => some (.hcancel f.s (f.a.extractLsb' 0 4))
    | 3 => some (.hexport f.s f.d (f.a.extractLsb' 0 4))
    | 4 => some (.himport f.s (f.d.extractLsb' 0 4) f.a)
    | _ => none
  | 0x70 => some (.macq f.s)
  | 0x71 => some (.mrel f.s)
  | 0x72 => some (.mma f.s f.x (f.d.extractLsb' 0 3) f.a f.b)
  | 0x73 => some (.mmaP f.s f.x (f.d.extractLsb' 0 3) f.a f.b)
  | 0x74 => some (.mzero f.s (f.d.extractLsb' 0 3))
  | 0x75 => some (.mloada f.s (f.d.extractLsb' 0 3) f.a)
  | 0x76 => some (.mstorea f.s (f.d.extractLsb' 0 3) f.a)
  | 0x78 =>
    match f.b.toNat with
    | 0 => some (.collPost f.s (f.d.extractLsb' 0 4) (f.a.extractLsb' 0 2))
    | 1 => some (.collFire f.s (f.d.extractLsb' 0 2) f.a)
    | 2 => some (.collProg f.s f.d (f.a.extractLsb' 0 2))
    | 3 => some (.collAgree f.s (f.d.extractLsb' 0 4) (f.a.extractLsb' 0 2))
    | _ => none
  | 0x79 => some (.deq f.s f.d f.a)
  | 0x7A =>
    match f.b.toNat with
    | 0 => some (.enq f.s f.d f.a)
    | 1 => some (.launch f.s (f.d.extractLsb' 0 4) f.a)
    | _ => none
  | 0x7B => some (.wfetch f.s f.d f.a)
  | 0x7C => some (.srd f.s (f.x ++ f.b) f.d)
  | 0x7D => some (.swr f.s (f.x ++ f.b) f.a)
  | 0x7E =>
    match f.b.toNat with
    | 0 => some (.trap f.s (f.d.extractLsb' 0 4))
    | 1 => some (.eret f.s)
    | 2 => some (.kset f.s (f.d.extractLsb' 0 5) f.a)
    | 3 => some (.icinv f.s f.d f.a)
    | 4 => some (.isync f.s)
    | 5 => some (.xlate f.s f.d f.a)
    | 6 => some (.sleep f.s f.a)
    | 7 => some (.halt f.s)
    | 8 => some (.ctxsave f.s (f.d.extractLsb' 0 4) f.a)
    | 9 => some (.ctxload f.s (f.d.extractLsb' 0 4) f.a)
    | _ => none
  | _ => none

/-- The fields of an instruction, unused ones zero (R142, R144); an event has none. -/
def encodeFields : Instr → Option Fields
  | .blk s i => some ⟨s, 0x01#7, i.extractLsb' 7 1, 0#7, 0#7, i.extractLsb' 0 7⟩
  | .br s o => some ⟨s, 0x02#7, o.extractLsb' 7 1, 0#7, 0#7, o.extractLsb' 0 7⟩
  | .bz s o a => some ⟨s, 0x03#7, o.extractLsb' 7 1, 0#7, a, o.extractLsb' 0 7⟩
  | .bnz s o a => some ⟨s, 0x04#7, o.extractLsb' 7 1, 0#7, a, o.extractLsb' 0 7⟩
  | .bms s o m => some ⟨s, 0x05#7, o.extractLsb' 7 1, 0#4 ++ m, 0#7, o.extractLsb' 0 7⟩
  | .bmc s o m => some ⟨s, 0x06#7, o.extractLsb' 7 1, 0#4 ++ m, 0#7, o.extractLsb' 0 7⟩
  | .call s o d => some ⟨s, 0x07#7, o.extractLsb' 7 1, d, 0#7, o.extractLsb' 0 7⟩
  | .jmp s a => some ⟨s, 0x08#7, 0#1, 0#7, a, 0#7⟩
  | .calli s d a => some ⟨s, 0x09#7, 0#1, d, a, 0#7⟩
  | .ret s a => some ⟨s, 0x0A#7, 0#1, 0#7, a, 0#7⟩
  | .nop s => some ⟨s, 0x0B#7, 0#1, 0#7, 0#7, 0#7⟩
  | .yield s => some ⟨s, 0x0B#7, 0#1, 0#7, 0#7, 1#7⟩
  | .exit s => some ⟨s, 0x0B#7, 0#1, 0#7, 0#7, 2#7⟩
  | .add s x d a b => some ⟨s, 0x10#7, x, d, a, b⟩
  | .sub s x d a b => some ⟨s, 0x11#7, x, d, a, b⟩
  | .addi s i d a => some ⟨s, 0x12#7, i.extractLsb' 7 1, d, a, i.extractLsb' 0 7⟩
  | .mul s d a b => some ⟨s, 0x13#7, 0#1, d, a, b⟩
  | .mulh s x d a b => some ⟨s, 0x14#7, x, d, a, b⟩
  | .muli s i d a => some ⟨s, 0x15#7, i.extractLsb' 7 1, d, a, i.extractLsb' 0 7⟩
  | .div s x d a b => some ⟨s, 0x16#7, x, d, a, b⟩
  | .rem s x d a b => some ⟨s, 0x17#7, x, d, a, b⟩
  | .and s d a b => some ⟨s, 0x18#7, 0#1, d, a, b⟩
  | .or s d a b => some ⟨s, 0x19#7, 0#1, d, a, b⟩
  | .xor s d a b => some ⟨s, 0x1A#7, 0#1, d, a, b⟩
  | .andi s i d a => some ⟨s, 0x1B#7, i.extractLsb' 7 1, d, a, i.extractLsb' 0 7⟩
  | .ori s i d a => some ⟨s, 0x1C#7, i.extractLsb' 7 1, d, a, i.extractLsb' 0 7⟩
  | .xori s i d a => some ⟨s, 0x1D#7, i.extractLsb' 7 1, d, a, i.extractLsb' 0 7⟩
  | .shl s d a b => some ⟨s, 0x1E#7, 0#1, d, a, b⟩
  | .shr s x d a b => some ⟨s, 0x1F#7, x, d, a, b⟩
  | .shli s i d a => some ⟨s, 0x20#7, i.extractLsb' 7 1, d, a, i.extractLsb' 0 7⟩
  | .shri s i d a => some ⟨s, 0x21#7, i.extractLsb' 7 1, d, a, i.extractLsb' 0 7⟩
  | .shrai s i d a => some ⟨s, 0x22#7, i.extractLsb' 7 1, d, a, i.extractLsb' 0 7⟩
  | .movi s i d => some ⟨s, 0x23#7, i.extractLsb' 7 1, d, 0#7, i.extractLsb' 0 7⟩
  | .not s d a => some ⟨s, 0x24#7, 0#1, d, a, 0#7⟩
  | .neg s d a => some ⟨s, 0x24#7, 0#1, d, a, 1#7⟩
  | .abs s d a => some ⟨s, 0x24#7, 0#1, d, a, 2#7⟩
  | .clz s d a => some ⟨s, 0x24#7, 0#1, d, a, 3#7⟩
  | .popc s d a => some ⟨s, 0x24#7, 0#1, d, a, 4#7⟩
  | .brev s d a => some ⟨s, 0x24#7, 0#1, d, a, 5#7⟩
  | .mov s d a => some ⟨s, 0x24#7, 0#1, d, a, 6#7⟩
  | .bfx s d a b => some ⟨s, 0x25#7, 0#1, d, a, b⟩
  | .bfi s d a b => some ⟨s, 0x26#7, 0#1, d, a, b⟩
  | .isetEq s d a b => some ⟨s, 0x27#7, 0#1, d, a, b⟩
  | .isetNe s d a b => some ⟨s, 0x27#7, 1#1, d, a, b⟩
  | .isetLt s x d a b => some ⟨s, 0x28#7, x, d, a, b⟩
  | .isetLe s x d a b => some ⟨s, 0x29#7, x, d, a, b⟩
  | .sel s d a b => some ⟨s, 0x2A#7, 0#1, d, a, b⟩
  | .add64 s d a b => some ⟨s, 0x2B#7, 0#1, d, a, b⟩
  | .addi64 s i d a => some ⟨s, 0x2C#7, i.extractLsb' 7 1, d, a, i.extractLsb' 0 7⟩
  | .lea s d a b => some ⟨s, 0x2D#7, 0#1, d, a, b⟩
  | .imad s d a b => some ⟨s, 0x2E#7, 0#1, d, a, b⟩
  | .fadd s d a b => some ⟨s, 0x30#7, 0#1, d, a, b⟩
  | .fsub s d a b => some ⟨s, 0x31#7, 0#1, d, a, b⟩
  | .fmul s d a b => some ⟨s, 0x32#7, 0#1, d, a, b⟩
  | .ffma s d a b => some ⟨s, 0x33#7, 0#1, d, a, b⟩
  | .fmin s x d a b => some ⟨s, 0x34#7, x, d, a, b⟩
  | .fmax s x d a b => some ⟨s, 0x35#7, x, d, a, b⟩
  | .fsetEq s d a b => some ⟨s, 0x36#7, 0#1, d, a, b⟩
  | .fsetNe s d a b => some ⟨s, 0x36#7, 1#1, d, a, b⟩
  | .fsetLt s x d a b => some ⟨s, 0x37#7, x, d, a, b⟩
  | .fsetLe s x d a b => some ⟨s, 0x38#7, x, d, a, b⟩
  | .fclass s i d a => some ⟨s, 0x39#7, i.extractLsb' 7 1, d, a, i.extractLsb' 0 7⟩
  | .fneg s d a => some ⟨s, 0x3A#7, 0#1, d, a, 0#7⟩
  | .fabs s d a => some ⟨s, 0x3A#7, 0#1, d, a, 1#7⟩
  | .frcp s d a => some ⟨s, 0x3A#7, 0#1, d, a, 2#7⟩
  | .frsq s d a => some ⟨s, 0x3A#7, 0#1, d, a, 3#7⟩
  | .fsqrt s d a => some ⟨s, 0x3A#7, 0#1, d, a, 4#7⟩
  | .fex2 s d a => some ⟨s, 0x3A#7, 0#1, d, a, 5#7⟩
  | .flg2 s d a => some ⟨s, 0x3A#7, 0#1, d, a, 6#7⟩
  | .fsin s d a => some ⟨s, 0x3A#7, 0#1, d, a, 7#7⟩
  | .fcos s d a => some ⟨s, 0x3A#7, 0#1, d, a, 8#7⟩
  | .ftanh s d a => some ⟨s, 0x3A#7, 0#1, d, a, 9#7⟩
  | .hadd2 s x d a b => some ⟨s, 0x3B#7, x, d, a, b⟩
  | .hmul2 s x d a b => some ⟨s, 0x3C#7, x, d, a, b⟩
  | .hfma2 s x d a b => some ⟨s, 0x3D#7, x, d, a, b⟩
  | .hmin2 s x d a => some ⟨s, 0x3E#7, x, d, a, 0#7⟩
  | .hmin2P s x d a => some ⟨s, 0x3E#7, x, d, a, 1#7⟩
  | .hmax2 s x d a => some ⟨s, 0x3E#7, x, d, a, 2#7⟩
  | .hmax2P s x d a => some ⟨s, 0x3E#7, x, d, a, 3#7⟩
  | .hneg2 s x d a => some ⟨s, 0x3E#7, x, d, a, 4#7⟩
  | .habs2 s x d a => some ⟨s, 0x3E#7, x, d, a, 5#7⟩
  | .cvts s d a p f => some ⟨s, 0x48#7, 0#1, d, a, 0#2 ++ p ++ f⟩
  | .cvtx s d a p f => some ⟨s, 0x49#7, 0#1, d, a, 0#2 ++ p ++ f⟩
  | .cvti s d a u v r => some ⟨s, 0x4A#7, 0#1, d, a, 0#3 ++ u ++ v ++ r⟩
  | .cvtb s d a f => some ⟨s, 0x4B#7, 0#1, d, a, 0#4 ++ f⟩
  | .cvthF2hl s d a => some ⟨s, 0x4C#7, 0#1, d, a, 0#7⟩
  | .cvthF2hh s d a => some ⟨s, 0x4C#7, 0#1, d, a, 1#7⟩
  | .cvthF2bl s d a => some ⟨s, 0x4C#7, 0#1, d, a, 2#7⟩
  | .cvthF2bh s d a => some ⟨s, 0x4C#7, 0#1, d, a, 3#7⟩
  | .cvthHl2f s d a => some ⟨s, 0x4C#7, 0#1, d, a, 4#7⟩
  | .cvthHh2f s d a => some ⟨s, 0x4C#7, 0#1, d, a, 5#7⟩
  | .cvthBl2f s d a => some ⟨s, 0x4C#7, 0#1, d, a, 6#7⟩
  | .cvthBh2f s d a => some ⟨s, 0x4C#7, 0#1, d, a, 7#7⟩
  | .lane s x d => some ⟨s, 0x50#7, x, d, 0#7, 0#7⟩
  | .shfl s x d a b => some ⟨s, 0x51#7, x, d, a, b⟩
  | .voteAny s x d a => some ⟨s, 0x52#7, x, d, a, 0#7⟩
  | .voteAll s x d a => some ⟨s, 0x52#7, x, d, a, 1#7⟩
  | .voteBallot s m a => some ⟨s, 0x52#7, 0#1, 0#4 ++ m, a, 2#7⟩
  | .bcast s x d a b => some ⟨s, 0x53#7, x, d, a, b⟩
  | .matchLanes s x d a => some ⟨s, 0x54#7, x, d, a, 0#7⟩
  | .redAdd s x d a => some ⟨s, 0x55#7, x, d, a, 0#7⟩
  | .redMinS s x d a => some ⟨s, 0x55#7, x, d, a, 1#7⟩
  | .redMinU s x d a => some ⟨s, 0x55#7, x, d, a, 2#7⟩
  | .redMaxS s x d a => some ⟨s, 0x55#7, x, d, a, 3#7⟩
  | .redMaxU s x d a => some ⟨s, 0x55#7, x, d, a, 4#7⟩
  | .redAnd s x d a => some ⟨s, 0x55#7, x, d, a, 5#7⟩
  | .redOr s x d a => some ⟨s, 0x55#7, x, d, a, 6#7⟩
  | .redXor s x d a => some ⟨s, 0x55#7, x, d, a, 7#7⟩
  | .fredAdd s x d a => some ⟨s, 0x56#7, x, d, a, 0#7⟩
  | .fredMin s x d a => some ⟨s, 0x56#7, x, d, a, 1#7⟩
  | .fredMinp s x d a => some ⟨s, 0x56#7, x, d, a, 2#7⟩
  | .fredMax s x d a => some ⟨s, 0x56#7, x, d, a, 3#7⟩
  | .fredMaxp s x d a => some ⟨s, 0x56#7, x, d, a, 4#7⟩
  | .scanAdd s x d a => some ⟨s, 0x57#7, x, d, a, 0#7⟩
  | .scanXadd s x d a => some ⟨s, 0x57#7, x, d, a, 1#7⟩
  | .scanFadd s x d a => some ⟨s, 0x57#7, x, d, a, 2#7⟩
  | .barArrive s n d => some ⟨s, 0x58#7, 0#1, 0#2 ++ n, d, 0#7⟩
  | .barWait s n a => some ⟨s, 0x58#7, 0#1, 0#2 ++ n, a, 1#7⟩
  | .barSync s n => some ⟨s, 0x58#7, 0#1, 0#2 ++ n, 0#7, 2#7⟩
  | .regrp s k f c => some ⟨s, 0x59#7, 0#1, k, f, c⟩
  | .winb s i => some ⟨s, 0x5A#7, i.extractLsb' 7 1, 0#7, 0#7, i.extractLsb' 0 7⟩
  | .tcall s m p n => some ⟨s, 0x5E#7, 0#1, 0#4 ++ m, p, 0#4 ++ n⟩
  | .tret s => some ⟨s, 0x5F#7, 0#1, 0#7, 0#7, 0#7⟩
  | .ld s c d a b => some ⟨s, 0x60#7, c, d, a, b⟩
  | .ldB64 s c d a b => some ⟨s, 0x61#7, c, d, a, b⟩
  | .ldB8 s d a b => some ⟨s, 0x62#7, 0#1, d, a, b⟩
  | .ldB16 s d a b => some ⟨s, 0x62#7, 1#1, d, a, b⟩
  | .ldNr s c d a m => some ⟨s, 0x63#7, c, d, a, 0#4 ++ m⟩
  | .st s c d a b => some ⟨s, 0x64#7, c, d, a, b⟩
  | .stB64 s c d a b => some ⟨s, 0x65#7, c, d, a, b⟩
  | .stB8 s d a b => some ⟨s, 0x66#7, 0#1, d, a, b⟩
  | .stB16 s d a b => some ⟨s, 0x66#7, 1#1, d, a, b⟩
  | .ldsp s d a b => some ⟨s, 0x67#7, 0#1, d, a, b⟩
  | .stsp s d a b => some ⟨s, 0x67#7, 1#1, d, a, b⟩
  | .atom s d a o => some ⟨s, 0x68#7, 0#1, d, a, o⟩
  | .ratom s d a o => some ⟨s, 0x69#7, 0#1, d, a, o⟩
  | .cadd s d a f => some ⟨s, 0x6A#7, 0#1, d, a, f⟩
  | .fence s c => some ⟨s, 0x6B#7, 0#1, c, 0#7, 0#7⟩
  | .fenceTc s => some ⟨s, 0x6B#7, 0#1, 0#7, 0#7, 1#7⟩
  | .fenceQ s a => some ⟨s, 0x6B#7, 0#1, 0#7, a, 2#7⟩
  | .pref s l a => some ⟨s, 0x6B#7, 0#1, l, a, 3#7⟩
  | .pgreq s h a => some ⟨s, 0x6B#7, 0#1, 0#3 ++ h, a, 4#7⟩
  | .qpush s q a => some ⟨s, 0x6B#7, 0#1, 0#4 ++ q, a, 5#7⟩
  | .qpop s d m q => some ⟨s, 0x6B#7, 0#1, d, 0#1 ++ m ++ q, 6#7⟩
  | .copy s h a q => some ⟨s, 0x6C#7, 0#1, 0#3 ++ h, a, 0#4 ++ q⟩
  | .hwait s h => some ⟨s, 0x6D#7, 0#1, 0#7, 0#3 ++ h, 0#7⟩
  | .htest s d h => some ⟨s, 0x6D#7, 0#1, d, 0#3 ++ h, 1#7⟩
  | .hcancel s h => some ⟨s, 0x6D#7, 0#1, 0#7, 0#3 ++ h, 2#7⟩
  | .hexport s d h => some ⟨s, 0x6D#7, 0#1, d, 0#3 ++ h, 3#7⟩
  | .himport s h a => some ⟨s, 0x6D#7, 0#1, 0#3 ++ h, a, 4#7⟩
  | .macq s => some ⟨s, 0x70#7, 0#1, 0#7, 0#7, 0#7⟩
  | .mrel s => some ⟨s, 0x71#7, 0#1, 0#7, 0#7, 0#7⟩
  | .mma s x t a b => some ⟨s, 0x72#7, x, 0#4 ++ t, a, b⟩
  | .mmaP s x t a b => some ⟨s, 0x73#7, x, 0#4 ++ t, a, b⟩
  | .mzero s t => some ⟨s, 0x74#7, 0#1, 0#4 ++ t, 0#7, 0#7⟩
  | .mloada s t a => some ⟨s, 0x75#7, 0#1, 0#4 ++ t, a, 0#7⟩
  | .mstorea s t a => some ⟨s, 0x76#7, 0#1, 0#4 ++ t, a, 0#7⟩
  | .collPost s h c => some ⟨s, 0x78#7, 0#1, 0#3 ++ h, 0#5 ++ c, 0#7⟩
  | .collFire s c a => some ⟨s, 0x78#7, 0#1, 0#5 ++ c, a, 1#7⟩
  | .collProg s d c => some ⟨s, 0x78#7, 0#1, d, 0#5 ++ c, 2#7⟩
  | .collAgree s h c => some ⟨s, 0x78#7, 0#1, 0#3 ++ h, 0#5 ++ c, 3#7⟩
  | .deq s d a => some ⟨s, 0x79#7, 0#1, d, a, 0#7⟩
  | .enq s d a => some ⟨s, 0x7A#7, 0#1, d, a, 0#7⟩
  | .launch s h a => some ⟨s, 0x7A#7, 0#1, 0#3 ++ h, a, 1#7⟩
  | .wfetch s d a => some ⟨s, 0x7B#7, 0#1, d, a, 0#7⟩
  | .srd s r d => some ⟨s, 0x7C#7, r.extractLsb' 7 1, d, 0#7, r.extractLsb' 0 7⟩
  | .swr s r a => some ⟨s, 0x7D#7, r.extractLsb' 7 1, 0#7, a, r.extractLsb' 0 7⟩
  | .trap s n => some ⟨s, 0x7E#7, 0#1, 0#3 ++ n, 0#7, 0#7⟩
  | .eret s => some ⟨s, 0x7E#7, 0#1, 0#7, 0#7, 1#7⟩
  | .kset s k a => some ⟨s, 0x7E#7, 0#1, 3#2 ++ k, a, 2#7⟩
  | .icinv s c a => some ⟨s, 0x7E#7, 0#1, c, a, 3#7⟩
  | .isync s => some ⟨s, 0x7E#7, 0#1, 0#7, 0#7, 4#7⟩
  | .xlate s d a => some ⟨s, 0x7E#7, 0#1, d, a, 5#7⟩
  | .sleep s a => some ⟨s, 0x7E#7, 0#1, 0#7, a, 6#7⟩
  | .halt s => some ⟨s, 0x7E#7, 0#1, 0#7, 0#7, 7#7⟩
  | .ctxsave s h a => some ⟨s, 0x7E#7, 0#1, 0#3 ++ h, a, 8#7⟩
  | .ctxload s h a => some ⟨s, 0x7E#7, 0#1, 0#3 ++ h, a, 9#7⟩
  | .stallCountExpiry _ _ => none
  | .deferredRelease _ _ _ _ => none
  | .loadResult _ => none
  | .ratomResult _ _ _ => none
  | .remoteAccessRequest _ => none
  | .copyElement _ _ _ _ _ _ => none
  | .copyComplete _ => none
  | .matrixOpRetire _ _ => none
  | .invalidation _ _ => none
  | .tAcknowledge _ _ => none
  | .completionPoint _ => none
  | .pageRequestRecordPost _ => none
  | .windowAccessArrival _ _ => none
  | .teamRelease _ _ => none
  | .mailboxWrite _ _ => none
  | .collCheckReturn _ _ => none
  | .launchCheck _ => none
  | .placeStep _ => none
  | .tenantPartitionWrite _ _ => none
  | .wqcfgWrite _ _ => none
  | .hostItemAppend _ _ => none
  | .preemptSave _ _ => none
  | .groupHalt _ _ => none
  | .forcedSave _ => none
  | .teamStateSave _ _ => none
  | .preemptRestore _ _ => none
  | .restoreResume _ _ => none
  | .paddockWrite _ _ => none
  | .circuitRelease _ => none
  | .pauseFlit _ _ => none
  | .resumeFlit _ _ => none
  | .collPacketArrival _ => none
  | .retryAfter _ _ => none
  | .retryResend _ => none
  | .collCommit _ _ => none
  | .agreementStart _ _ => none
  | .agreeProgress _ _ _ _ => none
  | .agreeResult _ _ _ => none
  | .collCancel _ _ _ => none
  | .cancelAck _ _ _ => none
  | .governorInterval _ _ _ => none
  | .governorFloorWrite _ => none
  | .bootcfgWrite _ => none
  | .romHubVerify => none
  | .hubKernelVerify _ => none
  | .attestRequest _ => none
  | .thermalTrip _ _ => none
  | .tripClear _ => none
  | .powerRemove _ _ => none
  | .debugRelease _ _ => none
  | .pendingTrapRelease _ _ => none
  | .trapRecordPost _ => none
  | .trapbaseWrite _ _ => none
  | .trapResume _ => none
  | .trapKill _ => none
  | .killHeld _ _ => none
  | .killContext _ _ => none
  | .killDone _ => none
  | .declareLost _ => none
  | .lossRequestTimeout _ => none
  | .switchLinksDown _ => none
  | .lossNotice _ => none
  | .homeRebuild _ _ => none
  | .eccError _ => none
  | .structureError _ _ _ _ => none
  | .tenantReset _ _ => none
  | .laneSampleInterval _ _ _ => none
  | .swapRequest _ _ => none
  | .swapProposal _ _ _ _ => none
  | .replayRequest _ _ => none
  | .moduleReset => none
  | .apertureRegisterWrite _ _ => none
  | .illegalOpcodeWord _ => none
  | .sleepCountExpiry _ _ _ _ => none
  | .storePerformed _ _ => none
  | .homeRequest _ => none
  | .icinvComplete _ _ _ _ => none
  | .ctxmoveComplete _ => none
  | .scratchpadZeroingComplete _ _ => none
  | .laneLossOfLock _ _ => none
  | .uncorrectableFlit _ _ => none
  | .hostEndpointAccess _ => none
  | .storageNetworkTransfer _ => none

/-- The word of an instruction. An ILLEGAL_OPCODE_WORD is its own word; the other events have none. -/
def encode : Instr → Option Word
  | .illegalOpcodeWord w => some w
  | i => (encodeFields i).map packWord

/-- What a word is: an instruction with every unused field zero; an instruction with a nonzero unused field, which
raises illegal-operand (R142); or a reserved encoding, which raises illegal-opcode (R145). -/
inductive Decoded where
  | ok (i : Instr)
  | badOperand (i : Instr)
  | illegalOpcode
deriving DecidableEq, Repr

/-- Decode one word (R142, R144, R145). -/
def decode (w : Word) : Decoded :=
  match decodeFields (splitWord w) with
  | none => .illegalOpcode
  | some i => if (encodeFields i).map packWord = some w then .ok i else .badOperand i

/-- Why bytes are no instruction. -/
inductive Reject where
  | tooShort
  | illegalOpcode (w : Word)
  | illegalOperand (i : Instr)
deriving DecidableEq, Repr

/-- A word from its four bytes, the lowest address first (R4). -/
def wordOfBytes (b0 b1 b2 b3 : Byte) : Word := b3 ++ b2 ++ b1 ++ b0

/-- The bytes of a word as memory stores it (R4). -/
def bytesOfWord (w : Word) : List Byte :=
  [w.extractLsb' 0 8, w.extractLsb' 8 8, w.extractLsb' 16 8, w.extractLsb' 24 8]

/-- Decode the first instruction of any bytes, and answer the rest. -/
def decodeBytes : List Byte → Except Reject (Instr × List Byte)
  | b0 :: b1 :: b2 :: b3 :: rest =>
    match decode (wordOfBytes b0 b1 b2 b3) with
    | .ok i => .ok (i, rest)
    | .badOperand i => .error (.illegalOperand i)
    | .illegalOpcode => .error (.illegalOpcode (wordOfBytes b0 b1 b2 b3))
  | _ => .error .tooShort

/-- The instruction of a word numbered as the opcode table numbers it; every row has one 32-bit word. -/
def decodeTableWord (nbits w : Nat) : Option Instr :=
  if nbits ≤ 32 then
    match decodeBytes (bytesOfWord (BitVec.ofNat 32 (w % 2 ^ nbits))) with
    | .ok (i, _) => some i
    | .error _ => none
  else none

/-! Each constructor from a word written out from the encoding tables (R144, R162, R191, R215, R224, R237, R242, R260,
R273, R274). -/

theorem decode_blk : decode 0xA0400042 = .ok (.blk 5#3 66#8) := by decide
theorem decode_br : decode 0xC080005C = .ok (.br 6#3 92#8) := by decide
theorem decode_bz : decode 0xE0E03CB1 = .ok (.bz 7#3 177#8 121#7) := by decide
theorem decode_bnz : decode 0xE1202A3E = .ok (.bnz 7#3 190#8 84#7) := by decide
theorem decode_bms : decode 0xA141C008 = .ok (.bms 5#3 8#8 7#3) := by decide
theorem decode_bmc : decode 0x81A08047 = .ok (.bmc 4#3 199#8 2#3) := by decide
theorem decode_call : decode 0xC1DD000E = .ok (.call 6#3 14#8 116#7) := by decide
theorem decode_jmp : decode 0x42000780 = .ok (.jmp 2#3 15#7) := by decide
theorem decode_calli : decode 0x624F7800 = .ok (.calli 3#3 61#7 112#7) := by decide
theorem decode_ret : decode 0x42801880 = .ok (.ret 2#3 49#7) := by decide
theorem decode_nop : decode 0xA2C00000 = .ok (.nop 5#3) := by decide
theorem decode_yield : decode 0x22C00001 = .ok (.yield 1#3) := by decide
theorem decode_exit : decode 0xA2C00002 = .ok (.exit 5#3) := by decide
theorem decode_add : decode 0x44378E35 = .ok (.add 2#3 1#1 94#7 28#7 53#7) := by decide
theorem decode_sub : decode 0x647DB863 = .ok (.sub 3#3 1#1 118#7 112#7 99#7) := by decide
theorem decode_addi : decode 0x8498B3A9 = .ok (.addi 4#3 41#8 98#7 103#7) := by decide
theorem decode_mul : decode 0x24C4A850 = .ok (.mul 1#3 18#7 80#7 80#7) := by decide
theorem decode_mulh : decode 0x852440FD = .ok (.mulh 4#3 1#1 17#7 1#7 125#7) := by decide
theorem decode_muli : decode 0xE546F202 = .ok (.muli 7#3 2#8 27#7 100#7) := by decide
theorem decode_div : decode 0x45BC0B26 = .ok (.div 2#3 1#1 112#7 22#7 38#7) := by decide
theorem decode_rem : decode 0x65F1B8D7 = .ok (.rem 3#3 1#1 70#7 113#7 87#7) := by decide
theorem decode_and : decode 0xC606CC79 = .ok (.and 6#3 27#7 24#7 121#7) := by decide
theorem decode_or : decode 0xC646BE7C = .ok (.or 6#3 26#7 124#7 124#7) := by decide
theorem decode_xor : decode 0x8689C1AF = .ok (.xor 4#3 39#7 3#7 47#7) := by decide
theorem decode_andi : decode 0x86DE09AB = .ok (.andi 4#3 43#8 120#7 19#7) := by decide
theorem decode_ori : decode 0x670AD391 = .ok (.ori 3#3 17#8 43#7 39#7) := by decide
theorem decode_xori : decode 0xE773009B = .ok (.xori 7#3 155#8 76#7 1#7) := by decide
theorem decode_shl : decode 0xA795EDAC = .ok (.shl 5#3 87#7 91#7 44#7) := by decide
theorem decode_shr : decode 0x27EBB4A8 = .ok (.shr 1#3 1#1 46#7 105#7 40#7) := by decide
theorem decode_shli : decode 0x882A4C33 = .ok (.shli 4#3 179#8 41#7 24#7) := by decide
theorem decode_shri : decode 0x8856CBF9 = .ok (.shri 4#3 121#8 91#7 23#7) := by decide
theorem decode_shrai : decode 0x289F7CC2 = .ok (.shrai 1#3 66#8 125#7 121#7) := by decide
theorem decode_movi : decode 0x28F80074 = .ok (.movi 1#3 244#8 96#7) := by decide
theorem decode_not : decode 0x691B5A00 = .ok (.not 3#3 109#7 52#7) := by decide
theorem decode_neg : decode 0x2911F281 = .ok (.neg 1#3 71#7 101#7) := by decide
theorem decode_abs : decode 0x890BD882 = .ok (.abs 4#3 47#7 49#7) := by decide
theorem decode_clz : decode 0xA91B0103 = .ok (.clz 5#3 108#7 2#7) := by decide
theorem decode_popc : decode 0x8901AD84 = .ok (.popc 4#3 6#7 91#7) := by decide
theorem decode_brev : decode 0x49143D85 = .ok (.brev 2#3 80#7 123#7) := by decide
theorem decode_mov : decode 0x49043086 = .ok (.mov 2#3 16#7 97#7) := by decide
theorem decode_bfx : decode 0x495DF4F9 = .ok (.bfx 2#3 119#7 105#7 121#7) := by decide
theorem decode_bfi : decode 0x898B612E = .ok (.bfi 4#3 45#7 66#7 46#7) := by decide
theorem decode_isetEq : decode 0xA9C8723C = .ok (.isetEq 5#3 33#7 100#7 60#7) := by decide
theorem decode_isetNe : decode 0x29F33064 = .ok (.isetNe 1#3 76#7 96#7 100#7) := by decide
theorem decode_isetLt : decode 0xEA3BD305 = .ok (.isetLt 7#3 1#1 111#7 38#7 5#7) := by decide
theorem decode_isetLe : decode 0x8A66D642 = .ok (.isetLe 4#3 1#1 27#7 44#7 66#7) := by decide
theorem decode_sel : decode 0xAA8BFB13 = .ok (.sel 5#3 47#7 118#7 19#7) := by decide
theorem decode_add64 : decode 0x6AC93BDA = .ok (.add64 3#3 36#7 119#7 90#7) := by decide
theorem decode_addi64 : decode 0xAB0A2C18 = .ok (.addi64 5#3 24#8 40#7 88#7) := by decide
theorem decode_lea : decode 0x6B4A0BE7 = .ok (.lea 3#3 40#7 23#7 103#7) := by decide
theorem decode_imad : decode 0x2B944A5D = .ok (.imad 1#3 81#7 20#7 93#7) := by decide
theorem decode_fadd : decode 0xCC0A1F15 = .ok (.fadd 6#3 40#7 62#7 21#7) := by decide
theorem decode_fsub : decode 0xCC41C5FF = .ok (.fsub 6#3 7#7 11#7 127#7) := by decide
theorem decode_fmul : decode 0xAC917BB4 = .ok (.fmul 5#3 69#7 119#7 52#7) := by decide
theorem decode_ffma : decode 0x2CC7EFCD = .ok (.ffma 1#3 31#7 95#7 77#7) := by decide
theorem decode_fmin : decode 0x6D2EEA36 = .ok (.fmin 3#3 1#1 59#7 84#7 54#7) := by decide
theorem decode_fmax : decode 0x4D7FBB52 = .ok (.fmax 2#3 1#1 126#7 118#7 82#7) := by decide
theorem decode_fsetEq : decode 0x2D99E02B = .ok (.fsetEq 1#3 103#7 64#7 43#7) := by decide
theorem decode_fsetNe : decode 0xEDA6C8FE = .ok (.fsetNe 7#3 27#7 17#7 126#7) := by decide
theorem decode_fsetLt : decode 0xCDF479E5 = .ok (.fsetLt 6#3 1#1 81#7 115#7 101#7) := by decide
theorem decode_fsetLe : decode 0x8E259C30 = .ok (.fsetLe 4#3 1#1 22#7 56#7 48#7) := by decide
theorem decode_fclass : decode 0x4E5B5B10 = .ok (.fclass 2#3 16#8 109#7 54#7) := by decide
theorem decode_fneg : decode 0x6E84DD80 = .ok (.fneg 3#3 19#7 59#7) := by decide
theorem decode_fabs : decode 0xAE9B8B01 = .ok (.fabs 5#3 110#7 22#7) := by decide
theorem decode_frcp : decode 0xAE8EFD82 = .ok (.frcp 5#3 59#7 123#7) := by decide
theorem decode_frsq : decode 0x8E966F03 = .ok (.frsq 4#3 89#7 94#7) := by decide
theorem decode_fsqrt : decode 0x6E8F9204 = .ok (.fsqrt 3#3 62#7 36#7) := by decide
theorem decode_fex2 : decode 0x6E8F5A05 = .ok (.fex2 3#3 61#7 52#7) := by decide
theorem decode_flg2 : decode 0x4E83D886 = .ok (.flg2 2#3 15#7 49#7) := by decide
theorem decode_fsin : decode 0xEE9FE287 = .ok (.fsin 7#3 127#7 69#7) := by decide
theorem decode_fcos : decode 0x4E947C08 = .ok (.fcos 2#3 81#7 120#7) := by decide
theorem decode_ftanh : decode 0x8E9C1609 = .ok (.ftanh 4#3 112#7 44#7) := by decide
theorem decode_hadd2 : decode 0x4EEFD1C2 = .ok (.hadd2 2#3 1#1 63#7 35#7 66#7) := by decide
theorem decode_hmul2 : decode 0xEF2272E6 = .ok (.hmul2 7#3 1#1 9#7 101#7 102#7) := by decide
theorem decode_hfma2 : decode 0xEF766655 = .ok (.hfma2 7#3 1#1 89#7 76#7 85#7) := by decide
theorem decode_hmin2 : decode 0x2FABE400 = .ok (.hmin2 1#3 1#1 47#7 72#7) := by decide
theorem decode_hmin2P : decode 0xCFBADF81 = .ok (.hmin2P 6#3 1#1 107#7 63#7) := by decide
theorem decode_hmax2 : decode 0x6FBEFD02 = .ok (.hmax2 3#3 1#1 123#7 122#7) := by decide
theorem decode_hmax2P : decode 0x6FB2F703 = .ok (.hmax2P 3#3 1#1 75#7 110#7) := by decide
theorem decode_hneg2 : decode 0x2FB1F204 = .ok (.hneg2 1#3 1#1 71#7 100#7) := by decide
theorem decode_habs2 : decode 0x6FB59205 = .ok (.habs2 3#3 1#1 86#7 36#7) := by decide
theorem decode_cvts : decode 0x9209749E = .ok (.cvts 4#3 37#7 105#7 3#2 6#3) := by decide
theorem decode_cvtx : decode 0xD259D713 = .ok (.cvtx 6#3 103#7 46#7 2#2 3#3) := by decide
theorem decode_cvti : decode 0xD28B6F8D = .ok (.cvti 6#3 45#7 95#7 1#1 1#1 1#2) := by decide
theorem decode_cvtb : decode 0xF2DBEC84 = .ok (.cvtb 7#3 111#7 89#7 4#3) := by decide
theorem decode_cvthF2hl : decode 0x731ED580 = .ok (.cvthF2hl 3#3 123#7 43#7) := by decide
theorem decode_cvthF2hh : decode 0xB304E201 = .ok (.cvthF2hh 5#3 19#7 68#7) := by decide
theorem decode_cvthF2bl : decode 0x5306B602 = .ok (.cvthF2bl 2#3 26#7 108#7) := by decide
theorem decode_cvthF2bh : decode 0x731E3703 = .ok (.cvthF2bh 3#3 120#7 110#7) := by decide
theorem decode_cvthHl2f : decode 0x93096C84 = .ok (.cvthHl2f 4#3 37#7 89#7) := by decide
theorem decode_cvthHh2f : decode 0x33176B05 = .ok (.cvthHh2f 1#3 93#7 86#7) := by decide
theorem decode_cvthBl2f : decode 0xD30D8B06 = .ok (.cvthBl2f 6#3 54#7 22#7) := by decide
theorem decode_cvthBh2f : decode 0xB3193C07 = .ok (.cvthBh2f 5#3 100#7 120#7) := by decide
theorem decode_lane : decode 0xB429C000 = .ok (.lane 5#3 1#1 39#7) := by decide
theorem decode_shfl : decode 0xB477421A = .ok (.shfl 5#3 1#1 93#7 4#7 26#7) := by decide
theorem decode_voteAny : decode 0x54B42A00 = .ok (.voteAny 2#3 1#1 80#7 84#7) := by decide
theorem decode_voteAll : decode 0x54B8AC01 = .ok (.voteAll 2#3 1#1 98#7 88#7) := by decide
theorem decode_voteBallot : decode 0x5481AE02 = .ok (.voteBallot 2#3 6#3 92#7) := by decide
theorem decode_bcast : decode 0x34FF8E96 = .ok (.bcast 1#3 1#1 126#7 29#7 22#7) := by decide
theorem decode_matchLanes : decode 0x3523D480 = .ok (.matchLanes 1#3 1#1 15#7 41#7) := by decide
theorem decode_redAdd : decode 0x55666380 = .ok (.redAdd 2#3 1#1 25#7 71#7) := by decide
theorem decode_redMinS : decode 0x356F1681 = .ok (.redMinS 1#3 1#1 60#7 45#7) := by decide
theorem decode_redMinU : decode 0x95730D82 = .ok (.redMinU 4#3 1#1 76#7 27#7) := by decide
theorem decode_redMaxS : decode 0x55605683 = .ok (.redMaxS 2#3 1#1 1#7 45#7) := by decide
theorem decode_redMaxU : decode 0x957B9A84 = .ok (.redMaxU 4#3 1#1 110#7 53#7) := by decide
theorem decode_redAnd : decode 0xF5767585 = .ok (.redAnd 7#3 1#1 89#7 107#7) := by decide
theorem decode_redOr : decode 0xB57F0286 = .ok (.redOr 5#3 1#1 124#7 5#7) := by decide
theorem decode_redXor : decode 0xB5635307 = .ok (.redXor 5#3 1#1 13#7 38#7) := by decide
theorem decode_fredAdd : decode 0xB5BEA580 = .ok (.fredAdd 5#3 1#1 122#7 75#7) := by decide
theorem decode_fredMin : decode 0x75BA4881 = .ok (.fredMin 3#3 1#1 105#7 17#7) := by decide
theorem decode_fredMinp : decode 0x95BA6482 = .ok (.fredMinp 4#3 1#1 105#7 73#7) := by decide
theorem decode_fredMax : decode 0xD5AF0983 = .ok (.fredMax 6#3 1#1 60#7 19#7) := by decide
theorem decode_fredMaxp : decode 0x55B25F04 = .ok (.fredMaxp 2#3 1#1 73#7 62#7) := by decide
theorem decode_scanAdd : decode 0x55F38600 = .ok (.scanAdd 2#3 1#1 78#7 12#7) := by decide
theorem decode_scanXadd : decode 0x75EC4701 = .ok (.scanXadd 3#3 1#1 49#7 14#7) := by decide
theorem decode_scanFadd : decode 0x75EAA882 = .ok (.scanFadd 3#3 1#1 42#7 81#7) := by decide
theorem decode_barArrive : decode 0xB6035B80 = .ok (.barArrive 5#3 13#5 55#7) := by decide
theorem decode_barWait : decode 0x96022001 = .ok (.barWait 4#3 8#5 64#7) := by decide
theorem decode_barSync : decode 0x76040002 = .ok (.barSync 3#3 16#5) := by decide
theorem decode_regrp : decode 0xD64C597C = .ok (.regrp 6#3 49#7 50#7 124#7) := by decide
theorem decode_winb : decode 0xF6A0006A = .ok (.winb 7#3 234#8) := by decide
theorem decode_tcall : decode 0x57816683 = .ok (.tcall 2#3 5#3 77#7 3#3) := by decide
theorem decode_tret : decode 0xD7C00000 = .ok (.tret 6#3) := by decide
theorem decode_ld : decode 0x78285B03 = .ok (.ld 3#3 1#1 33#7 54#7 3#7) := by decide
theorem decode_ldB64 : decode 0x786FFBA5 = .ok (.ldB64 3#3 1#1 63#7 119#7 37#7) := by decide
theorem decode_ldB8 : decode 0x588F8210 = .ok (.ldB8 2#3 62#7 4#7 16#7) := by decide
theorem decode_ldB16 : decode 0xD8B43DB9 = .ok (.ldB16 6#3 80#7 123#7 57#7) := by decide
theorem decode_ldNr : decode 0x58E1B282 = .ok (.ldNr 2#3 1#1 6#7 101#7 2#3) := by decide
theorem decode_st : decode 0xF9209F45 = .ok (.st 7#3 1#1 2#7 62#7 69#7) := by decide
theorem decode_stB64 : decode 0xB9683C3D = .ok (.stB64 5#3 1#1 32#7 120#7 61#7) := by decide
theorem decode_stB8 : decode 0xF981503F = .ok (.stB8 7#3 5#7 32#7 63#7) := by decide
theorem decode_stB16 : decode 0x79BB4A5D = .ok (.stB16 3#3 109#7 20#7 93#7) := by decide
theorem decode_ldsp : decode 0x79C9A04E = .ok (.ldsp 3#3 38#7 64#7 78#7) := by decide
theorem decode_stsp : decode 0x99F0E9EF = .ok (.stsp 4#3 67#7 83#7 111#7) := by decide
theorem decode_atom : decode 0xBA1C7073 = .ok (.atom 5#3 113#7 96#7 115#7) := by decide
theorem decode_ratom : decode 0x3A40F111 = .ok (.ratom 1#3 3#7 98#7 17#7) := by decide
theorem decode_cadd : decode 0x7A8962DB = .ok (.cadd 3#3 37#7 69#7 91#7) := by decide
theorem decode_fence : decode 0x7AD3C000 = .ok (.fence 3#3 79#7) := by decide
theorem decode_fenceTc : decode 0x7AC00001 = .ok (.fenceTc 3#3) := by decide
theorem decode_fenceQ : decode 0xDAC02202 = .ok (.fenceQ 6#3 68#7) := by decide
theorem decode_pref : decode 0x3ACF1683 = .ok (.pref 1#3 60#7 45#7) := by decide
theorem decode_pgreq : decode 0x7AC2F004 = .ok (.pgreq 3#3 11#4 96#7) := by decide
theorem decode_qpush : decode 0xFAC14885 = .ok (.qpush 7#3 5#3 17#7) := by decide
theorem decode_qpop : decode 0x3AC04E86 = .ok (.qpop 1#3 1#7 3#3 5#3) := by decide
theorem decode_copy : decode 0x9B02FB01 = .ok (.copy 4#3 11#4 118#7 1#3) := by decide
theorem decode_hwait : decode 0xDB400480 = .ok (.hwait 6#3 9#4) := by decide
theorem decode_htest : decode 0x5B408381 = .ok (.htest 2#3 2#7 7#4) := by decide
theorem decode_hcancel : decode 0xFB400682 = .ok (.hcancel 7#3 13#4) := by decide
theorem decode_hexport : decode 0x9B534503 = .ok (.hexport 4#3 77#7 10#4) := by decide
theorem decode_himport : decode 0xDB433D84 = .ok (.himport 6#3 12#4 123#7) := by decide
theorem decode_macq : decode 0xDC000000 = .ok (.macq 6#3) := by decide
theorem decode_mrel : decode 0xDC400000 = .ok (.mrel 6#3) := by decide
theorem decode_mma : decode 0x9CA119D8 = .ok (.mma 4#3 1#1 4#3 51#7 88#7) := by decide
theorem decode_mmaP : decode 0xFCE0DE6B = .ok (.mmaP 7#3 1#1 3#3 60#7 107#7) := by decide
theorem decode_mzero : decode 0xFD004000 = .ok (.mzero 7#3 1#3) := by decide
theorem decode_mloada : decode 0x7D41C080 = .ok (.mloada 3#3 7#3 1#7) := by decide
theorem decode_mstorea : decode 0xDD81DC00 = .ok (.mstorea 6#3 7#3 56#7) := by decide
theorem decode_collPost : decode 0xBE014180 = .ok (.collPost 5#3 5#4 3#2) := by decide
theorem decode_collFire : decode 0xFE00BA81 = .ok (.collFire 7#3 2#2 117#7) := by decide
theorem decode_collProg : decode 0x7E04C082 = .ok (.collProg 3#3 19#7 1#2) := by decide
theorem decode_collAgree : decode 0x9E030183 = .ok (.collAgree 4#3 12#4 3#2) := by decide
theorem decode_deq : decode 0x9E5F5580 = .ok (.deq 4#3 125#7 43#7) := by decide
theorem decode_enq : decode 0xBE851B80 = .ok (.enq 5#3 20#7 55#7) := by decide
theorem decode_launch : decode 0xBE827401 = .ok (.launch 5#3 9#4 104#7) := by decide
theorem decode_wfetch : decode 0x3EC26F00 = .ok (.wfetch 1#3 9#7 94#7) := by decide
theorem decode_srd : decode 0x5F1A4045 = .ok (.srd 2#3 69#8 105#7) := by decide
theorem decode_swr : decode 0x3F6004CB = .ok (.swr 1#3 203#8 9#7) := by decide
theorem decode_trap : decode 0xDF804000 = .ok (.trap 6#3 1#4) := by decide
theorem decode_eret : decode 0x7F800001 = .ok (.eret 3#3) := by decide
theorem decode_kset : decode 0xDF9BBF02 = .ok (.kset 6#3 14#5 126#7) := by decide
theorem decode_icinv : decode 0x3F8D2D03 = .ok (.icinv 1#3 52#7 90#7) := by decide
theorem decode_isync : decode 0x9F800004 = .ok (.isync 4#3) := by decide
theorem decode_xlate : decode 0x3F843605 = .ok (.xlate 1#3 16#7 108#7) := by decide
theorem decode_sleep : decode 0x3F800E86 = .ok (.sleep 1#3 29#7) := by decide
theorem decode_halt : decode 0xBF800007 = .ok (.halt 5#3) := by decide
theorem decode_ctxsave : decode 0xDF83BD08 = .ok (.ctxsave 6#3 14#4 122#7) := by decide
theorem decode_ctxload : decode 0x3F833989 = .ok (.ctxload 1#3 12#4 115#7) := by decide

end Sys2Proof
end

