-- ==== Sys2Proof/Machine/State.lean ====
section
/-! DEFINITION. The state of one Brollira 288 package: plain data, holding every piece of state the spec gives the
machine (INVENTORY.md lists each with its rule and reset value), and the state right after reset. Fields marked MODEL
are the model's own bookkeeping of order and identity (log entries 2 and 3); no statement rests on their reset values. -/

namespace Sys2Proof.Machine

/-- Why the machine stops. -/
inductive Fault where
  /-- Raised by `step` once the module has removed power from its dies (R424). Safe: nothing runs after it. -/
  | powerOff
deriving DecidableEq, Repr

/-- Why a meaning is missing. -/
inductive Refusal where
  /-- Raised by an arm of `exec` that has no meaning yet. Safe: the run ends there. -/
  | notModelled (mnemonic : String)
deriving DecidableEq, Repr

/-- A sparse map in one canonical form: keys strictly rising, no entry equal to what an unlisted key reads as. -/
abbrev SMap (α : Type) := List (Nat × α)
/-- Sparse byte memory. -/
abbrev Mem := List Host.Cell

/-! ## Lanes, groups and teams -/

/-- Where eight lanes of a group (one lane, in a group of width 1) live: the home position of the first in the group,
its register-file row base and column, the index LANE.TEAM gives it, and its team lane index at depth 0
(R31, R51, R98, R129). -/
structure Octet where
  pos : Nat
  rbase : Nat
  col : Nat
  index : Nat
  index0 : Nat
deriving DecidableEq, Repr

/-- What a Stalled entry waits for besides its stall count and the scoreboard (R25). -/
inductive Why where
  /-- SLEEP: the CYCLE value that ends it, and whether an interrupt ends it (R283) -/
  | sleep (due : Option Nat) (interrupt : Bool)
  /-- ICINV in progress: context, scope code, start and length, and its number (R280) -/
  | icinv (ctx scope start len num : Nat)
  /-- SWR to AOWN behind the matrix stream (R276) -/
  | aown
  /-- the matrix operation stream is full (R246) -/
  | stream
  /-- the owner FIFO is full (R244) -/
  | fifo
  /-- a restored owner that does not yet own the engine again (R245) -/
  | engine
  /-- the core has 64 copies in flight (R232), or no page-request slot is free (R239) -/
  | copies
  | pages
  /-- a full work queue (R265, R266) -/
  | workQueue (q : Nat)
  /-- a collective member's check at the H-die (R261) -/
  | coll
  /-- a walk read held at the home until a completion point (R84), or a request to a home under rebuild (R417) -/
  | walk (sector : Nat)
  /-- the group's own stores, before a poisoned word is read (R412); its own loads, before ISYNC (R304) -/
  | ownStores
  | ownLoads
  /-- writes that the access follows, to sectors that it would be translated through (R85) -/
  | order (ids : List Nat)
deriving DecidableEq, Repr

/-- A parked blocking instruction (R28): its member mask (cross-lane), a number (barrier phase, arrival order), the
two values read at issue in each lane, and the lanes whose shadow comparison differed (R399). -/
structure Park where
  i : Instr
  mem : Mask
  num : Nat
  vals : List (Nat × Word × Word)
  bad : Mask
deriving DecidableEq, Repr

/-- A cause raised in the lanes F, with the trap PC and XINFO (R367, R374). -/
structure Raise where
  lanes : Mask
  code : Cause
  tpc : DWord
  xinfo : DWord
deriving DecidableEq, Repr

/-- The state of a frontier entry (R25). `ready` with a nonzero stall count, or with a busy scoreboard, is Stalled. -/
inductive EntSt where
  | ready
  /-- YIELD: opportunities left and the entries awaited (R29) -/
  | deferred (left : Nat) (wait : List (DWord × Byte))
  | stalled (why : Why)
  | parked (p : Park)
  /-- Parked at its PC by a forced save that undid its instruction: it is issued again after the restore (R315) -/
  | undone
  /-- held at a routed trap, under the MODEL's number of that trap (R375) -/
  | held (trap : Nat)
  /-- held at XPC, left outside W by ERET (0) or by a resume of the routed trap so numbered (R378, R379) -/
  | heldRet (trap : Nat)
  /-- a cause waiting for the open local trap to close (R369) -/
  | pending (r : Raise)
deriving DecidableEq, Repr

/-- A frontier entry (R23). -/
structure Ent where
  pc : DWord
  prio : Byte
  mask : Mask
  stall : Nat
  st : EntSt
deriving DecidableEq, Repr

/-- The register a pending write goes to: register `r` of the lanes' own budget, uniform `n`, or mask `n`. Or (`old`) the register has
been written already, as another agent may see it through the window (R301), and its own lanes read the values of the entry, the
previous ones, until the write is due (R149, R152). -/
inductive Dst where
  | v (r : Nat)
  | old (r : Nat)
  | k (n : Nat)
  | m (n : Nat)
deriving DecidableEq, Repr

/-- A write not yet in effect (R149-R153): fixed-latency with the opportunity at which it takes effect, or
scoreboarded (`due = none`) until the result `tok` arrives. -/
structure PWrite where
  dst : Dst
  lanes : Mask
  vals : List (Nat × DWord)
  due : Option Nat
  tok : Nat
deriving DecidableEq, Repr

/-- The open local trap of a group (R375, R376): F, and what its closing restores. -/
structure LTrap where
  lanes : Mask
  kernel : Bool
  ctx : BitVec 16
  vwb : Nat
  srcnt : Word
  prios : SMap Nat
deriving DecidableEq, Repr

/-- An instruction word held by an instruction cache, fetch-ahead or loop buffer: context, virtual address, word, and
the page-table sectors it was fetched through (R85, R280, R281). -/
structure IWord where
  ctx : BitVec 16
  va : DWord
  w : Word
  sectors : List Nat
deriving DecidableEq, Repr

/-- A physical place (R77, R104, R345). -/
inductive Place where
  | ctl (a : Nat)
  | ten (a : Nat)
  /-- window: core, region, offset -/
  | win (core region off : Nat)
  /-- management aperture -/
  | ap (off : Nat)
  /-- this core's scratchpad -/
  | spad (off : Nat)
deriving DecidableEq, Repr

/-- The access of one lane: place, size in bytes, data, whether performed, whether a tensor store, or a window store to another core, is
performed for the agents of its own core (R299), the sectors it was translated through (R81), and the accesses whose same lane comes
first (R68, R219, R221, R293). -/
structure Acc where
  lane : Nat
  va : DWord
  at_ : Place
  size : Nat
  data : DWord
  data2 : DWord
  done : Bool
  reached : Bool
  sectors : List Nat
  after : List Nat
  /-- its translation has been dropped while it waited: it is translated again before it is performed (R85) -/
  stale : Bool
deriving DecidableEq, Repr

/-- What an access does. -/
inductive OpKind where
  | load (cg : Bool)
  | store
  | atom (op : Nat)
  | cadd (fmt : Nat)
  | ldsp
  | stsp
  /-- RATOM: operation and remote rank (R222) -/
  | ratom (op : Nat) (rank : Nat)
  /-- a result that is already known and only travels (SRD, HTEST, DEQ, ...) -/
  | result
  /-- register writes of fixed latency in flight, which an edge awaits (R301) -/
  | regs
deriving DecidableEq, Repr

/-- A load that a runahead group has issued past a branch that is not resolved (R40-R42): the branch, its own PC and lanes, its kind,
its accesses with what they returned, and whether a translation was invalidated meanwhile. A PREF has no access. -/
structure AheadLoad where
  branch : DWord
  pc : DWord
  mask : Mask
  kind : OpKind
  accs : List Acc
  stale : Bool
deriving DecidableEq, Repr

/-- A group or sub-team group (R17, R50, R53). -/
structure Group where
  /-- MODEL: identity -/
  gid : Nat
  core : Nat
  team : Nat
  /-- R374 GSLOT -/
  gslot : Nat
  /-- number in the team, or in the sub-team (R21, R50) -/
  num : Nat
  /-- true for the consumer role (R20) -/
  consumer : Bool
  width : Nat
  budget : Nat
  octets : List Octet
  /-- order within its bundle: position, then callee and sub-team group number of each nesting (R52) -/
  ord : List Nat
  /-- frames on the path from the root team, innermost first, each with the callee index (R54) -/
  path : List (Nat × Nat)
  /-- uniform, mask and handle registers; a handle is 0 (Idle) or the identity of its operation -/
  k : SMap Word
  m : SMap Mask
  h : SMap Nat
  vwb : Nat
  srcnt : Word
  ctxid : BitVec 16
  xpc : DWord
  xcause : Cause
  xlmask : DWord
  /-- level: kernel or user (R271) -/
  kernel : Bool
  live : Mask
  ents : List Ent
  pend : List PWrite
  /-- issue opportunities so far (R149) -/
  opp : Nat
  /-- accesses that the lanes' later accesses follow: lanes, access, and whether copies follow it too (R294) -/
  deps : List (Mask × Nat × Bool)
  /-- the same behind a FENCE that covers no other core: what its own core sees of them is enough (R297, R299) -/
  near : List (Mask × Nat × Bool)
  /-- accesses and operations that later control-space stores of the group follow (R225) -/
  tcDeps : List Nat
  /-- copies started so far that FENCE.Q joins: queue mask and earlier copies (R226) -/
  qJoins : List (Nat × List Nat)
  ltrap : Option LTrap
  /-- words fetched ahead and the loop buffer (R12, R281); stale after an ICINV (R280) -/
  loop : List IWord
  loopStale : Bool
  /-- halted for a save (R314), and by which kind -/
  halted : Bool
  forced : Bool
  /-- a restored owner waiting to own the engine again (R245) -/
  engineWait : Bool
  /-- debug breaks already taken once, by PC and lanes (R289) -/
  brkSkip : List (DWord × Mask)
  /-- lanes of an LD.NR that faulted while others were performed: PC and lanes (R91, R93) -/
  nrReplay : List (DWord × Mask)
  /-- instructions with ROUND = 2 that trapped in some lanes: PC, lanes still to be performed, SRCNT at the first issue (R130) -/
  srReplay : List (DWord × Mask × Word)
  /-- SRCNT when a sub-team group was formed (R131) -/
  srcnt0 : Word
  /-- faults deferred by RATOM: result token, lanes, cause, address (R222) -/
  deferred : List (Nat × Mask × Cause × DWord)
  /-- loads past an unresolved branch (R40) -/
  ahead : List AheadLoad
  /-- lanes that moved to a word whose fetch is held: a BLK there still has to give them its priority (R22, R24) -/
  owes : List (DWord × Mask)
  /-- lanes of completed instructions whose debug-step follows a trap of their own (R288) -/
  stepOwed : List Mask
deriving DecidableEq, Repr

/-- A barrier object (R203): frame (0 at depth 0), callee, role (2: team-wide), identifier, completed-phase count,
lanes arrived (by home register cell), asynchronous operations expected and not yet arrived, and accesses made before
arrivals (R206). -/
structure Bar where
  frame : Nat
  callee : Nat
  role : Nat
  num : Nat
  phase : Word
  arrived : List Nat
  ops : List Nat
  before : List Nat
deriving DecidableEq, Repr

/-- An entry of a hand-off queue (R34, R230), with the pushers' accesses (R36). -/
structure QEntry where
  words : List Word
  mask : Mask
  before : List Nat
deriving DecidableEq, Repr

/-- A frame of the team stack (R55). `callers` holds the caller groups whole. -/
structure Frame where
  fid : Nat
  retPc : DWord
  prio : Byte
  consumer : Bool
  parent : Option Nat
  callers : List Group
  maskReg : Nat
  runs : List (Nat × Nat)
  bars : List (Nat × Nat)
  ran : Mask
deriving DecidableEq, Repr

/-- A resident team (R18). -/
structure Team where
  /-- MODEL: identity, in placement order -/
  tid : Nat
  core : Nat
  grid : Nat
  tenant : Nat
  ctx : BitVec 16
  kernel : Bool
  x : Nat
  y : Nat
  z : Nat
  lin : Nat
  lrAddr : DWord
  spBase : Nat
  spBytes : Nat
  alloc : Nat
  producers : Nat
  width : Nat
  twbar : Word
  bars : List Bar
  /-- declared queues: number, depth, entries (R34) -/
  queues : List (Nat × Nat × List QEntry)
  frames : List Frame
  /-- scratchpad not yet zeroed (R311) -/
  zeroing : Bool
  /-- mailbox offset of an open WFETCH request (R267) -/
  wfetch : Option Nat
  /-- teams withdrawn by this one (R337) -/
  fetched : List Nat
  /-- operations started by the team's groups and not yet gone from Pending (R197, R238, R259) -/
  ops : List Nat
  /-- operations that handles of its groups named when these ended (R238) -/
  named : List Nat
deriving DecidableEq, Repr

/-- A bundle (R31, R98): role, width, budget, context, register rows, and the groups at its positions (depth 0). -/
structure Bundle where
  bid : Nat
  consumer : Bool
  width : Nat
  budget : Nat
  ctx : BitVec 16
  rbase : Nat
  /-- position and GSLOT of each resident group -/
  members : List (Nat × Nat)
  /-- order key of the group that led last (R32) -/
  lastLead : List Nat
deriving DecidableEq, Repr

/-- One issue chosen for this cycle, or the issue in progress: the entry is named by its group, PC and priority, with
the register lanes active in its bundle (R39). -/
structure Sel where
  gid : Nat
  pc : DWord
  prio : Byte
  active : Mask
  /-- keys of the group's other entries that were Ready when the choice was made (R29) -/
  ready : List (DWord × Byte)
deriving DecidableEq, Repr

/-! ## Memory accesses and asynchronous operations -/

/-- A remote element or lane on its way (R332): its number and that of the element it was gathered with, the package and port it left
by, and the rank-table sectors it was routed through (R325). -/
structure Flight where
  idx : Nat
  lead : Nat
  pkg : Nat
  port : Nat
  sectors : List Nat
deriving DecidableEq, Repr

/-- An access or result in flight (R83): its lanes' accesses and the accesses that must be performed whole before it
(R294). -/
structure MemOp where
  id : Nat
  kind : OpKind
  core : Nat
  gid : Nat
  team : Nat
  ctx : BitVec 16
  kernel : Bool
  mask : Mask
  accs : List Acc
  after : List Nat
  /-- the group no longer takes the result (R197) -/
  dropped : Bool
  /-- RATOM lanes on their way (R222) -/
  flights : List Flight
  /-- accesses that only its own core has to see first (R297) -/
  near : List Nat
  /-- the PC of its instruction, at which a lane of it that cannot be performed raises (R367) -/
  pc : DWord
deriving DecidableEq, Repr

/-- The state of an operation that handles name (R101, R237). -/
inductive AState where
  | pending
  | done
  | error (code : Cause) (xinfo : DWord)
  | idle
deriving DecidableEq, Repr

/-- What an asynchronous operation is. -/
inductive AKind where
  /-- queue, descriptor words, and whether the descriptor has been accepted -/
  | copy (q : Nat) (w : List DWord)
  /-- page requests: pages still to list, pages listed, lanes of each -/
  | pages (todo : List (DWord × Mask)) (listed : List (DWord × Mask))
  /-- CTXSAVE (true) or CTXLOAD: address and tile selection -/
  | tiles (save : Bool) (addr : DWord) (sel : Nat)
  | post (c : Nat)
  | agree (c : Nat)
  | launch
  /-- a matrix operation (R246) -/
  | matrix
deriving DecidableEq, Repr

/-- An asynchronous operation (R101, R232, R237, R239). -/
structure AOp where
  id : Nat
  kind : AKind
  core : Nat
  team : Nat
  gid : Nat
  ctx : BitVec 16
  kernel : Bool
  st : AState
  /-- operation slot and its generation (R239) -/
  slot : Option Nat
  gen : Nat
  /-- token exported and not yet imported; context that exported it, and MODEL: the group that did (R238, R380) -/
  exported : Option Nat
  exporter : Nat
  /-- HCANCEL has cancelled it -/
  cancelled : Bool
  /-- barrier object it arrives on: frame, callee, role, number (R203) -/
  bar : Option (Nat × Nat × Nat × Nat)
  /-- elements read and not yet written (R235): number, bytes, poison -/
  got : List (Nat × List Byte × Bool)
  /-- elements performed, and remote elements on the way (R235, R332) -/
  done : List Nat
  flight : List Flight
  /-- elements read whose writes wait for a completion point (R82): number, bytes, poison, and the sectors they were
  translated through -/
  held : List (Nat × List Byte × Bool × List Nat)
  /-- operations all of whose elements come first (R226, R236), and accesses that come first (R224) -/
  after : List Nat
  deps : List Nat
  /-- destination words of copied elements whose source was poisoned (R412), and of words moved whole whose check did not fit (R409) -/
  poisoned : List Nat
  unfit : List Nat
deriving DecidableEq, Repr

/-- An operation of the matrix stream (R246): the instruction, its owner's launch data and the SRCNT read at issue. -/
structure MOp where
  op : Nat
  i : Instr
  gid : Nat
  team : Nat
  ctx : BitVec 16
  lo : DWord
  b : Word
  srcnt : Word
  spBase : Nat
  spBytes : Nat
  lin : Nat
  slots : List DWord
  /-- scratchpad stores it follows (R255) -/
  after : List Nat
deriving DecidableEq, Repr

/-- A group in the owner FIFO (R244): its identity. -/
structure Waiter where
  gid : Nat
  team : Nat
deriving DecidableEq, Repr

/-! ## Cores -/

/-- A line of tensor memory in a core's L1 data cache (10 R214): line number, bytes, and those of its 32-byte words that are
poisoned (R411) or carry a check that does not fit (R409). -/
structure Line where
  line : Nat
  bytes : List Byte
  poison : List Nat
  bad : List Nat
deriving DecidableEq, Repr

/-- A core (R8-R12). -/
structure Core where
  /-- held at reset until released (R349 stage 0), stopped by HALT (R284), by a trip (R424), by its own loss (R429) -/
  held : Bool
  halted : Bool
  cycle : DWord
  aown : BitVec 17
  ptmo : Word
  rf : SMap Word
  rfPoison : List Nat
  spad : Mem
  spadPoison : List Nat
  spadBad : List Nat
  acc : SMap Word
  accBad : List Nat
  bundles : List Bundle
  lastBundle : Nat
  lastBundleC : Nat
  /-- the cycle in progress (R32): issues chosen and not yet made -/
  issueq : List Sel
  icache : List IWord
  l1 : List Line
  owner : Option Waiter
  /-- the owner has issued MREL, or ended: the engine passes on when its operations have retired (R245) -/
  released : Bool
  fifo : List Waiter
  stream : List MOp
  /-- CTXSAVE or CTXLOAD holding the stream (R285) -/
  moves : List Nat
  /-- generation of each operation slot (R239) -/
  gens : SMap Nat
deriving DecidableEq, Repr

/-- A core right after reset (R95, R113, R349). -/
def Core.reset (n : Nat) : Core where
  held := n != 288
  halted := false
  cycle := 0
  aown := 0
  ptmo := 0x0000A410
  rf := []
  rfPoison := []
  spad := []
  spadPoison := []
  spadBad := []
  acc := []
  accBad := []
  bundles := []
  lastBundle := 0
  lastBundleC := 0
  issueq := []
  icache := []
  l1 := []
  owner := none
  released := false
  fifo := []
  stream := []
  moves := []
  gens := []

/-! ## Coherence -/

/-- The Blend state of a sector (R89): the element format, and each holder's partials (package, core, element). -/
structure Blend where
  fmt : Nat
  parts : List (Nat × Nat × Nat × DWord)
deriving DecidableEq, Repr

/-- The directory entry of a control sector (R87): owner, sharers, T sharers, Blend. -/
structure Dir where
  owner : Option (Agent × CState)
  shared : List Agent
  t : List Agent
  blend : Option Blend
deriving DecidableEq, Repr

/-- Who makes a held write (R82): one lane of an access, the oldest write of the device's own, an element of a copy or
CTXSAVE, or another package. `called` is no write: the home of the sector, in another package, has invalidated it, or (`keep`) asks
for its data. -/
inductive Writer where
  | lane (op lane : Nat)
  | device
  | element (op idx : Nat)
  | remote (r : HomeReq)
  | called (home : Nat) (keep : Bool)
deriving DecidableEq, Repr

/-- A write that has reached a tile of a core's accumulator store (R105): its own identity in order lists, its writer, and the
operations on the tile that were issued before and have not retired. -/
structure TileWrite where
  id : Nat
  core : Nat
  tile : Nat
  writer : Writer
  behind : List Nat
deriving DecidableEq, Repr

/-- A write that waits for its completion point (R82): its writer, the holders not yet invalidated and those invalidated that still
owe their acknowledgement, and whether some agent held the sector in T (a CADD is then no Blend, R82). -/
structure HeldWrite where
  sector : Nat
  writer : Writer
  invalidate : List Agent
  owed : List Agent
  t : Bool
deriving DecidableEq, Repr

/-- A write of the device's own (R82), in control-space store order: bytes to store, the tenant and vector raised once it is
visible (R321), whether the bytes arrived poisoned (R411), whether it is the last of an attestation report (R351), and the agent that translated
it with the sectors it read (R81). -/
structure DevWrite where
  addr : Nat
  bytes : List Byte
  vector : Option (Nat × Nat)
  poison : Bool
  report : Bool
  via : List (Agent × Nat)
deriving DecidableEq, Repr

/-! ## Launches -/

/-- An item of a work queue (R263-R266, R308): value, submitting context, accesses it follows, the LAUNCH operation, and
whether it came through the host submission words. -/
structure Item where
  val : DWord
  ctx : BitVec 16
  before : List Nat
  launch : Option Nat
  host : Bool
deriving DecidableEq, Repr

/-- A work queue (R263): items oldest first, and its current grid. -/
structure WorkQ where
  items : List Item
  current : Option Nat
  /-- parked DEQs in service order: group (R264) -/
  parked : List Nat
deriving DecidableEq, Repr

/-- An accepted launch (R106, R309): its record's 48 words, and how far placement has come. -/
structure Grid where
  id : Nat
  q : Nat
  control : Bool
  tenant : Nat
  ctx : BitVec 16
  addr : DWord
  rec_ : List DWord
  next : Nat
  withdrawn : List Nat
  last : Nat
deriving DecidableEq, Repr

/-! ## Collectives -/

/-- The state of a binding at this package (R261, R434, R435). -/
inductive BState where
  | closed
  | open_
  | broken (code : Cause)
  | agreeing (code : Cause)
  | agreed (r : Nat) (code : Cause)
deriving DecidableEq, Repr

/-- A chunk of an opening (R334, R338, R432): block range; fired; the accesses its read follows; the partial that
arrived; whether the contribution was sent on; receivers that have not acknowledged; final here. -/
structure Chunk where
  first : Nat
  count : Nat
  fired : Bool
  after : List Nat
  part : Option (List Word)
  sent : Bool
  acks : List Nat
  final : Bool
deriving DecidableEq, Repr

/-- A collective binding of a context at this package (R111, R261). `ranks` are the members in ascending rank with
their packages. -/
structure Bind where
  ctx : Nat
  c : Nat
  st : BState
  kind : Nat
  slot : DWord
  buf : DWord
  auto : Bool
  ranks : List (Nat × Nat)
  pos : Nat
  chunks : List Chunk
  post : Nat
  agrees : List Nat
  /-- progress that members have given for an agreement, none where the binding is Closed and did not commit (R435) -/
  progress : List (Nat × Option Nat)
  /-- an agreement of the others has asked this Closed binding (R435) -/
  reported : Bool
  /-- ranks whose cancel acknowledgement is owed (R436) -/
  cancelOwed : List Nat
  cancelling : Bool
  /-- packages whose cancel is still to be acknowledged (R436) -/
  owe : List Nat
  /-- the last opening committed (R435) -/
  committed : Bool
  /-- rank-table sectors pinned (R438) -/
  pins : List Nat
  /-- the launch whose teams fire its chunks at their exit (R337) -/
  grid : Nat
deriving DecidableEq, Repr

/-- A collective packet sent and neither acknowledged nor refused (R325, R339): its binding and chunk, the opening it belongs to by its
POST operation, and its way. -/
structure CollSent where
  ctx : Nat
  c : Nat
  chunk : Nat
  post : Nat
  way : Flight
deriving DecidableEq, Repr

/-! ## What the package sends -/

/-- Messages this package sends to other packages and the host (R328, R429, R435, R436). -/
inductive Msg where
  /-- COPY element or RATOM lane request: operation, element or lane, port, package, context, address, operation (R70, R332) -/
  | remote (op idx port pkg : Nat) (ctx : BitVec 16) (addr : DWord) (r : RemoteOp)
  /-- the answer to a remote access that arrived here -/
  | answer (pkg : Nat) (r : RemoteResp)
  | coll (dest : Nat) (p : CollPkt)
  | collAck (dest : Nat) (p : CollPkt)
  | retryAfter (dest us : Nat) (p : CollPkt)
  | agreeStart (dest ctx c : Nat)
  | agreeProgress (dest ctx c : Nat) (value : Option Nat)
  | agreeResult (dest ctx c : Nat) (value : Option Nat)
  | cancel (dest ctx c : Nat)
  | cancelAck (dest ctx c : Nat)
  /-- the notice of a lost package, to another one (R429) -/
  | lossNotice (dest pkg : Nat)
  /-- a request to another package's home, not yet answered: 0 a walk read, 1 a read, 2 to write (R80, R86) -/
  | home (pkg sector kind : Nat)
  /-- a CADD to another package's home, of a lane of an operation, not yet answered (R89) -/
  | cadd (pkg core fmt addr : Nat) (operand : DWord) (op lane : Nat)
  /-- this package's home answers (kinds as in a grant), or a write made there is acknowledged -/
  | grant (pkg sector kind : Nat) (data : List Byte) (marks : Nat)
  | made (pkg : Nat)
  /-- a pin of an open collective here, placed at a home elsewhere or released (R438) -/
  | pin (pkg sector : Nat) (on : Bool)
  /-- this package's home invalidates a sector (R81, R87), or asks its owner for the data (R86) -/
  | invalidate (pkg sector : Nat)
  | callHome (pkg sector : Nat)
  /-- the data of a sector held here, asked for by its home; an acknowledgement, with the data that were dirty; and the report that
  no sector of a region is held any more (R87) -/
  | supply (pkg sector : Nat) (data : List Byte) (marks : Nat) (dirty : Bool)
  | homeAck (pkg sector : Nat) (data : List Byte) (marks : Nat)
  | leave (pkg region : Nat)
  /-- a sector whose last cache here gives it up: its dirty data go home (R86) -/
  | writeback (pkg sector : Nat) (data : List Byte) (marks : Nat)
  /-- a write at the mirror home: data and their marks, or none, and the DL bit (R88, R416), and its acknowledgement; the boot region
  with its poisoned words and those whose check does not fit (R349) -/
  | mirror (pkg sector : Nat) (data : List Byte) (marks : Nat) (dl : Bool)
  | mirrorMade (pkg sector : Nat)
  | bootCopy (pkg : Nat) (cells : Mem) (poison bad : List Nat)
  /-- an ICINV of a core here that covers another package, by its number; the answer to one of another package (R280, R297) -/
  | icinv (pkg num : Nat) (ctx : BitVec 16) (start len : Nat)
  | icinvDone (pkg num : Nat)
  /-- the states of lines homed at a lost package, asked of a package and answered (R418) -/
  | query (pkg lost : Nat)
  | states (pkg : Nat) (held : List HeldCopy)
  | swap (port lane seq : Nat)
  | swapAnswer (port : Nat) (accept : Bool)
  | replay (port seq : Nat)
  /-- a response of the host endpoint or of the storage or network ports: bytes and whether marked bad -/
  | host (bytes : List Byte) (bad : Bool)
deriving DecidableEq, Repr

/-! ## Fabric ports, traps, pre-emption -/

/-- A packet of channel 2 or 3 that a port has still to send (R331): its tenant (12: none) and its length in bytes. -/
structure Queued where
  port : Nat
  vc : Nat
  tenant : Nat
  bytes : Nat
  msg : Msg
deriving DecidableEq, Repr

/-- A fabric port (R426-R428): paused channels, lanes without lock, weak lanes of the last interval, the proposal
made and its flit number, the next flit number, and the flit last asked for again, as sender and as receiver, with how many
times in a row. -/
structure Port where
  paused : List Nat
  unlocked : List Nat
  weak : List Nat
  proposal : Option (Nat × Nat)
  seq : Nat
  tx : Nat × Nat
  rx : Nat × Nat
deriving DecidableEq, Repr

/-- A trap record waiting to be posted (R373): its tenant, the MODEL's number of the trap, and words 0-4. -/
structure TrapRec where
  tenant : Nat
  trap : Nat
  words : List DWord
deriving DecidableEq, Repr

/-- An open routed trap whose record is posted (R379): tenant, record number, trap number. -/
structure OpenRec where
  tenant : Nat
  n : Nat
  trap : Nat
deriving DecidableEq, Repr

/-- A context saved on a core (R314-R317): its teams and groups whole, its bundles, register rows and scratchpad. -/
structure Saved where
  core : Nat
  ctx : BitVec 16
  area : Nat
  teams : List Team
  groups : List Group
  bundles : List Bundle
  rf : SMap Word
  rfPoison : List Nat
  spad : Mem
  spadPoison : List Nat
  spadBad : List Nat
deriving DecidableEq, Repr

/-- A save or restore in progress on a core (R313): `tmo` is what is left of the timeout taken when OP was written (R401). -/
structure Preempt where
  core : Nat
  ctx : BitVec 16
  restore : Bool
  area : Nat
  tmo : Nat
  /-- teams whose state has been saved so far (R316) -/
  saved : List Nat
deriving DecidableEq, Repr

/-- A kill in progress on a core (R380): operations of the killed lanes still to end. -/
structure Kill where
  core : Nat
  ctx : BitVec 16
  ops : List Nat
deriving DecidableEq, Repr

/-- MODEL: who moves next: a core's issue slots, or an event of the environment or of an engine (log entry 2). -/
inductive Move where
  | core (n : Nat)
  /-- runahead groups of a core (R40) -/
  | ahead (n : Nat)
  | event (i : Instr)
deriving DecidableEq, Repr

/-! ## The package -/

/-- The state of the package. -/
structure State where
  /-- management aperture words, by offset; an unlisted word reads its reset value (R345) -/
  ap : SMap DWord
  /-- physical control memory (R77) -/
  ctl : Mem
  ctlPoison : List Nat
  ctlBad : List Nat
  /-- this package's physical tensor memory (R77) -/
  ten : Mem
  tenPoison : List Nat
  tenBad : List Nat
  ctxtab : BitVec 48
  /-- per context: LRANK, SCHK, SHADOW (R113), and scope registers, keyed by context * 8 + n (R95). DESIGN CHOICE (log
  entry 91): a context is created once, at reset: these are not zeroed when its table entry is set again -/
  lrank : SMap (BitVec 10)
  schk : SMap Bool
  shadow : SMap (BitVec 2)
  scope : SMap (BitVec 512)
  dir : SMap Dir
  regions : SMap (List Nat)
  /-- what this package's caches hold of a sector's data (R86), by sector: of its own home M alone, the data being in `ctl` either
  way; and the sectors of other homes that its agents hold in T (R80) -/
  hold : SMap (Option CState)
  tHeld : List Nat
  /-- the caches that hold a control sector (R86), by sector: a compute core's L1, or 288 for the control cores' L2, and its state -/
  lines : SMap (List (Nat × CState))
  /-- the mirror home (R11, R88), by offset; its poisoned words and those whose check does not fit; DL bits of the lines mirrored
  here (R416) -/
  mirror : Mem
  mirrorPoison : List Nat
  mirrorBad : List Nat
  dl : List Nat
  /-- sectors written at the home whose writes at the mirror are not acknowledged yet (R88), the messages that tell of them, and the
  device's own write that waits so -/
  mirrorOwed : List Nat
  mirrorThen : List (Nat × Msg)
  devMade : Option DevWrite
  /-- lines of tensor memory in the memory-side L2 slices (R8): for each 4 KiB of a slice's memory and the tenant whose lines they are
  (R423; 12: none), the lines present and the dirty, keyed by 16 * the 4 KiB + the tenant -/
  l2 : SMap (DWord × DWord)
  /-- bytes that copies from other packages have written of words so far (R412): package, copy, word, bytes, and whether one of them
  was poisoned, or carried a check that does not fit -/
  arrived : List (Nat × Nat × Nat × Nat × Bool × Bool)
  /-- packages that have still to answer an ICINV of this one: its number, and the package (R280) -/
  icinvOwed : List (Nat × Nat)
  heldWrites : List HeldWrite
  /-- writes waiting at accumulator tiles (R105) -/
  tileWrites : List TileWrite
  devWrites : List DevWrite
  /-- agents' cached sectors (R79-R80) -/
  tlb : List (Agent × Nat)
  /-- homes taken over by a peer (R418) -/
  rebuilt : List Nat
  cores : SMap Core
  teams : List Team
  groups : List Group
  ops : List MemOp
  aops : List AOp
  wqs : SMap WorkQ
  grids : List Grid
  /-- LastWin, keyed by partition (12 for the control cores) * 8 + priority (R310) -/
  lastWin : SMap Nat
  binds : List Bind
  early : List CollPkt
  retries : List (CollPkt × Nat)
  collSent : List CollSent
  /-- pins of other packages on sectors homed here (R438): package and sector -/
  pinsAway : List (Nat × Nat)
  ports : SMap Port
  out : List Msg
  /-- messages whose channel is paused (R330); packets of channels 2 and 3 that the ports have still to send, with each port's deficit
  counters, keyed by port * 16 + tenant, and the tenant it served last (R331) -/
  waitOut : List Msg
  queue : List Queued
  deficit : SMap Nat
  served : SMap Nat
  trapWait : List TrapRec
  openRecs : List OpenRec
  /-- an XRES request in progress (R379): its record cannot be read yet -/
  xresBusy : Option DWord
  saved : List Saved
  preempts : List Preempt
  kills : List Kill
  /-- ownership bitmaps of the shared structures, keyed by kind * 1024 + unit (R421) -/
  owned : SMap Nat
  /-- security versions and image bytes accepted at boot (R348, R351) -/
  images : List (Nat × Nat × List Byte)
  /-- word address at which core 288 entered the last image verified, none in the ROM (R347, R349) -/
  entered : Option Nat
  /-- the module has power (R424) -/
  powered : Bool
  tripped : Bool
  /-- this package was named lost (R429) -/
  lost : Bool
  /-- input: register lanes whose shadow comparison differs in the next issue (R39, R399) -/
  shadowBad : List Nat
  /-- MODEL: the H-die's answer to a collective member takes time (R261) -/
  hdieDelay : Bool
  /-- MODEL: next identity; the issue in progress; the core in turn; who moves next -/
  nextId : Nat
  sel : Option Sel
  turn : Nat
  agenda : List Move
deriving DecidableEq, Repr

/-- The reset value of an aperture word (R326, R331, R343, R346, R426); every other word is zero. The own package is
number 0 until BOOTCFG is written. -/
def apReset (off : Nat) : DWord :=
  if off = 0x8000 then 1
  else if 0x9000 ≤ off ∧ off < 0x9060 then 1
  else if off = 0xA000 then 290 * 65536 + 1250
  else if off = 0xA008 then 160 * 65536 + 700
  else if 0x12000 ≤ off ∧ off < 0x12240 ∧ off % 16 = 8 then 0x200400
  else 0

/-- The machine right after reset. -/
def State.reset : State where
  ap := []
  ctl := []
  ctlPoison := []
  ctlBad := []
  ten := []
  tenPoison := []
  tenBad := []
  ctxtab := 0
  lrank := []
  schk := []
  shadow := []
  scope := []
  dir := []
  regions := []
  hold := []
  tHeld := []
  lines := []
  mirror := []
  mirrorPoison := []
  mirrorBad := []
  dl := []
  mirrorOwed := []
  mirrorThen := []
  devMade := none
  l2 := []
  arrived := []
  icinvOwed := []
  heldWrites := []
  tileWrites := []
  devWrites := []
  tlb := []
  rebuilt := []
  cores := []
  teams := []
  groups := []
  ops := []
  aops := []
  wqs := []
  grids := []
  lastWin := []
  binds := []
  early := []
  retries := []
  collSent := []
  pinsAway := []
  ports := []
  out := []
  waitOut := []
  queue := []
  deficit := []
  served := []
  trapWait := []
  openRecs := []
  xresBusy := none
  saved := []
  preempts := []
  kills := []
  owned := []
  images := []
  entered := none
  powered := true
  tripped := false
  lost := false
  shadowBad := []
  hdieDelay := false
  nextId := 1
  sel := none
  turn := 288
  agenda := []

end Sys2Proof.Machine
end

