-- ==== Sys2Proof/Machine/Ops.lean ====
section
/-! DEFINITION. The named operations every meaning is built from: sparse maps and memory, the aperture, registers and
pending writes, physical control memory and Blend, translation, instruction words, the frontier, taking a trap and
returning from one, and ending lanes. -/

namespace Sys2Proof.Machine

/-! ## Sparse maps and memory -/

/-- Read a key. -/
def mapGet {α : Type} (d : α) : SMap α → Nat → α
  | [], _ => d
  | (j, v) :: rest, k => if j = k then v else mapGet d rest k

/-- Write a key, keeping the keys rising and no entry equal to the default. -/
def mapSet {α : Type} [DecidableEq α] (d : α) : SMap α → Nat → α → SMap α
  | [], k, v => if v = d then [] else [(k, v)]
  | (j, w) :: rest, k, v =>
    if k < j then (if v = d then (j, w) :: rest else (k, v) :: (j, w) :: rest)
    else if k = j then (if v = d then rest else (k, v) :: rest)
    else (j, w) :: mapSet d rest k v

/-- The canonical form, above a bound. -/
def mapOk {α : Type} [DecidableEq α] (d : α) : Nat → SMap α → Bool
  | _, [] => true
  | lo, (j, v) :: rest => decide (lo ≤ j) && decide (v ≠ d) && mapOk d (j + 1) rest

/-- What an unlisted byte of memory reads as (log entry 4). -/
def memDefault : Byte := 0
/-- The canonical form of a memory. -/
abbrev Memory.wf (m : Mem) : Bool := mapOk memDefault 0 m
/-- Read one byte. -/
def memByte (m : Mem) (a : Nat) : Byte := mapGet memDefault m a
/-- Write one byte. -/
def memSetByte (m : Mem) (a : Nat) (b : Byte) : Mem := mapSet memDefault m a b
/-- Write consecutive bytes. -/
def memSetBytes (m : Mem) (a : Nat) : List Byte → Mem
  | [] => m
  | b :: bs => memSetBytes (memSetByte m a b) (a + 1) bs
/-- The number that little-endian bytes hold (R4). -/
def leNat : List Byte → Nat
  | [] => 0
  | b :: bs => b.toNat + 256 * leNat bs
/-- n little-endian bytes of a number (R4). -/
def leBytes : Nat → Nat → List Byte
  | 0, _ => []
  | n + 1, v => BitVec.ofNat 8 v :: leBytes n (v / 256)
/-- Insert into a list of distinct rising numbers. -/
def insNat (x : Nat) : List Nat → List Nat
  | [] => [x]
  | y :: ys => if x < y then x :: y :: ys else if x = y then y :: ys else y :: insNat x ys
/-- Take a number out. -/
def delNat (x : Nat) (xs : List Nat) : List Nat := xs.filter (· != x)
/-- All of a list into another. -/
def insAll (xs ys : List Nat) : List Nat := xs.foldr insNat ys
/-- The numbers below n that satisfy p, in ascending order. -/
def natsWhere (n : Nat) (p : Nat → Bool) : List Nat := (List.range n).filter p
/-- Replace the first element that satisfies p. -/
def replFirst {α : Type} (p : α → Bool) (y : α) : List α → List α
  | [] => []
  | x :: xs => if p x then y :: xs else x :: replFirst p y xs
/-- Insert in the order of a key. -/
def insBy {α : Type} (lt : α → α → Bool) (x : α) : List α → List α
  | [] => [x]
  | y :: ys => if lt y x then y :: insBy lt x ys else x :: y :: ys
/-- Sort by an order, stably. -/
def sortBy {α : Type} (lt : α → α → Bool) (xs : List α) : List α := xs.foldr (insBy lt) []
/-- Lexicographic order of keys (R52). -/
def lexLt : List Nat → List Nat → Bool
  | [], [] => false
  | [], _ :: _ => true
  | _ :: _, [] => false
  | x :: xs, y :: ys => if x < y then true else if y < x then false else lexLt xs ys

/-! ## Masks -/

/-- Bit i of a mask (R100). -/
def bitAt (m : Mask) (i : Nat) : Bool := m.getLsbD i
/-- The mask with bit i alone. -/
def bit1 (i : Nat) : Mask := BitVec.ofNat 64 (2 ^ i)
/-- The mask of the lanes below n. -/
def lowMask (n : Nat) : Mask := BitVec.ofNat 64 (2 ^ n - 1)
/-- The positions of a mask, ascending. -/
def lanesOf (m : Mask) : List Nat := natsWhere 64 (bitAt m)
/-- The mask of positions that satisfy p. -/
def maskWhere (p : Nat → Bool) : Mask := (natsWhere 64 p).foldl (fun a i => a ||| bit1 i) 0
/-- The lowest position, 0 when there is none. -/
def lowest (m : Mask) : Nat := (lanesOf m).headD 0
/-- a without b. -/
def minus (a b : Mask) : Mask := a &&& ~~~b

/-! ## Cores, groups, teams -/

/-- The core n. -/
def coreOf (s : State) (n : Nat) : Core := mapGet (Core.reset n) s.cores n
/-- Replace the core n. -/
def setCore (s : State) (n : Nat) (c : Core) : State := { s with cores := mapSet (Core.reset n) s.cores n c }
/-- Change the core n. -/
def modCore (s : State) (n : Nat) (f : Core → Core) : State := setCore s n (f (coreOf s n))
/-- The group named gid. -/
def groupOf (s : State) (gid : Nat) : Option Group := s.groups.find? (fun g => g.gid == gid)
/-- Replace the group of the same identity. -/
def setGroup (s : State) (g : Group) : State := { s with groups := replFirst (fun h => h.gid == g.gid) g s.groups }
/-- Change a group, where it exists. -/
def modGroup (s : State) (gid : Nat) (f : Group → Group) : State :=
  match groupOf s gid with
  | some g => setGroup s (f g)
  | none => s
/-- The team named tid. -/
def teamOf (s : State) (tid : Nat) : Option Team := s.teams.find? (fun t => t.tid == tid)
/-- Change a team, where it exists. -/
def modTeam (s : State) (tid : Nat) (f : Team → Team) : State :=
  match teamOf s tid with
  | some t => { s with teams := replFirst (fun u => u.tid == tid) (f t) s.teams }
  | none => s
/-- A fresh identity. -/
def fresh (s : State) : Nat × State := (s.nextId, { s with nextId := s.nextId + 1 })
/-- The grid named id. -/
def gridOf (s : State) (id : Nat) : Option Grid := s.grids.find? (fun g => g.id == id)
/-- The operation named id. -/
def aopOf (s : State) (id : Nat) : Option AOp := s.aops.find? (fun o => o.id == id)
/-- Replace an operation. -/
def setAop (s : State) (o : AOp) : State := { s with aops := replFirst (fun p => p.id == o.id) o s.aops }
/-- An operation whose elements are not all performed or abandoned (R225): Pending, or ended with elements on their way. -/
def aopLive (o : AOp) : Bool := o.st == .pending || !o.flight.isEmpty
/-- The access named id. -/
def opOf (s : State) (id : Nat) : Option MemOp := s.ops.find? (fun o => o.id == id)
/-- Replace an access. -/
def setOp (s : State) (o : MemOp) : State := { s with ops := replFirst (fun p => p.id == o.id) o s.ops }
/-- A write waiting at an accumulator tile is still to be made. -/
def tileLive (s : State) (w : TileWrite) : Bool := match w.writer with
  | .lane id lane => s.ops.any (fun o => o.id == id && o.accs.any (fun a => a.lane == lane && !a.done))
  | .element id n => s.aops.any (fun o => o.id == id && o.held.any (fun h => h.1 == n))
  | _ => false
/-- An access, an operation or a write at a tile, named in an order list, is over. -/
def gone (s : State) (i : Nat) : Bool :=
  !s.ops.any (·.id == i) && !s.aops.any (fun o => o.id == i && aopLive o) && !s.tileWrites.any (fun w => w.id == i && tileLive s w)
/-- A store is performed for the agents of its own core (R299); a load, or an atomic, is over. -/
def nearOver (s : State) (i : Nat) : Bool := s.ops.all (fun o => o.id != i || (o.kind == .store && o.accs.all (fun a => a.done || a.reached)))
/-- An edge before later accesses of these lanes still holds (R294, R297). -/
def edgesLeft (s : State) (g : Group) (m : Mask) : Bool :=
  g.deps.any (fun d => d.1 &&& m != 0 && s.ops.any (fun o => o.id == d.2.1)) || g.near.any (fun d => d.1 &&& m != 0 && !nearOver s d.2.1)
/-- Work queue q. -/
def wqOf (s : State) (q : Nat) : WorkQ := mapGet ⟨[], none, []⟩ s.wqs q
/-- Replace work queue q. -/
def setWq (s : State) (q : Nat) (w : WorkQ) : State := { s with wqs := mapSet ⟨[], none, []⟩ s.wqs q w }
/-! ## The management aperture (R345) -/

/-- Read the word that holds offset `off`. -/
def apWord (s : State) (off : Nat) : DWord := mapGet (apReset off) s.ap off
/-- Set a word. -/
def apSet (s : State) (off : Nat) (v : DWord) : State := { s with ap := mapSet (apReset off) s.ap off v }
/-- Bits [lo + n - 1 : lo] of a word, as a number. -/
def bitsOf (v : DWord) (lo n : Nat) : Nat := (v.extractLsb' lo n).toNat
/-- Replace bits [lo + n - 1 : lo]. -/
def putBits (v : DWord) (lo n x : Nat) : DWord :=
  (v &&& ~~~(BitVec.ofNat 64 ((2 ^ n - 1) * 2 ^ lo))) ||| BitVec.ofNat 64 ((x % 2 ^ n) * 2 ^ lo)
/-- Replace bits of an aperture word. -/
def apPut (s : State) (off lo n x : Nat) : State := apSet s off (putBits (apWord s off) lo n x)
/-- This package's number and its peer (R346). -/
def ownPkg (s : State) : Nat := bitsOf (apWord s 0) 0 10
/-- The peer package (R346). -/
def peerPkg (s : State) : Nat := bitsOf (apWord s 0) 16 10
/-- Package p is lost (R415). -/
def isLost (s : State) (p : Nat) : Bool := (apWord s (0xF000 + 8 * (p / 64))).getLsbD (p % 64)
/-- Package p is in the current paddock (R326); the own bit cannot be cleared. -/
def inPaddock (s : State) (p : Nat) : Bool := p == ownPkg s || (apWord s (0x8000 + 8 * (p / 64))).getLsbD (p % 64)
/-- BOOTSTAT.ERR is set below stage 3: the package takes part in no coherence traffic (R425). -/
def bootStopped (s : State) : Bool := bitsOf (apWord s 8) 8 8 != 0 && bitsOf (apWord s 8) 0 4 < 3
/-- Fabric port p. -/
def portOf (s : State) (p : Nat) : Port := mapGet ⟨[], [], [], none, 0, (0, 0), (0, 0)⟩ s.ports p
/-- Replace port p. -/
def setPort (s : State) (p : Nat) (x : Port) : State := { s with ports := mapSet ⟨[], [], [], none, 0, (0, 0), (0, 0)⟩ s.ports p x }
/-- A virtual channel of port p is paused: no new packet starts on it (R330). -/
def portPaused (s : State) (p vc : Nat) : Bool := (portOf s p).paused.contains vc
/-- Port p is out of service (R428). -/
def portDown (s : State) (p : Nat) : Bool := (apWord s (0x12000 + 16 * p)).getLsbD 63
/-- A message of control-space coherence (R328). -/
def coherent : Msg → Bool
  | .home _ _ _ => true
  | .cadd _ _ _ _ _ _ _ => true
  | .pin _ _ _ => true
  | .grant _ _ _ _ _ => true
  | .made _ => true
  | .invalidate _ _ => true
  | .callHome _ _ => true
  | .supply _ _ _ _ _ => true
  | .homeAck _ _ _ _ => true
  | .leave _ _ => true
  | .writeback _ _ _ _ => true
  | .mirror _ _ _ _ _ => true
  | .mirrorMade _ _ => true
  | .query _ _ => true
  | .states _ _ => true
  | _ => false
/-- A message that is no fabric traffic. -/
def offFabric : Msg → Bool
  | .host _ _ => true
  | _ => false
/-- The virtual channel (R328) and the package of a message whose port no lookup picks. -/
def channelOf : Msg → Option (Nat × Nat)
  | .home p _ _ => some (0, p)
  | .cadd p _ _ _ _ _ _ => some (0, p)
  | .pin p _ _ => some (0, p)
  | .invalidate p _ => some (0, p)
  | .callHome p _ => some (0, p)
  | .writeback p _ _ _ => some (0, p)
  | .mirror p _ _ _ _ => some (0, p)
  | .icinv p _ _ _ _ => some (0, p)
  | .bootCopy p _ _ _ => some (0, p)
  | .query p _ => some (0, p)
  | .grant p _ _ _ _ => some (1, p)
  | .made p => some (1, p)
  | .supply p _ _ _ _ => some (1, p)
  | .homeAck p _ _ _ => some (1, p)
  | .mirrorMade p _ => some (1, p)
  | .icinvDone p _ => some (1, p)
  | .leave p _ => some (1, p)
  | .lossNotice p _ => some (0, p)
  | .states p _ => some (1, p)
  | .collAck p _ => some (1, p)
  | .answer p r => some (if r == .ack then 1 else 2, p)
  | .retryAfter p _ _ => some (3, p)
  | .agreeStart p _ _ => some (3, p)
  | .agreeProgress p _ _ _ => some (3, p)
  | .agreeResult p _ _ _ => some (3, p)
  | .cancel p _ _ => some (3, p)
  | .cancelAck p _ _ => some (3, p)
  | _ => none
/-- The port such a message leaves by: of those in service. DESIGN CHOICE (log entry 78): the spec names none. -/
def plainPort (s : State) (pkg : Nat) : Nat :=
  (((List.range 36).map (fun i => (pkg + i) % 36)).find? (fun p => !portDown s p)).getD (pkg % 36)
/-- Its channel is paused there (R330, R430), or the port is out of service, as all of them are then (R428). -/
def channelPaused (s : State) (m : Msg) : Bool := match channelOf m with
  | some (vc, p) => portPaused s (plainPort s p) vc || portDown s (plainPort s p)
  | none => false
/-- A package that has been named lost sends nothing over the fabric (R429), one stopped at boot no coherence traffic (R425). -/
def silenced (s : State) (m : Msg) : Bool := (s.lost && !offFabric m) || (coherent m && bootStopped s)
/-- A message follows one that still waits here: an invalidation or a call follows the data of its sector, which the other package
has to take first (R81). -/
def sendsAfter (s : State) (m : Msg) : Bool := s.waitOut.any (fun w => match w, m with
  | .grant p x _ _ _, .invalidate q y => p == q && x == y
  | .grant p x _ _ _, .callHome q y => p == q && x == y
  | _, _ => false)
/-- Send a message; while its channel is paused it waits. -/
def send (s : State) (m : Msg) : State :=
  if silenced s m then s
  else if channelPaused s m || sendsAfter s m then { s with waitOut := s.waitOut ++ [m] }
  else { s with out := s.out ++ [m] }
/-- Send one message to each of many packages. -/
def sendEach (s : State) (ms : List Msg) : State :=
  if ms.any (silenced s) then s
  else { s with out := s.out ++ ms.filter (fun m => !channelPaused s m), waitOut := s.waitOut ++ ms.filter (channelPaused s) }
/-- A message that is sent once and stands until it is answered. -/
def sendOnce (s : State) (m : Msg) : State := if s.out.contains m || s.waitOut.contains m then s else send s m

/-- The partition of tenant t, when V = 1: first slice and size (R306). -/
def partition (s : State) (t : Nat) : Option (Nat × Nat) :=
  let w := apWord s (0x1000 + 8 * t)
  if w.getLsbD 15 then some (bitsOf w 0 4, bitsOf w 8 4) else none
/-- Core n belongs to the partition of tenant t (R306). -/
def inPartition (s : State) (t n : Nat) : Bool :=
  match partition s t with
  | some (f, z) => n < 288 && f ≤ n / 24 && n / 24 < f + z
  | none => false

/-- Raise vector v of tenant t (R320, R321): PEND, and any SLEEP that waits for interrupts on the target core ends; a bit that is set
already has no further effect. -/
def raiseVector (s : State) (t v : Nat) : State :=
  let o := 0x6000 + 32 * t
  let core := 288 + bitsOf (apWord s o) 0 4
  if (apWord s (o + 8)).getLsbD v then s
  else
  let s := apSet s (o + 8) (apWord s (o + 8) ||| BitVec.ofNat 64 (2 ^ v))
  { s with groups := s.groups.map (fun g =>
      if g.core = core then
        { g with ents := g.ents.map (fun e => match e.st with
            | .stalled (.sleep _ true) => { e with st := .stalled (.sleep (some 0) true) }
            | _ => e) }
      else g) }

/-! ## Registers -/

/-- The octet of a lane position (R31, R52). -/
def octetOf (g : Group) (lane : Nat) : Option Octet :=
  g.octets.find? (fun o => o.pos ≤ lane && lane < o.pos + (if g.width = 1 then 1 else 8))
/-- The register-file cell of register r (of the lane's budget) of a lane (R98). -/
def rfCell (g : Group) (lane r : Nat) : Nat :=
  match octetOf g lane with
  | some o => (o.rbase + r) * 64 + o.col + (lane - o.pos)
  | none => 0
/-- Read register r of a lane. -/
def readRf (s : State) (g : Group) (lane r : Nat) : Word := mapGet 0 (coreOf s g.core).rf (rfCell g lane r)
/-- Write register r of a lane; the write clears the register's poison mark (R411). -/
def writeRf (s : State) (g : Group) (lane r : Nat) (v : Word) : State :=
  if (octetOf g lane).isSome then
    modCore s g.core (fun c => { c with rf := mapSet 0 c.rf (rfCell g lane r) v,
                                        rfPoison := delNat (rfCell g lane r) c.rfPoison })
  else s
/-- Read uniform n; k0 reads 0 (R99). -/
def readK (g : Group) (n : Nat) : Word := if n = 0 then 0 else mapGet 0 g.k n
/-- Write uniform n; a write to k0 is discarded (R99). -/
def writeK (g : Group) (n : Nat) (v : Word) : Group := if n = 0 then g else { g with k := mapSet 0 g.k n v }
/-- Read mask n. -/
def readM (g : Group) (n : Nat) : Mask := mapGet 0 g.m n
/-- Write the bits `lanes` of mask n (R100): positions at or beyond the width stay zero. -/
def writeM (g : Group) (n : Nat) (lanes v : Mask) : Group :=
  { g with m := mapSet 0 g.m n (((v &&& lanes) ||| minus (readM g n) lanes) &&& lowMask g.width) }
/-- The operation a handle names; 0 is Idle. -/
def readH (g : Group) (n : Nat) : Nat := mapGet 0 g.h n
/-- Point a handle at an operation. -/
def writeH (g : Group) (n op : Nat) : Group := { g with h := mapSet 0 g.h n op }
/-- The number a uniform field names (R141). -/
def kNum (r : RegName) : Nat := r.toNat - 96
/-- Register r as the lane itself reads it: until a write is due, the value before it (R149, R152). -/
def readOwn (s : State) (g : Group) (lane r : Nat) : Word :=
  match g.pend.find? (fun w => w.dst == .old r && bitAt w.lanes lane) with
  | some w => loWord (((w.vals.find? (fun p => p.1 == lane)).map (·.2)).getD 0)
  | none => readRf s g lane r
/-- Read a register field in a lane (R96, R141). -/
def readReg (s : State) (g : Group) (lane : Nat) (r : RegName) : Word :=
  if isV r then readOwn s g lane (g.vwb + r.toNat) else readK g (kNum r)
/-- Read the register n places after a field (runs and pairs; runs go past v95, R187). -/
def readRegAt (s : State) (g : Group) (lane : Nat) (r : RegName) (n : Nat) : Word :=
  if isV r then readOwn s g lane (g.vwb + r.toNat + n) else readK g (kNum r + n)
/-- Read a 64-bit pair (R97, R99). -/
def readPair (s : State) (g : Group) (lane : Nat) (r : RegName) : DWord :=
  mkPair (readRegAt s g lane r 0) (readRegAt s g lane r 1)

/-! ## Pending writes (R149-R153) -/

/-- The vector register of a pending write. -/
def vecOf : Dst → Option Nat
  | .v r => some r
  | .old r => some r
  | _ => none
/-- Two pending writes go to one register of one lane, or to one uniform or mask. -/
def sameDst (a b : PWrite) : Bool := match vecOf a.dst with
  | some r => vecOf b.dst == some r && a.lanes &&& b.lanes != 0
  | none => a.dst == b.dst

/-- Let a write take effect. -/
def applyWrite (s : State) (gid : Nat) (w : PWrite) : State :=
  match groupOf s gid with
  | none => s
  | some g =>
    match w.dst with
    | .v r => w.vals.foldl (fun s p => if bitAt w.lanes p.1 then writeRf s g p.1 r (loWord p.2) else s) s
    | .old _ => s
    | .k n => setGroup s (writeK g n (loWord ((w.vals.headD (0, 0)).2)))
    | .m n => setGroup s (writeM g n w.lanes ((w.vals.headD (0, 0)).2))

/-- The lanes of a write that wait for an earlier one to the same register (R150); all of them where the register is a uniform or a mask. -/
def blockedBy (kept : List PWrite) (w : PWrite) : Mask :=
  (kept.filter (sameDst w)).foldl (fun m x => m ||| (if (vecOf w.dst).isSome then w.lanes &&& x.lanes else w.lanes)) 0
/-- Split the pending writes into those that take effect at this opportunity and those that stay: a write waits for an
earlier one to the same register, a vector register lane by lane (R150). -/
def dueWrites (opp : Nat) (all : Bool) : List PWrite → List PWrite → List PWrite × List PWrite
  | _, [] => ([], [])
  | kept, w :: ws =>
    let due := match w.due with
      | some t => all || decide (t ≤ opp)
      | none => false
    let wait := if due then blockedBy kept w else w.lanes
    if due && wait == 0 then
      let (a, b) := dueWrites opp all kept ws
      (w :: a, b)
    else
      let (a, b) := dueWrites opp all (kept ++ [{ w with lanes := wait }]) ws
      ((if wait == w.lanes then a else { w with lanes := minus w.lanes wait } :: a), { w with lanes := wait } :: b)

/-- Let every write that is due take effect (R149, R150); with `all`, every fixed-latency write (R153). -/
def applyDue (s : State) (gid : Nat) (all : Bool) : State :=
  match groupOf s gid with
  | none => s
  | some g =>
    let (now, later) := dueWrites g.opp all [] g.pend
    now.foldl (fun s w => applyWrite s gid w) (setGroup s { g with pend := later })

/-- A pending write of fixed latency goes to a vector register of some of these lanes, and is not in the array yet. -/
def inFlight (m : Mask) (w : PWrite) : Bool := w.tok == 0 && w.lanes &&& m != 0 && (match w.dst with
  | .v _ => true
  | _ => false)
/-- The fixed-latency writes in flight to vector registers of these lanes are performed as other agents see them (R301): the array
holds them, and the lanes themselves read the previous values until they are due. -/
def showWrites (s : State) (gid : Nat) (m : Mask) : State :=
  match groupOf s gid with
  | none => s
  | some g =>
    let r := g.pend.foldl (fun (acc : State × List PWrite) w => match w.dst with
      | .v r => if inFlight m w then
          (applyWrite acc.1 gid w, acc.2 ++ [{ w with
            dst := .old r, vals := (lanesOf w.lanes).map (fun l => (l, (readRf acc.1 g l r).setWidth 64)) }])
        else (acc.1, acc.2 ++ [w])
      | _ => (acc.1, acc.2 ++ [w])) (s, [])
    modGroup r.1 gid (fun h => { h with pend := r.2 })

/-- Add a pending write. -/
def pushWrite (s : State) (gid : Nat) (w : PWrite) : State := modGroup s gid (fun g => { g with pend := g.pend ++ [w] })

/-! ## Physical control memory, Blend and poison -/

/-- Exact sum of two Blend values of a format, rounded or wrapped (R90): 0 f32, 1 i32, 2 i64 (R223). -/
def blendAdd (fmt : Nat) (a b : DWord) : DWord :=
  if fmt = 0 then (add32 (loWord a) (loWord b)).setWidth 64
  else if fmt = 1 then (loWord a + loWord b).setWidth 64
  else a + b
/-- Bytes of a Blend element (R223). -/
def blendSize (fmt : Nat) : Nat := if fmt = 2 then 8 else 4
/-- Ascending (package, core) order (R90). -/
def partLt (a b : Nat × Nat × Nat × DWord) : Bool := a.1 < b.1 || (a.1 == b.1 && a.2.1 < b.2.1)
/-- Directory entry of a sector. -/
def dirOf (s : State) (sector : Nat) : Dir := mapGet ⟨none, [], [], none⟩ s.dir sector
/-- Replace a directory entry. -/
def setDir (s : State) (sector : Nat) (d : Dir) : State := { s with dir := mapSet ⟨none, [], [], none⟩ s.dir sector d }
/-- The element at address `a` of a Blend sector with its partials added in order (R90); `base` are its bytes. -/
def blendElem (b : Blend) (sector a : Nat) (base : DWord) : DWord :=
  let el := (a - sector * 64) / blendSize b.fmt
  (sortBy partLt (b.parts.filter (fun p => p.2.2.1 == el))).foldl (fun v p => blendAdd b.fmt v p.2.2.2) base
/-- The bytes of a Blend sector after its merge (R90). -/
def blendBytes (m : Mem) (b : Blend) (sector : Nat) : List Byte :=
  ((List.range (64 / blendSize b.fmt)).map (fun i =>
    let a := sector * 64 + i * blendSize b.fmt
    leBytes (blendSize b.fmt)
      (blendElem b sector a (BitVec.ofNat 64 (leNat ((List.range (blendSize b.fmt)).map (fun j => memByte m (a + j)))))).toNat)).flatten
/-- One byte of control memory, as a read that merges its sector would see it (R90). -/
def ctlByte (s : State) (a : Nat) : Byte :=
  match (dirOf s (a / 64)).blend with
  | none => memByte s.ctl a
  | some b => (blendBytes s.ctl b (a / 64)).getD (a % 64) 0
/-- n bytes of control memory. -/
def ctlBytes (s : State) (a n : Nat) : List Byte := (List.range n).map (fun i => ctlByte s (a + i))
/-- A 64-bit word of control memory. -/
def ctlWord64 (s : State) (a : Nat) : DWord := BitVec.ofNat 64 (leNat (ctlBytes s a 8))
/-- A write to a sector is made at its mirror home too (R88): one of this package's own lines, whose peer is there and not lost
(R415, R419). -/
def hasMirror (s : State) (x : Nat) : Bool := x / 2 ^ 27 == ownPkg s && peerPkg s != ownPkg s && !isLost s (peerPkg s)
/-- The marks of the two words of a sector (R409, R411): bits 0 and 1 poisoned, bits 2 and 3 a check that does not fit. -/
def marksOf (s : State) (x : Nat) : Nat :=
  (List.range 2).foldl (fun n i => n + (if s.ctlPoison.contains (2 * x + i) then 2 ^ i else 0) +
    (if s.ctlBad.contains (2 * x + i) then 2 ^ (i + 2) else 0)) 0
/-- The words of a sector that marks name from bit `lo` on. -/
def markedWords (x marks lo : Nat) : List Nat := (List.range 2).filterMap (fun i => if marks.testBit (i + lo) then some (2 * x + i) else none)
/-- Data that come with marks give the words of a sector theirs. -/
def setMarks (s : State) (x marks : Nat) : State :=
  let rest := fun (l : List Nat) => l.filter (fun w => w / 2 != x)
  { s with ctlPoison := insAll (markedWords x marks 0) (rest s.ctlPoison), ctlBad := insAll (markedWords x marks 2) (rest s.ctlBad) }
/-- The 64 bytes of a sector as they lie in control memory. -/
def sectorData (s : State) (x : Nat) : List Byte := (List.range 64).map (fun i => memByte s.ctl (64 * x + i))
/-- The sector as it stands at the home goes to the mirror, and its DL bit is cleared (R88, R416): the write is done once the mirror
has acknowledged it. -/
def mirrorSend (s : State) (x : Nat) : State :=
  if hasMirror s x then send { s with mirrorOwed := s.mirrorOwed ++ [x] } (.mirror (peerPkg s) x (sectorData s x) (marksOf s x) false)
  else s
/-- A write of the sector at the home is not done: the mirror has not acknowledged it (R88). -/
def mirrorWaits (s : State) (x : Nat) : Bool := s.mirrorOwed.contains x
/-- What tells of a write of the sector leaves when the write is done. -/
def sendMade (s : State) (x : Nat) (m : Msg) : State :=
  if mirrorWaits s x then { s with mirrorThen := s.mirrorThen ++ [(x, m)] } else send s m
/-- DL is set before an agent here takes a sector in M or B (R416). -/
def mirrorMark (s : State) (x : Nat) : State := if hasMirror s x then send s (.mirror (peerPkg s) x [] 0 true) else s
/-- Merge a Blend sector (R90): the sector then lies in M at the home; a word whose old contents fail verification becomes
poisoned (R409, R410). -/
def mergeBlend (s : State) (sector : Nat) : State :=
  match (dirOf s sector).blend with
  | none => s
  | some b =>
    let hit := s.ctlBad.filter (fun w => w / 2 == sector)
    mirrorSend (setDir { s with ctl := memSetBytes s.ctl (sector * 64) (blendBytes s.ctl b sector),
                                ctlBad := s.ctlBad.filter (fun w => w / 2 != sector),
                                ctlPoison := insAll hit s.ctlPoison } sector
      { dirOf s sector with blend := none }) sector

/-- The CRC of the sillage (R408) over bytes, most significant bit first. -/
def crcBits (crc : Nat) (byte : Nat) : Nat → Nat
  | 0 => crc
  | n + 1 =>
    let top := crc / 32768 % 2
    let inb := byte / 2 ^ n % 2
    let c := (crc * 2) % 65536
    crcBits (if top = inb then c else c ^^^ 0x8BB7) byte n
/-- The sillage of a 32-byte word (R408). -/
def sillage (bytes : List Byte) : Nat := bytes.foldl (fun c b => crcBits c b.toNat 8) 0

/-! ## Window space (R104, R105) -/

/-- A register-file row that some bundle holds (R105). -/
def rowHeld (c : Core) (row : Nat) : Bool := c.bundles.any (fun b => b.rbase ≤ row && row < b.rbase + b.budget)
/-- A byte of a 32-bit word. -/
def byteOf (w : Word) (i : Nat) : Byte := w.extractLsb' (8 * i) 8
/-- A 32-bit word with one byte replaced. -/
def putByte (w : Word) (i : Nat) (b : Byte) : Word :=
  (w &&& ~~~(BitVec.ofNat 32 (255 * 2 ^ (8 * i)))) ||| BitVec.ofNat 32 (b.toNat * 2 ^ (8 * i))
/-- Read a byte of a window region (R104): 0 register file, 1 scratchpad, 2 accumulator store. -/
def winByte (s : State) (core region off : Nat) : Byte :=
  let c := coreOf s core
  if region = 0 then (if rowHeld c (off / 256) then byteOf (mapGet 0 c.rf (off / 4)) (off % 4) else 0)
  else if region = 1 then memByte c.spad off
  else byteOf (mapGet 0 c.acc (off / 4)) (off % 4)
/-- Write a byte of a window region; a row that no bundle holds discards it (R105). -/
def winSetByte (s : State) (core region off : Nat) (b : Byte) : State :=
  modCore s core (fun c =>
    if region = 0 then
      (if rowHeld c (off / 256) then { c with rf := mapSet 0 c.rf (off / 4) (putByte (mapGet 0 c.rf (off / 4)) (off % 4) b) } else c)
    else if region = 1 then { c with spad := memSetByte c.spad off b }
    else { c with acc := mapSet 0 c.acc (off / 4) (putByte (mapGet 0 c.acc (off / 4)) (off % 4) b) })
/-- Bytes of a place. -/
def placeBytes (s : State) (p : Place) (n : Nat) : List Byte :=
  match p with
  | .ctl a => ctlBytes s a n
  | .ten a => (List.range n).map (fun i => memByte s.ten (a + i))
  | .win c r off => (List.range n).map (fun i => winByte s c r (off + i))
  | .ap off => leBytes n (apWord s off).toNat
  | .spad _ => leBytes n 0

/-! ## Poison of written words (R410, R412) -/

/-- What one write of n bytes at `a` does to the failed and poisoned words of an array: a word covered whole is made new; a
word whose old contents fail verification becomes poisoned; any other keeps its mark. -/
def coverRange (bad poison : List Nat) (a n : Nat) : List Nat × List Nat :=
  if n = 0 then (bad, poison)
  else
    let ws := (List.range ((a + n - 1) / 32 + 1 - a / 32)).map (· + a / 32)
    let full := fun w => decide (a ≤ 32 * w) && decide (32 * w + 32 ≤ a + n)
    (bad.filter (fun w => !ws.contains w),
     ws.foldl (fun p w => if full w then delNat w p else if bad.contains w then insNat w p else p) poison)
/-- The words of n bytes at `a`. -/
def wordsAt (a n : Nat) : List Nat := if n = 0 then [] else (List.range ((a + n - 1) / 32 + 1 - a / 32)).map (· + a / 32)
/-- Write bytes of a core's scratchpad as one write (R412). -/
def spadWrite (s : State) (core a : Nat) (bs : List Byte) : State :=
  modCore s core (fun c =>
    let r := coverRange c.spadBad c.spadPoison a bs.length
    { c with spad := memSetBytes c.spad a bs, spadBad := r.1, spadPoison := r.2 })
/-- Words of a core's scratchpad are read: those that fail verification are marked poisoned (R410). -/
def spadVerify (s : State) (core : Nat) (ws : List Nat) : State :=
  modCore s core (fun c =>
    let hit := c.spadBad.filter ws.contains
    { c with spadBad := c.spadBad.filter (fun w => !ws.contains w), spadPoison := insAll hit c.spadPoison })

/-! ## The L1 data cache (R12, R214, R411) -/

/-- The 64 bytes of an L1 line of tensor memory. -/
def lineBytes (s : State) (n : Nat) : List Byte := (List.range 64).map (fun i => memByte s.ten (64 * n + i))
/-- Its poisoned words, and those whose check does not fit, which a cache carries and does not verify (R409). -/
def linePoison (s : State) (n : Nat) : List Nat := [2 * n, 2 * n + 1].filter s.tenPoison.contains
def lineBad (s : State) (n : Nat) : List Nat := [2 * n, 2 * n + 1].filter s.tenBad.contains
/-- A core learns of something from beyond its L1: lines that differ from memory are dropped, so that no later load of the core
returns an older value (R292, R295). -/
def dropStale (s : State) (core : Nat) : State :=
  if (coreOf s core).l1.isEmpty then s
  else modCore s core (fun c => { c with l1 := c.l1.filter (fun l => l.bytes == lineBytes s l.line && l.poison == linePoison s l.line &&
    l.bad == lineBad s l.line) })

/-! ## The control-space caches (R86) -/

/-- The cache of a core: its own L1, or the L2 of the control cores (288). -/
def cacheOf (core : Nat) : Nat := if core < 288 then core else 288
/-- The caches that hold a control sector. -/
def linesOf (s : State) (x : Nat) : List (Nat × CState) := mapGet [] s.lines x
/-- Change them. -/
def setLines (s : State) (x : Nat) (ls : List (Nat × CState)) : State := { s with lines := mapSet [] s.lines x ls }
/-- A cache's 256-byte tags, each of four sectors (R86), lowest first. -/
def tagsOf (s : State) (c : Nat) : List Nat := insAll ((s.lines.filter (fun p => p.2.any (fun k => k.1 == c))).map (fun p => p.1 / 4)) []
/-- How many 256-byte lines a cache can hold beside its tensor lines (R12, R86). -/
def tagRoom (s : State) (c : Nat) : Nat := if c < 288 then 1024 - ((coreOf s c).l1.length + 3) / 4 else 16384
/-- Its owner supplies a sector's data: M becomes O, and E becomes S (R86). -/
def shareLines (ls : List (Nat × CState)) : List (Nat × CState) := ls.map (fun k => (k.1, match k.2 with
  | .m => .o
  | .e => .s
  | st => st))
/-- Bring a tensor line into a core's L1, which holds 4,096 lines beside its control lines (R12). DESIGN CHOICE (log entry 67): a full
cache gives up the tensor line filled first. -/
def fillLine (s : State) (core n : Nat) : State :=
  let room := 4096 - 4 * (tagsOf s core).length
  modCore (dropStale s core) core (fun c =>
    if c.l1.any (fun x => x.line == n) then c else { c with l1 := (⟨n, lineBytes s n, linePoison s n, lineBad s n⟩ :: c.l1).take room })

/-! ## The memory-side L2 (R8, R78) -/

/-- The L2 slice of a physical tensor address (R77, R78). -/
def sliceOf (a : Nat) : Nat := if a < 0xC000000000 then a / 0x1000000000 else (a - 0x10000000000) / 4096 % 12
/-- The C-die a slice lies on (R8). -/
def dieOf (slice : Nat) : Nat := slice / 3
/-- Bytes of one 4 KiB pass through their slice, which then holds their lines, dirty after a write; a line it did not hold is tagged
with tenant t (R423). A slice holds 16 MiB. DESIGN CHOICE (log entry 67): a full slice gives up the lowest 4 KiB it holds anything of. -/
def l2Page (s : State) (a n : Nat) (dirty : Bool) (t : Nat) : State :=
  let p := a / 4096
  let old := s.l2.filter (fun k => k.1 / 16 == p)
  let m := (List.range ((a % 4096 + n + 63) / 64 - a % 4096 / 64)).foldl (fun m i => m ||| bit1 (a % 4096 / 64 + i)) 0
  let fresh := minus m (old.foldl (fun m k => m ||| k.2.1) 0)
  let mark := fun (l : SMap (DWord × DWord)) (k : Nat × DWord × DWord) => mapSet (0, 0) l k.1 (k.2.1, k.2.2 ||| (k.2.1 &&& m))
  let l2 := if dirty then old.foldl mark s.l2 else s.l2
  let mine := mapGet (0, 0) l2 (16 * p + t)
  let l2 := if fresh == 0 then l2 else mapSet (0, 0) l2 (16 * p + t) (mine.1 ||| fresh, if dirty then mine.2 ||| fresh else mine.2)
  let pages := if old.isEmpty then insAll ((l2.filter (fun k => sliceOf (4096 * (k.1 / 16)) == sliceOf a)).map (fun k => k.1 / 16)) [] else []
  { s with l2 := if 4096 < pages.length then l2.filter (fun k => some (k.1 / 16) != pages.find? (fun q => q != p)) else l2 }

/-- n bytes at a tensor address pass through the L2, for tenant t (12: none). -/
def l2Touch (s : State) (a n : Nat) (dirty : Bool) (t : Nat) : State :=
  (List.range ((a % 4096 + n + 4095) / 4096)).foldl (fun s i =>
    let lo := max a ((a / 4096 + i) * 4096)
    l2Page s lo (min (a + n) ((a / 4096 + i + 1) * 4096) - lo) dirty t) s

/-! ## Holders of a control sector (R80-R89) -/

/-- The mirror home of package p (R88): the own peer, or what the domain fixed at bring-up. -/
def mirrorOf (s : State) (p : Nat) : Nat := if p = ownPkg s then peerPkg s else if p = peerPkg s then ownPkg s
  else Config.peerOf p
/-- A request to the home of a control address (R417-R419): home-lost, held until a rebuild (with the sector), or served. -/
inductive HomeSt where
  | served
  | rebuilding
  | gone
deriving DecidableEq, Repr
/-- The state of a package's home. -/
def pkgHome (s : State) (p : Nat) : HomeSt :=
  if isLost s p then
    if isLost s (mirrorOf s p) then .gone else if s.rebuilt.contains p then .served else .rebuilding
  else .served
/-- The package that is the home of a sector: its primary home, or the one that took it over (R88, R418). -/
def homeOf (s : State) (x : Nat) : Nat := if s.rebuilt.contains (x / 2 ^ 27) then mirrorOf s (x / 2 ^ 27) else x / 2 ^ 27
/-- This package is the sector's home. -/
def isOurs (s : State) (x : Nat) : Bool := homeOf s x == ownPkg s
/-- What this package's caches hold of a sector's data. -/
def holdOf (s : State) (x : Nat) : Option CState := mapGet none s.hold x
/-- Change it. -/
def setHold (s : State) (x : Nat) (h : Option CState) : State := { s with hold := mapSet none s.hold x h }
/-- They hold it alone, and may write (R86). -/
def holdsAlone (s : State) (x : Nat) : Bool := holdOf s x == some .m || holdOf s x == some .e
/-- A package that is lost owes nothing (R417). -/
def agentLost (s : State) : Agent → Bool
  | .pkg p => isLost s p
  | _ => false
/-- The T holders of a sector. -/
def tHolders (s : State) (x : Nat) : List Agent := (dirOf s x).t.filter (fun a => !agentLost s a)
/-- The other packages that may hold a sector of its region (R87): the set its home keeps. -/
def regionPkgs (s : State) (x : Nat) : List Agent :=
  if isOurs s x then ((mapGet [] s.regions (x / 32)).map Agent.pkg).filter (fun a => !agentLost s a) else []
/-- An invalidation goes to each package of a list; one already on its way is not sent again. -/
def callBack (s : State) (x : Nat) (as : List Agent) : State :=
  as.foldl (fun s a => match a with
    | .pkg p => sendOnce s (.invalidate p x)
    | _ => s) s
/-- A package elsewhere that holds newer data of a sector homed here, or may write it unseen (R86): M or E. -/
def ownerOf (s : State) (x : Nat) : Option Agent := match (dirOf s x).owner with
  | some (a, c) => if agentLost s a || c == .o then none else some a
  | none => none
/-- A read of the data waits: an M or E holder elsewhere has to supply them, or the home does (R86). -/
def ownedAway (s : State) (x : Nat) : Bool := if isOurs s x then (ownerOf s x).isSome else (holdOf s x).isNone
/-- A walk read waits: for the same, or for T at a home elsewhere (R80). -/
def walkAway (s : State) (x : Nat) : Bool :=
  if isOurs s x then (ownerOf s x).isSome else !s.tHeld.contains x && !holdsAlone s x
/-- A write to a sector homed elsewhere waits until its data are held alone (R86). -/
def writeAway (s : State) (x : Nat) : Bool := !isOurs s x && !holdsAlone s x
/-- A request goes to the home of a sector (0 a walk read, 1 a read, 2 to write), or to the holder of data that are homed here. -/
def ask (s : State) (x kind : Nat) : State :=
  if pkgHome s (x / 2 ^ 27) != .served then s
  else if isOurs s x then (match ownerOf s x with
    | some (.pkg p) => sendOnce s (.callHome p x)
    | _ => s)
  else sendOnce s (.home (homeOf s x) x kind)
/-- The data of a sector are asked for. -/
def askData (s : State) (x : Nat) : State := if ownedAway s x then ask s x 1 else s
/-- What a walk of it waits for is asked for. -/
def askWalk (s : State) (x : Nat) : State := if walkAway s x then ask s x 0 else s
/-- What a read of it, after its walk, waits for is asked for. -/
def askBoth (s : State) (x : Nat) : State := if walkAway s x then ask s x 0 else askData s x

/-- A sector of some home that is its package's aperture: there is no memory, and no cache ever holds it (R345). -/
def apSector (x : Nat) : Bool := 0x1FFFE0000 ≤ 64 * x % 2 ^ 33
/-- A core's cache has to make room: it gives up the lowest of its other 256-byte lines (R86, log entry 67); the last copy of a sector
leaves this package, and dirty data go to their home. -/
def giveUp (s : State) (c x : Nat) : State :=
  match (linesOf s x).find? (fun k => k.1 == c) with
  | none => s
  | some k =>
    let ls := (linesOf s x).filter (fun k => k.1 != c)
    let s := setLines s x ls
    let dirty := k.2 == .m || k.2 == .o
    if isOurs s x then (if dirty && holdOf s x == some .m then setHold (mirrorSend s x) x none else s)
    else
      let s := if dirty && (holdOf s x == some .m || holdOf s x == some .o) then
          setHold (send s (.writeback (homeOf s x) x (sectorData s x) (marksOf s x))) x (some .s)
        else s
      if !ls.isEmpty then s
      else
        let s := setHold s x none
        if s.tHeld.any (fun y => y / 32 == x / 32) || s.hold.any (fun h => h.1 / 32 == x / 32) ||
            (s.out ++ s.waitOut).any (fun m => match m with
              | .home _ y _ => y / 32 == x / 32
              | _ => false) then s
        else send s (.leave (homeOf s x) (x / 32))
/-- A cache that holds more 256-byte lines than it has room for gives one up. -/
def makeRoom (s : State) (c x : Nat) : State :=
  let ts := tagsOf s c
  if ts.length ≤ tagRoom s c then s
  else match ts.find? (fun t => t != x / 4) with
    | some t => (List.range 4).foldl (fun s i => giveUp s c (4 * t + i)) s
    | none => s
/-- A core's load brings a control sector into its cache: in E where nothing else holds it, else in S, and its owner here supplies
the data (R86). -/
def fillCtl (s : State) (core x : Nat) : State :=
  let c := cacheOf core
  let ls := linesOf s x
  if ls.any (fun k => k.1 == c) || (dirOf s x).blend.isSome || apSector x then s
  else
    let d := dirOf s x
    let alone := ls.isEmpty && (tHolders s x).isEmpty && (if isOurs s x then d.owner.isNone && d.shared.isEmpty else holdsAlone s x)
    makeRoom (setLines s x (shareLines ls ++ [(c, if alone then .e else .s)])) c x

/-! ## Translation (04 R66-R85) -/

/-- What an access is, for the checks of R70 and R76. -/
inductive Use where
  | load
  /-- LD.NR, which a non-resident leaf does not stop (R91) -/
  | loadNr
  | store
  | fetch
  /-- XLATE (R282) and the page agent's walks (R92) -/
  | probe
deriving DecidableEq, Repr

/-- A finished translation: the place, the leaf and its level, and the sectors read (R80). -/
structure Xlat where
  at_ : Place
  leaf : DWord
  level : Nat
  nonRes : Bool
  sectors : List Nat
deriving DecidableEq, Repr

/-- The outcome of a translation: done, a cause, or a walk read held at its home (R84, R86, R417). -/
inductive XRes where
  | ok (x : Xlat)
  | fault (c : Cause)
  | held (sector : Nat)
deriving DecidableEq, Repr

/-- R67: reserved-space and non-canonical. -/
def spaceCheck (va : DWord) : Option Cause :=
  let top := bitsOf va 62 2
  if top = 3 then some 0x040
  else if top = 1 then (if bitsOf va 48 4 ≠ 0 then some 0x041 else none)
  else if bitsOf va 48 14 ≠ 0 then some 0x041 else none

/-- LRANK of a context (R69, R113). -/
def lrankOf (s : State) (ctx : BitVec 16) : Nat := (mapGet 0 s.lrank ctx.toNat).toNat

/-- R70: a remote rank. -/
def isRemote (s : State) (ctx : BitVec 16) (va : DWord) : Bool :=
  bitsOf va 62 2 == 1 && bitsOf va 52 10 != lrankOf s ctx

/-- A 64-bit word that a walk reads. DESIGN CHOICE (log entry 89): of an aperture it reads zero. -/
def walkWord (s : State) (a : Nat) : DWord := if apSector (a / 64) then 0 else ctlWord64 s a
/-- Address of the context-table entry (R73). DESIGN CHOICE (log entry 86): bits [3:0] of CTXTAB, which software keeps zero, are added as
they stand. -/
def ctxEntryAddr (s : State) (ctx : BitVec 16) : Nat := s.ctxtab.toNat + 16 * ctx.toNat
/-- A context-table entry as read (R73): TENSROOT and CTLROOT byte addresses, TENANT, TV; `none`: invalid. -/
def ctxEntry (s : State) (ctx : BitVec 16) : Option (Nat × Nat × Nat × Bool) :=
  let lo := walkWord s (ctxEntryAddr s ctx)
  let hi := walkWord s (ctxEntryAddr s ctx + 8)
  if !lo.getLsbD 0 || bitsOf lo 2 10 ≠ 0 || bitsOf lo 48 16 ≠ 0 || bitsOf hi 4 8 ≠ 0 || bitsOf hi 48 16 ≠ 0 ||
     11 < bitsOf hi 0 4 then none
  else some (bitsOf hi 12 36 * 4096, bitsOf lo 12 36 * 4096, bitsOf hi 0 4, lo.getLsbD 1)
/-- TENANT of a context, when its entry is valid. -/
def tenantOf (s : State) (ctx : BitVec 16) : Option Nat := (ctxEntry s ctx).map (fun e => e.2.2.1)

/-- The tenant that L2 lines of a context are tagged with (R423). -/
def tagOf (s : State) (ctx : BitVec 16) : Nat := (tenantOf s ctx).getD 12

/-- A request to the home of a control address (R417-R419): home-lost, held until a rebuild, or served. -/
def homeState (s : State) (pa : Nat) : Option XRes := match pkgHome s (pa / 2 ^ 33) with
  | .gone => some (.fault 0x183)
  | .rebuilding => some (.held (pa / 64))
  | .served => none

/-- A walk read by an agent (R80, R84, R86, R413): held while a write to the sector waits for its completion point, unless
the agent still holds what it derived from the sector, and until the sector is held here; poisoned; or the
64-bit word. DESIGN CHOICE (log entry 69): an agent that holds one entry of a sector is taken to hold all eight. -/
def walkRead (s : State) (ag : Agent) (a : Nat) : Except XRes DWord :=
  if apSector (a / 64) then .ok 0
  else match homeState s a with
  | some r => .error r
  | none =>
    if (s.heldWrites.any (fun h => h.sector == a / 64) && !s.tlb.contains (ag, a / 64)) || walkAway s (a / 64) then
      .error (.held (a / 64))
    else if s.ctlBad.contains (a / 32) then .error (.fault 0x180)
    else if s.ctlPoison.contains (a / 32) then .error (.fault 0x181)
    else .ok (ctlWord64 s a)

/-- R77: the physical address lies in a range of its space. -/
def physOk (tensor : Bool) (a : Nat) : Bool :=
  if tensor then a < 0xC000000000 || (0x10000000000 ≤ a && a < 0x1FC00000000) else a < 768 * 2 ^ 33

/-- Place of a physical control address: the aperture, or memory (R345). -/
def ctlPlace (s : State) (a : Nat) : Place :=
  let b := ownPkg s * 2 ^ 33 + 0x1FFFE0000
  if b ≤ a ∧ a < b + 0x20000 then .ap (a - b) else .ctl a

/-- The rows of R76 after V = 0 on a leaf that covers 2^sh bytes; `va` is the address within the space. -/
def leafCheck (s : State) (tensor kernel : Bool) (use : Use) (pte : DWord) (level sh va : Nat) (sectors : List Nat) : XRes :=
  let frame := bitsOf pte 12 36 * 4096
  let pa := frame + va % 2 ^ sh
  if frame % 2 ^ sh ≠ 0 then .fault 0x043
  else if !physOk tensor pa then .fault 0x043
  else if use = .store && !pte.getLsbD 2 then .fault 0x044
  else if use = .fetch && !pte.getLsbD 3 then .fault 0x045
  else if !kernel && !pte.getLsbD 4 then .fault 0x046
  else if pte.getLsbD 5 && use != .loadNr && use != .probe then .fault 0x047
  else .ok { at_ := if tensor then .ten pa else ctlPlace s pa, leaf := pte, level := level, nonRes := pte.getLsbD 5,
             sectors := sectors }

/-- Reserved fields of a page-table entry (R75). -/
def pteRsv (pte : DWord) : Bool := bitsOf pte 48 16 ≠ 0 || bitsOf pte 9 3 ≠ 0 || pte.getLsbD 7

/-- The walk from a level down (R74, R76): `root` is the table's address. -/
def walkFrom (s : State) (ag : Agent) (tensor kernel : Bool) (use : Use) (va : Nat) : Nat → Nat → List Nat → XRes
  | 0, root, sectors =>
    let headA := root + 8 * (va / 65536 % 32 * 16)
    let entA := root + 8 * (va / 4096 % 512)
    match walkRead s ag headA with
    | .error r => r
    | .ok head =>
      let sectors := insNat (headA / 64) sectors
      if head.getLsbD 0 && head.getLsbD 1 && head.getLsbD 6 then
        if pteRsv head then .fault 0x043 else leafCheck s tensor kernel use head 0 16 va sectors
      else
        match walkRead s ag entA with
        | .error r => r
        | .ok pte =>
          let sectors := insNat (entA / 64) sectors
          if !pte.getLsbD 0 then .fault 0x042
          else if pteRsv pte || !pte.getLsbD 1 || (pte.getLsbD 6 && va / 4096 % 16 ≠ 0) then .fault 0x043
          else leafCheck s tensor kernel use pte 0 12 va sectors
  | l + 1, root, sectors =>
    let a := root + 8 * (va / 2 ^ (21 + 9 * l) % 512)
    match walkRead s ag a with
    | .error r => r
    | .ok pte =>
      let sectors := insNat (a / 64) sectors
      if !pte.getLsbD 0 then .fault 0x042
      else if pteRsv pte || (pte.getLsbD 1 && (l == 2 || pte.getLsbD 6)) ||
          (!pte.getLsbD 1 && (bitsOf pte 2 5 ≠ 0 || !physOk false (bitsOf pte 12 36 * 4096))) then .fault 0x043
      else if pte.getLsbD 1 then leafCheck s tensor kernel use pte (l + 1) (21 + 9 * l) va sectors
      else walkFrom s ag tensor kernel use va l (bitsOf pte 12 36 * 4096) sectors

/-- Context-table lookup and walk (R73, R76). DESIGN CHOICE (log entry 90): a root, or CTXTAB, that names a physical address outside R77
(home 768 or more) is not checked; the walk waits for a package that does not exist. -/
def walk (s : State) (ag : Agent) (ctx : BitVec 16) (kernel : Bool) (use : Use) (va : DWord) : XRes :=
  let a := ctxEntryAddr s ctx
  match walkRead s ag a with
  | .error r => r
  | .ok _ =>
    match ctxEntry s ctx with
    | none => .fault 0x04B
    | some (troot, croot, _, tv) =>
      let tensor := bitsOf va 62 2 == 1
      if tensor && !tv then .fault 0x042
      else walkFrom s ag tensor kernel use (va.toNat % 2 ^ 48) 3 (if tensor then troot else croot) [a / 64]

/-- A control word whose check has failed is marked poisoned where it was read (R410). -/
def markCtl (s : State) (a : Nat) : State :=
  if s.ctlBad.contains (a / 32) then { s with ctlBad := delNat (a / 32) s.ctlBad, ctlPoison := insNat (a / 32) s.ctlPoison } else s
/-- Words read of tensor memory that fail verification are marked poisoned (R410). -/
def markTen (s : State) (ws : List Nat) : State :=
  { s with tenBad := s.tenBad.filter (fun w => !ws.contains w), tenPoison := insAll (s.tenBad.filter ws.contains) s.tenPoison }
/-- The page-table words a walk reads from a level down, as far as it comes. -/
def walkPath (s : State) (ag : Agent) (va : Nat) : Nat → Nat → List Nat
  | 0, root =>
    let headA := root + 8 * (va / 65536 % 32 * 16)
    match walkRead s ag headA with
    | .ok head => if head.getLsbD 0 && head.getLsbD 1 && head.getLsbD 6 then [headA] else [headA, root + 8 * (va / 4096 % 512)]
    | .error _ => [headA]
  | l + 1, root =>
    let a := root + 8 * (va / 2 ^ (21 + 9 * l) % 512)
    match walkRead s ag a with
    | .ok pte => if pte.getLsbD 0 && !pte.getLsbD 1 then a :: walkPath s ag va l (bitsOf pte 12 36 * 4096) else [a]
    | .error _ => [a]
/-- The words a walk reads, context-table entry first. -/
def walkWords (s : State) (ag : Agent) (ctx : BitVec 16) (va : DWord) : List Nat :=
  let a := ctxEntryAddr s ctx
  if bitsOf va 62 2 = 3 then []
  else match walkRead s ag a, ctxEntry s ctx with
    | .ok _, some (troot, croot, _, tv) =>
      if bitsOf va 62 2 = 2 || (bitsOf va 62 2 = 1 && !tv) then [a]
      else a :: walkPath s ag (va.toNat % 2 ^ 48) 3 (if bitsOf va 62 2 = 1 then troot else croot)
    | _, _ => [a]
/-- What a walk that ends in a fault leaves: the Blend sectors it read are merged (R90), and a word whose check failed is marked
(R410). Nothing is cached (R405). -/
def walkLeaves (s : State) (ag : Agent) (ctx : BitVec 16) (va : DWord) : State :=
  (walkWords s ag ctx va).foldl (fun s a => if walkAway s (a / 64) then s else mergeBlend (markCtl s a) (a / 64)) s

/-- Size of a window region (R71). -/
def regionSize (r : Nat) : Nat := if r = 2 then 32768 else 524288

/-- What R72 says of a window address itself. -/
def windowOut (va : DWord) (size : Nat) : Bool :=
  288 ≤ bitsOf va 39 9 || 3 ≤ bitsOf va 36 3 || regionSize (bitsOf va 36 3) < bitsOf va 0 36 + size
/-- R72 on a window address; the partition is that of the context's tenant. -/
def windowCheck (s : State) (ctx : BitVec 16) (va : DWord) (size : Nat) : Option Cause :=
  let inPart := match tenantOf s ctx with
    | some t => inPartition s t (bitsOf va 39 9)
    | none => false
  if windowOut va size || !inPart then some 0x04A else none
/-- An access that passes every check made before translation (R67, R70, R72, R212, R406): it walks. -/
def walksAt (s : State) (ctx : BitVec 16) (va : DWord) (size : Nat) : Bool :=
  (spaceCheck va).isNone && !isRemote s ctx va && va.toNat % size == 0 &&
  (bitsOf va 62 2 != 2 || (!windowOut va size && ((ctxEntry s ctx).isNone || (windowCheck s ctx va size).isNone)))

/-- Everything that follows the checks of R67 and the space checks of an instruction (R212): R70, R72, alignment,
translation, and the aperture's rules (R345). DESIGN CHOICE (log entry 85): of a window address, context-invalid (R73) comes before
the part of window-range (R72) that needs the context's tenant. -/
def reach (s : State) (ag : Agent) (ctx : BitVec 16) (kernel : Bool) (use : Use) (va : DWord) (size : Nat) : XRes :=
  if isRemote s ctx va then .fault 0x048
  else if bitsOf va 62 2 = 2 then
    if windowOut va size then .fault 0x04A
    else match walkRead s ag (ctxEntryAddr s ctx) with
    | .error r => r
    | .ok _ =>
      if (ctxEntry s ctx).isNone then .fault 0x04B
      else match windowCheck s ctx va size with
        | some c => .fault c
        | none =>
          if va.toNat % size ≠ 0 then .fault 0x04C
          else .ok { at_ := .win (bitsOf va 39 9) (bitsOf va 36 3) (bitsOf va 0 36), leaf := 0, level := 0,
                     nonRes := false, sectors := [ctxEntryAddr s ctx / 64] }
  else if va.toNat % size ≠ 0 then .fault 0x04C
  else match walk s ag ctx kernel use va with
    | .ok x =>
      match x.at_ with
      | .ap _ => if use = .probe then .ok x else if !kernel then .fault 0x046 else if size ≠ 8 then .fault 0x04C else .ok x
      | .ctl pa => if use = .probe then .ok x else match homeState s pa with
        | some r => r
        | none => .ok x
      | _ => .ok x
    | r => r

/-- The whole of R212 for an ordinary access. -/
def translate (s : State) (ag : Agent) (ctx : BitVec 16) (kernel : Bool) (use : Use) (va : DWord) (size : Nat) : XRes :=
  match spaceCheck va with
  | some c => .fault c
  | none => reach s ag ctx kernel use va size

/-- What an access that ends in a fault leaves: what its walk does, where it came to one (R406). -/
def faultLeaves (s : State) (ag : Agent) (ctx : BitVec 16) (va : DWord) (size : Nat) : State :=
  if walksAt s ctx va size then walkLeaves s ag ctx va else s

/-! ## Ownership of the shared structures (R421) -/

/-- An agent of tenant t allocates an entry in a structure of a kind: unit is its core, slice or port, or 288 on the H-die. -/
def ownTenant (s : State) (kind unit t : Nat) : State :=
  { s with owned := mapSet 0 s.owned (kind * 1024 + unit) (mapGet 0 s.owned (kind * 1024 + unit) ||| 2 ^ t) }
/-- The same, for an agent that runs under a context. -/
def ownMark (s : State) (kind unit : Nat) (ctx : BitVec 16) : State := match tenantOf s ctx with
  | some t => ownTenant s kind unit t
  | none => s
/-- The structures that an access of a core to a place passes through. -/
def ownPlace (s : State) (core : Nat) (ctx : BitVec 16) : Place → State
  | .ten a => ownMark s 0 (sliceOf a) ctx
  | .ctl _ => if 288 ≤ core then ownMark (ownMark s 4 288 ctx) 3 288 ctx else ownMark s 3 288 ctx
  | _ => s
/-- A core's fill of translations allocates in its slice's L2 translation cache, for the tenant of its partition. -/
def ownFill (s : State) : Agent → State
  | .core n => match (List.range 12).find? (fun t => inPartition s t n) with
    | some t => ownTenant s 1 (n / 24) t
    | none => s
  | _ => s

/-- How much an agent caches (R8, R12): entries of an L1 and of an L2 translation cache. Each sector it derived something from is
counted as one (log entry 67). -/
def tlbCap : Agent → Nat
  | .slice _ => 8192
  | _ => 256
/-- An agent caches what it derived from a sector; a full cache gives up what it cached first, and its T registration stays (R80). -/
def keepT (s : State) (a : Agent) (x : Nat) : State :=
  if s.tlb.contains (a, x) then s
  else
    let mine := s.tlb.filter (fun p => p.1 == a)
    { s with tlb := (if tlbCap a ≤ mine.length then s.tlb.filter (fun p => some p != mine.head?) else s.tlb) ++ [(a, x)] }
/-- An agent installs what it read, with no Blend sector merged (R282). -/
def installT (s : State) (ag : Agent) (sectors : List Nat) : State :=
  let ags := match ag with
    | .core n => if n < 288 then [Agent.core n, Agent.slice (n / 24)] else [Agent.core n]
    | a => [a]
  let sectors := sectors.filter (fun x => !apSector x)
  let s := if sectors.isEmpty then s else ownFill s ag
  sectors.foldl (fun s x => ags.foldl (fun s a =>
    let s := keepT s a x
    if (dirOf s x).t.contains a then s else setDir s x { dirOf s x with t := (dirOf s x).t ++ [a] }) s) s
/-- An agent installs what it read (R80): the walk merged Blend sectors (R90), it holds the sectors in T, and so does its slice's L2
translation cache. -/
def fillT (s : State) (ag : Agent) (sectors : List Nat) : State := installT (sectors.foldl mergeBlend s) ag sectors

/-! ## Instruction words (R83, R280, R281) -/

/-- Translate a PC for fetching (R67, R143). DESIGN CHOICE (log entry 84): a tensor PC that names a remote rank raises execute-protect
of R67, and not the remote-load of R70. -/
def fetchAt (s : State) (core : Nat) (ctx : BitVec 16) (kernel : Bool) (pc : DWord) : XRes :=
  match spaceCheck pc with
  | some c => .fault c
  | none => if bitsOf pc 62 2 ≠ 0 then .fault 0x045 else reach s (.core core) ctx kernel .fetch pc 4

/-- A word held by the group's loop buffer or fetch-ahead, or by the core's instruction cache. -/
def heldWord (s : State) (g : Group) (pc : DWord) : Option IWord :=
  match g.loop.find? (fun w => w.ctx == g.ctxid && w.va == pc) with
  | some w => some w
  | none => (coreOf s g.core).icache.find? (fun w => w.ctx == g.ctxid && w.va == pc)

/-- The outcome of fetching a word: the word, a cause, or a held walk. -/
inductive Fetched where
  | word (w : Word) (sectors : List Nat) (cached : Bool)
  | fault (c : Cause)
  | held (sector : Nat)
deriving DecidableEq, Repr

/-- Fetch the word at pc, without changing anything: execute permission is that of the page when the word was
fetched (R83). -/
def fetchWord (s : State) (g : Group) (pc : DWord) : Fetched :=
  match heldWord s g pc with
  | some w => .word w.w w.sectors true
  | none =>
    match fetchAt s g.core g.ctxid g.kernel pc with
    | .fault c => .fault c
    | .held x => .held x
    | .ok x =>
      match x.at_ with
      | .ctl pa =>
        if ownedAway s (pa / 64) then .held (pa / 64)
        else if s.ctlBad.contains (pa / 32) then .fault 0x180
        else if s.ctlPoison.contains (pa / 32) then .fault 0x181
        else .word (BitVec.ofNat 32 (leNat (ctlBytes s pa 4))) x.sectors false
      | _ => .fault 0x045

/-- The word at pc, where it is known (R24). -/
def peekWord (s : State) (g : Group) (pc : DWord) : Option Word :=
  match fetchWord s g pc with
  | .word w _ _ => some w
  | _ => none

/-- What a fetch leaves at the word's home: a Blend sector merged (R90), a failed check marked (R410). -/
def fetchLeaves (s : State) (g : Group) (pc : DWord) : State :=
  match fetchAt s g.core g.ctxid g.kernel pc with
  | .ok x => (match x.at_ with
    | .ctl pa => mergeBlend (markCtl s pa) (pa / 64)
    | _ => s)
  | .fault _ => if (spaceCheck pc).isSome || bitsOf pc 62 2 ≠ 0 then s else walkLeaves s (.core g.core) g.ctxid pc
  | .held _ => s
/-- The issue slot whose loop buffer holds a group's words (R12, R32): slot 0 for producers. DESIGN CHOICE (log entry 67): a consumer
bundle's is the same of slots 1 to 3 throughout, also in a cycle in which another slot is lent to it. -/
def loopSlot (s : State) (g : Group) : Nat :=
  if !g.consumer then 0 else 1 + (((coreOf s g.core).bundles.find? (fun b => b.members.any (fun m => m.2 == g.gslot))).map (fun b => b.bid)).getD 0 % 3
/-- A slot's loop buffer holds 256 words: those of its other groups make room for a group's own. -/
def loopRoom (s : State) (g : Group) (n : Nat) : List Group → List Group
  | [] => []
  | h :: hs =>
    if h.gid != g.gid && h.core == g.core && !h.loop.isEmpty && loopSlot s h == loopSlot s g then
      { h with loop := h.loop.take (Config.loopWords - n) } :: loopRoom s g (n + min h.loop.length (Config.loopWords - n)) hs
    else h :: loopRoom s g n hs
/-- Keep a fetched word: instruction cache, loop buffer and T registrations. DESIGN CHOICE (log entry 67): a full instruction cache
or loop buffer gives up the word filled first. -/
def keepWord (s : State) (g : Group) (pc : DWord) (w : Word) (sectors : List Nat) (cached : Bool) : State :=
  let iw : IWord := ⟨g.ctxid, pc, w, sectors⟩
  let s := if cached then s else
    let s := fetchLeaves s g pc
    ownPlace (fillT (modCore s g.core (fun c => { c with icache := (iw :: c.icache).take 16384 })) (.core g.core) sectors) g.core g.ctxid (.ctl 0)
  if g.loop.any (fun x => x.ctx == g.ctxid && x.va == pc) then s
  else
    let s := modGroup s g.gid (fun g => { g with loop := (iw :: g.loop).take Config.loopWords })
    { s with groups := loopRoom s g (min (g.loop.length + 1) Config.loopWords) s.groups }

/-- Words fetched through a dropped translation leave the instruction cache; a loop buffer that holds one keeps it until the
group's next taken backward branch (R85). -/
def dropFetched (s : State) (core x : Nat) : State :=
  let s := modCore s core (fun c => { c with icache := c.icache.filter (fun w => !w.sectors.contains x) })
  { s with groups := s.groups.map (fun g =>
      if g.core == core && g.loop.any (fun w => w.sectors.contains x) then { g with loopStale := true } else g) }

/-! ## The frontier (R23-R29) -/

/-- An unparked entry: Ready, Stalled or Deferred (R25). -/
def unparked (e : Ent) : Bool := match e.st with
  | .ready => true
  | .deferred _ _ => true
  | .stalled _ => true
  | _ => false

/-- R24: the priority of a lane that moves to pc. DESIGN CHOICE (log entry 87): a BLK word with a nonzero D or A field gives its
immediate too, though its issue will raise illegal-operand. -/
def prioAt (s : State) (g : Group) (pc : DWord) (old : Byte) : Byte :=
  match peekWord s g pc with
  | some w =>
    match decodeFields (splitWord w) with
    | some (.blk _ i) => i
    | _ => old
  | none => old

/-- Lanes that move to a word whose fetch is held at a home are noted: it may be a BLK (R22, R24). -/
def owesWord (s : State) (g : Group) (owes : List (DWord × Mask)) (p : DWord × Mask) : List (DWord × Mask) :=
  match fetchWord s g p.1 with
  | .held _ => owes ++ [p]
  | _ => owes
/-- The joined state of R27: the existing deferral, else the new one, else the existing state. -/
def joinSt (a b : EntSt) : EntSt := match a, b with
  | .deferred n w, _ => .deferred n w
  | _, .deferred n w => .deferred n w
  | a, _ => a

/-- Lanes of the handler entries while a local trap is open (R376), none otherwise. -/
def handlerLanes (g : Group) : Mask := match g.ltrap with
  | some l => l.lanes
  | none => 0
/-- A part joins an unparked entry of its PC and priority (R27); while a local trap is open, handler lanes `h` and held lanes
keep apart (R376). -/
def joins (h : Mask) (p e : Ent) : Bool :=
  unparked e && e.pc == p.pc && e.prio == p.prio && ((e.mask &&& h == 0) == (p.mask &&& h == 0))
/-- Place a part in the frontier (R27). DESIGN CHOICE (log entry 87): lanes that join an entry which an issued SLEEP or ICINV keeps
Stalled at its PC go on with it when the wait ends, as if they had issued it. -/
def placePart (h : Mask) (ents : List Ent) (p : Ent) : List Ent :=
  if p.mask = 0 then ents
  else match ents.find? (joins h p) with
    | some e => replFirst (joins h p)
        { e with mask := e.mask ||| p.mask, stall := max e.stall p.stall, st := joinSt e.st p.st } ents
    | none => ents ++ [p]

/-- An entry has issued, parked or been removed: no deferral awaits it any longer (R29). -/
def strikeOff (keys : List (DWord × Byte)) (ents : List Ent) : List Ent :=
  ents.map (fun e => match e.st with
    | .deferred n w => { e with st := .deferred n (w.filter (fun k => !keys.contains k)) }
    | _ => e)
/-- Take lanes out of every entry; empty entries go (R27, R43), and are no longer awaited (R29). -/
def dropLanes (ents : List Ent) (m : Mask) : List Ent :=
  strikeOff ((ents.filter (fun e => unparked e && minus e.mask m == 0)).map (fun e => (e.pc, e.prio)))
    ((ents.map (fun e => { e with mask := minus e.mask m })).filter (fun e => e.mask != 0))
/-- Keys of the unparked entries that hold some of these lanes. -/
def keysOf (ents : List Ent) (m : Mask) : List (DWord × Byte) :=
  (ents.filter (fun e => unparked e && e.mask &&& m != 0)).map (fun e => (e.pc, e.prio))
/-- The speculative loads that lanes which move on leave in flight (R42): those further down the fall-through path that all of their
lanes follow. The rest are discarded. -/
def aheadLeft (g : Group) (parts : List (DWord × Mask)) : List AheadLoad :=
  let all := parts.foldl (fun m p => m ||| p.2) 0
  g.ahead.filter (fun r => r.mask &&& all == 0 || parts.any (fun p =>
    p.2 == r.mask && p.1 ≤ r.pc && g.ents.any (fun e => e.mask == p.2 && e.pc + 4 == p.1)))
/-- A group's speculative loads are all discarded (R384). -/
def dropAhead (s : State) (gid : Nat) : State := modGroup s gid (fun g => { g with ahead := [] })
/-- Move lanes to their next PCs (R24, R27): `parts` are PC and mask, `S` the stall count, `st` the state they arrive
in. The lanes leave whatever entry holds them, which has then issued (R29). -/
def moveLanes (s : State) (gid : Nat) (prio : Byte) (parts : List (DWord × Mask)) (S : Nat) (st : EntSt) : State :=
  match groupOf s gid with
  | none => s
  | some g =>
    let all := parts.foldl (fun m p => m ||| p.2) 0
    let ents := parts.foldl (fun es p => placePart (handlerLanes g) es ⟨p.1, prioAt s g p.1 prio, p.2, S, st⟩)
      (strikeOff (keysOf g.ents all) (dropLanes g.ents all))
    setGroup s { g with ents := ents, ahead := aheadLeft g parts, owes := parts.foldl (owesWord s g) (g.owes) }

/-- Lanes whose word could not be fetched when they moved to it: once it can be, and is a BLK, they have its priority (R22, R24) and
join under R27; where the fetch faults they keep theirs. -/
def payWord (s : State) (g : Group) (p : DWord × Mask) : Group :=
  let here := fun (e : Ent) => unparked e && e.pc == p.1 && e.mask &&& p.2 != 0
  { g with ents := (g.ents.filter here).foldl (fun es e =>
      placePart (handlerLanes g) (placePart (handlerLanes g) es { e with mask := minus e.mask p.2 })
        { e with mask := e.mask &&& p.2, prio := prioAt s g p.1 e.prio }) (g.ents.filter (fun e => !here e)) }
/-- The words that can be fetched by now. -/
def payWords (s : State) (g : Group) : State :=
  let paid := g.owes.filter (fun p => (match fetchWord s g p.1 with
    | .held _ => false
    | _ => true))
  if paid.isEmpty then s
  else setGroup s (paid.foldl (payWord s) { g with owes := g.owes.filter (fun p => !paid.contains p) })

/-- The entry the issue in progress names. -/
def selected (s : State) : Option (Group × Ent) :=
  match s.sel with
  | none => none
  | some c =>
    match groupOf s c.gid with
    | none => none
    | some g =>
      match g.ents.find? (fun e => unparked e && e.pc == c.pc && e.prio == c.prio &&
          (g.ltrap.isNone || minus e.mask (handlerLanes g) == 0)) with
      | none => none
      | some e => some (g, e)

/-- Lanes F leave their entry and wait with a cause (R367, R369). -/
def raise (s : State) (gid : Nat) (prio : Byte) (pc : DWord) (r : Raise) : State :=
  modGroup s gid (fun g => { g with
    ents := dropLanes g.ents r.lanes ++ [⟨pc, prio, r.lanes, 0, .pending r⟩] })

/-- Park an entry at its PC (R28). -/
def parkEnt (s : State) (gid : Nat) (e : Ent) (p : Park) : State :=
  modGroup s gid (fun g => { g with
    ents := dropLanes g.ents e.mask ++ [{ e with stall := 0, st := .parked p }] })

/-- Keep an entry Stalled at its PC for a reason (R25); an instruction that has issued skips S opportunities (R148). -/
def stallEnt (s : State) (gid : Nat) (e : Ent) (S : Nat) (w : Why) : State :=
  modGroup s gid (fun g => { g with
    ents := g.ents.map (fun x => if unparked x && x.pc == e.pc && x.prio == e.prio && x.mask == e.mask then { x with stall := S, st := .stalled w } else x) })

/-- The same for an instruction that has issued: no deferral awaits the entry any longer (R29). -/
def stallIssued (s : State) (gid : Nat) (e : Ent) (S : Nat) (w : Why) : State :=
  modGroup (stallEnt s gid e S w) gid (fun g => { g with ents := strikeOff [(e.pc, e.prio)] g.ents })

/-- A walk read or an access of the entry's instruction is held at the home of a sector: the entry waits (R84, R86, R417). -/
def stallWalk (s : State) (gid : Nat) (e : Ent) (x : Nat) : State := stallEnt (askBoth s x) gid e 0 (.walk x)

/-! ## Debug channels (R287-R289) -/

/-- A word of debug channel c. -/
def dbgWord (s : State) (c j : Nat) : DWord := apWord s (0x10000 + 0x20 * c + 8 * j)
/-- The position in group g of the lane that channel c selects, when it is there and live. -/
def dbgLane (s : State) (g : Group) (c : Nat) : Option Nat :=
  match teamOf s g.team with
  | none => none
  | some t =>
    let sel := dbgWord s c 1
    if t.ctx.toNat = bitsOf sel 48 16 ∧ t.lin = bitsOf sel 16 32 then
      let want := bitsOf sel 8 4 * g.width + bitsOf sel 0 6
      if g.width ≤ bitsOf sel 0 6 then none else (lanesOf g.live).find? (fun l => match octetOf g l with
        | some o => o.index0 + (l - o.pos) == want
        | none => false)
    else none
/-- A lane's break at a PC has been taken, and the lane has not left the PC since (R289). -/
def skips (g : Group) (pc : DWord) (l : Nat) : Bool := g.brkSkip.any (fun k => k.1 == pc && bitAt k.2 l)
/-- The break is taken once: the lanes at the PC issue without it until they have left it (R289). -/
def skipBreak (g : Group) (pc : DWord) (m : Mask) : Group := { g with brkSkip := g.brkSkip ++ [(pc, m)] }
/-- Lanes go on at a PC: a break already taken at another applies to them again (R289), and what they had still to replay there
(R91, R130) is given up. -/
def leaveSkips (g : Group) (m : Mask) (pc : DWord) : Group :=
  let left := fun (k : DWord × Mask) => if k.1 == pc then k else (k.1, minus k.2 m)
  { g with
    brkSkip := (g.brkSkip.map left).filter (fun k => k.2 != 0),
    nrReplay := (g.nrReplay.map left).filter (fun k => k.2 != 0),
    srReplay := (g.srReplay.map (fun k => (k.1, (left (k.1, k.2.1)).2, k.2.2))).filter (fun k => k.2.1 != 0) }
/-- The first channel that breaks at this entry (R289). -/
def breakHit (s : State) (g : Group) (e : Ent) : Option Nat :=
  (List.range 4).find? (fun c =>
    let d := dbgWord s c 0
    d.getLsbD 0 && d.getLsbD 2 && bitsOf (dbgWord s c 2) 2 46 * 4 == e.pc.toNat &&
    (match dbgLane s g c with
      | some l => bitAt e.mask l && !skips g e.pc l
      | none => false))
/-- The channels that step a lane of this mask, with the lanes (R288). -/
def stepHits (s : State) (g : Group) (m : Mask) : List (Nat × Nat) :=
  (List.range 4).filterMap (fun c =>
    let d := dbgWord s c 0
    if d.getLsbD 0 && d.getLsbD 1 then
      match dbgLane s g c with
      | some l => if bitAt m l then some (c, l) else none
      | none => none
    else none)
/-- The first of them. -/
def stepHit (s : State) (g : Group) (m : Mask) : Option (Nat × Nat) := (stepHits s g m).head?
/-- DSTAT.PC of every active channel whose lane takes a debug trap in these lanes (R287). -/
def dbgPc (s : State) (g : Group) (m : Mask) (pc : DWord) : State :=
  (List.range 4).foldl (fun t c =>
    if (dbgWord s c 0).getLsbD 0 then
      match dbgLane s g c with
      | some l => if bitAt m l then apPut t (0x10018 + 0x20 * c) 0 48 pc.toNat else t
      | none => t
    else t) s

/-! ## Ending lanes (R43, R380) -/

/-- End lanes of a group: they leave their entries at once, and a debug channel that selects one sets GONE (R288). Their arrivals at
barriers go with them (R205). DESIGN CHOICE (log entry 87): an instruction with ROUND = 2 whose lanes left to replay have all ended
does not count for SRCNT (R130). What that completes is found by `settle`. -/
def endLanes (s : State) (gid : Nat) (m : Mask) : State :=
  match groupOf s gid with
  | none => s
  | some g =>
    let s := (List.range 4).foldl (fun s c =>
      if (dbgWord s c 0).getLsbD 0 then
        match dbgLane s g c with
        | some l => if bitAt m l then apPut s (0x10018 + 0x20 * c) 63 1 1 else s
        | none => s
      else s) s
    let cells := (lanesOf m).map (fun l => rfCell g l 0)
    let s := modTeam s g.team (fun t => { t with bars := t.bars.map (fun b => { b with arrived := b.arrived.filter (fun c => !cells.contains c) }) })
    setGroup s { g with live := minus g.live m, ents := dropLanes g.ents m,
                        srReplay := (g.srReplay.map (fun k => (k.1, minus k.2.1 m, k.2.2))).filter (fun k => k.2.1 != 0),
                        nrReplay := (g.nrReplay.map (fun k => (k.1, minus k.2 m))).filter (fun k => k.2 != 0) }

/-! ## Taking a trap (R370-R377) -/

/-- The tenant a trap belongs to (R371): that of the trapping context; the team's, when the context's entry is
invalid (log entry 17). -/
def trapTenant (s : State) (g : Group) : Nat :=
  match tenantOf s g.ctxid with
  | some t => t
  | none =>
    match teamOf s g.team with
    | some t => t.tenant
    | none => 0

/-- Address of an entry of a trap table (R371, R372). -/
def trapEntryAddr (s : State) (tenant : Nat) (code : Cause) : Nat :=
  bitsOf (apWord s (0xD000 + 8 * tenant)) 13 35 * 8192 + 8 * code.toNat
/-- The entry's read, a control-space load, waits: its home is being rebuilt, or another package holds its data (R86, R417). -/
def trapHeld (s : State) (g : Group) (code : Cause) : Option Nat :=
  let t := trapTenant s g
  let a := trapEntryAddr s t code
  if (apWord s (0xD000 + 8 * t)).getLsbD 63 && (homeState s a == some (.held (a / 64)) || ownedAway s (a / 64)) then some (a / 64) else none
/-- An entry of a trap table (R372): ACT, HANDLER, and whether it is malformed or unreadable. -/
def trapEntry (s : State) (tenant : Nat) (code : Cause) : Nat × DWord × Bool :=
  let a := trapEntryAddr s tenant code
  if (homeState s a).isSome || s.ctlPoison.contains (a / 32) || s.ctlBad.contains (a / 32) then (0, 0, true)
  else
    let w := ctlWord64 s a
    if bitsOf w 48 14 ≠ 0 then (0, 0, true) else (bitsOf w 62 2, BitVec.ofNat 64 (bitsOf w 0 48 * 4), false)

/-- Distinct priorities of lanes, ascending. -/
def priosOf (ps : SMap Nat) (m : Mask) : List Nat := (lanesOf m).foldl (fun l i => insNat (mapGet 0 ps i) l) []

/-- The priority each lane of a mask has now. -/
def lanePrios (g : Group) (m : Mask) : SMap Nat :=
  (lanesOf m).foldl (fun ps i =>
    match g.ents.find? (fun e => bitAt e.mask i) with
    | some e => mapSet 0 ps i e.prio.toNat
    | none => ps) []

/-- Entries at a PC for lanes of given priorities: one for each distinct priority, R24 applied, with stall count S. -/
def placeByPrio (s : State) (g : Group) (ents : List Ent) (pc : DWord) (m : Mask) (ps : SMap Nat) (S : Nat) : List Ent :=
  (priosOf ps m).foldl (fun es p =>
    let lanes := m &&& maskWhere (fun i => mapGet 0 ps i == p)
    placePart (handlerLanes g) es ⟨pc, prioAt s g pc (BitVec.ofNat 8 p), lanes, S, .ready⟩) ents

/-- Words 0-4 of a trap record (R374). -/
def trapWords (s : State) (g : Group) (r : Raise) (nest badent : Bool) : List DWord :=
  let lin := match teamOf s g.team with
    | some t => t.lin
    | none => 0
  [ BitVec.ofNat 64 (g.ctxid.toNat * 2 ^ 48 + g.core * 2 ^ 39 + g.gslot * 2 ^ 29 + r.code.toNat * 2 ^ 20 +
      (if g.kernel then 2 ^ 19 else 0) + (if nest then 2 ^ 18 else 0) + (if badent then 2 ^ 17 else 0)),
    r.tpc, r.lanes, r.xinfo,
    BitVec.ofNat 64 (g.path.length * 2 ^ 36 + g.num * 2 ^ 32 + lin) ]

/-- Route (R375): the lanes are held at the trap PC and a record waits to be posted (R373). -/
def routeTrap (s : State) (g : Group) (r : Raise) (nest badent : Bool) : State :=
  let ps := lanePrios g r.lanes
  let (id, s) := fresh s
  let held := (priosOf ps r.lanes).map (fun p =>
    (⟨r.tpc, BitVec.ofNat 8 p, r.lanes &&& maskWhere (fun i => mapGet 0 ps i == p), 0, .held id⟩ : Ent))
  let s := setGroup s { g with ents := dropLanes g.ents r.lanes ++ held }
  { s with trapWait := s.trapWait ++ [⟨trapTenant s g, id, trapWords s g r nest badent⟩] }

/-- Causes for which ACT = 3 acts as ACT = 0 (R388). -/
def noContinue (c : Cause) : Bool := 0x080 ≤ c.toNat && c.toNat ≤ 0x0BF

/-- The local handler (R375): XPC, XCAUSE and XLMASK; level, context, VWB, SRCNT and priorities kept; kernel level,
VWB = 0, and the lanes at HANDLER × 4. -/
def enterHandler (s : State) (g : Group) (r : Raise) (handler : DWord) : State :=
  let ps := lanePrios g r.lanes
  let g1 := { g with xpc := r.tpc, xcause := r.code, xlmask := r.lanes, kernel := true, vwb := 0,
                     ltrap := some ⟨r.lanes, g.kernel, g.ctxid, g.vwb, g.srcnt, ps⟩ }
  setGroup s { g1 with ents := placeByPrio s g1 (dropLanes g.ents r.lanes) handler r.lanes ps 0,
                       owes := owesWord s g1 g.owes (handler, r.lanes) }

/-- What the read of a trap table's entry leaves at its home (R90, R410). -/
def trapRead (s : State) (tenant : Nat) (code : Cause) : State :=
  let a := trapEntryAddr s tenant code
  if (homeState s a).isSome then s else mergeBlend (markCtl s a) (a / 64)
/-- TakeTrap (R375) on the lanes of a pending cause. -/
def takeTrap (s : State) (gid : Nat) (r0 : Raise) : State :=
  let s := dropAhead (applyDue s gid true) gid
  match groupOf s gid with
  | none => s
  | some g =>
    let r : Raise := { r0 with lanes := r0.lanes &&& g.live }
    if r.lanes == 0 then s
    else
      let nested := match g.ltrap with
        | some l => minus r.lanes l.lanes == 0
        | none => false
      let t := trapTenant s g
      let base := apWord s (0xD000 + 8 * t)
      if !base.getLsbD 63 then endLanes (apSet s (0xD000 + 8 * t) (base ||| BitVec.ofNat 64 (2 ^ 62))) gid r.lanes
      else if nested then routeTrap s g r true false
      else
          let (act, handler, bad) := trapEntry s t r.code
          let s := trapRead s t r.code
          if act = 2 then endLanes s gid r.lanes
          else if act = 3 ∧ !noContinue r.code then
            setGroup s { g with ents := placeByPrio s g (dropLanes g.ents r.lanes) r.tpc r.lanes (lanePrios g r.lanes) 0,
                                owes := owesWord s g g.owes (r.tpc, r.lanes) }
          else if act = 1 then enterHandler s g r handler
          else routeTrap s g r false bad

/-- The pending cause that is taken next (R369): a handler's, else, with no local trap open, that of the entry Choose would
pick. A cause that a raise put on several entries at once is one cause (R47). -/
def nextPending (g : Group) : Option Raise :=
  let cands := g.ents.filter (fun e => match e.st, g.ltrap with
    | .pending _, none => true
    | .pending _, some l => minus e.mask l.lanes == 0
    | _, _ => false)
  match sortBy (fun a b : Ent => b.prio < a.prio || (a.prio == b.prio && a.pc < b.pc)) cands with
  | e :: _ => (match e.st with
    | .pending r => some { r with lanes := r.lanes &&& (g.ents.filter (fun x => x.st == .pending r)).foldl (fun m x => m ||| x.mask) 0 }
    | _ => none)
  | [] => none
/-- The next pending cause of a group that can be taken now: none while the group is halted for a save (R385), nor while the trap
table cannot be read. -/
def takeable (s : State) (g : Group) : Option Raise :=
  if g.halted then none
  else match nextPending g with
    | some r => if (trapHeld s g r.code).isSome then none else some r
    | none => none
/-- The entries that wait with a cause, Ready as they were, so that it can be taken. -/
def pendingReady (s : State) (gid : Nat) (r : Raise) : State :=
  modGroup s gid (fun g => { g with ents := g.ents.map (fun e => match e.st with
    | .pending q => if q.code == r.code && q.tpc == r.tpc && minus r.lanes q.lanes == 0 then { e with st := .ready } else e
    | _ => e) })

/-- Return (R278, R378): W goes to XPC with the priorities of trap entry, the rest of the handler's lanes are left
held, and level, context, VWB and SRCNT are restored; the lanes of W skip S opportunities (R148). -/
def returnTrap (s : State) (g : Group) (l : LTrap) (S : Nat) : State :=
  let w := g.xlmask &&& g.live &&& l.lanes
  let rest := minus (l.lanes &&& g.live) w
  let g1 := leaveSkips { g with kernel := l.kernel, ctxid := l.ctx, vwb := l.vwb, srcnt := l.srcnt, ltrap := none, loop := [],
                                loopStale := false } w g.xpc
  let ps := lanePrios g rest
  let held := (priosOf ps rest).map (fun p =>
    (⟨g.xpc, BitVec.ofNat 8 p, rest &&& maskWhere (fun i => mapGet 0 ps i == p), 0, .heldRet 0⟩ : Ent))
  setGroup s { g1 with
    ents := placeByPrio s g1 (dropLanes g.ents l.lanes) g.xpc w l.prios S ++ held,
    owes := owesWord s g1 g1.owes (g.xpc, w) }

/-- A local trap whose handler lanes have all ended closes with no return (R376). -/
def closeDeadTrap (s : State) (g : Group) : State :=
  match g.ltrap with
  | some l => if l.lanes &&& g.live = 0 then
      setGroup s { g with kernel := l.kernel, ctxid := l.ctx, vwb := l.vwb, srcnt := l.srcnt, ltrap := none }
    else s
  | none => s

end Sys2Proof.Machine
end

