-- ==== Sys2Proof/Machine/Operands.lean ====
section
/-! DEFINITION. Every operand form (07 R141, 10 R212): which registers an instruction reads and writes, the checks of
R147, the scoreboard and short-stall rules (R150-R152), operand values, and the launch data an instruction uses. -/

namespace Sys2Proof.Machine

/-- The registers `n` places from a field on: vector registers by their number in the budget, or uniforms. -/
def regDsts (g : Group) (r : RegName) (n : Nat) : List Dst :=
  (List.range n).map (fun j => if isV r then Dst.v (g.vwb + r.toNat + j) else Dst.k (kNum r + j))

/-- Registers an operand reads. -/
def opdReads (g : Group) : Opd → List Dst
  | .rw r => regDsts g r 1
  | .srun r n => regDsts g r n
  | .sv r => regDsts g r 1
  | .sp r => regDsts g r 2
  | .sk r => regDsts g r 1
  | .skp r => regDsts g r 2
  | .sk3 r => regDsts g r 3
  | .sm m => [.m m.toNat]
  | _ => []

/-- Registers an operand writes. -/
def opdWrites (g : Group) : Opd → List Dst
  | .dv r => regDsts g r 1
  | .dvp r => regDsts g r 2
  | .dvu r => regDsts g r 1
  | .dvup r => regDsts g r 2
  | .dk n => [.k n.toNat]
  | .dkp r => regDsts g r 2
  | .rw r => regDsts g r 1
  | .drun r n => regDsts g r n
  | .dm m => [.m m.toNat]
  | _ => []

/-- The launch record words of a group (R106). -/
def recOf (s : State) (g : Group) : List DWord :=
  match teamOf s g.team with
  | some t => (match gridOf s t.grid with
    | some d => d.rec_
    | none => [])
  | none => []
/-- Format slot f of the group's launch (R107, R182). -/
def slotOf (s : State) (g : Group) (f : Nat) : DWord := (recOf s g).getD (24 + f) 0
/-- The team linear index (R110). -/
def teamLin (s : State) (g : Group) : Nat := match teamOf s g.team with
  | some t => t.lin
  | none => 0

/-- The operands of an instruction in a group: CVTB's runs are as long as its slot says (R187). -/
def operandsIn (s : State) (g : Group) (i : Instr) : List Opd :=
  match i with
  | .cvtb _ d a f =>
    let n := slotBlk (slotOf s g f.toNat)
    operands i ++ [.drun d (n / 4 + 1), .srun a n]
  | _ => operands i

/-- Registers read. -/
def readsOf (s : State) (g : Group) (i : Instr) : List Dst := ((operandsIn s g i).map (opdReads g)).flatten
/-- Registers written. -/
def writesOf (s : State) (g : Group) (i : Instr) : List Dst := ((operandsIn s g i).map (opdWrites g)).flatten

/-- A pending write touches one of these registers in one of these lanes. -/
def touches (ds : List Dst) (m : Mask) (w : PWrite) : Bool :=
  match vecOf w.dst with
  | some r => ds.contains (.v r) && w.lanes &&& m != 0
  | none => ds.contains w.dst

/-- An access that only reads. -/
def isLoadKind : OpKind → Bool
  | .load _ => true
  | .ldsp => true
  | _ => false
/-- Accesses that an edge of R294 places before every later access of these lanes are not yet performed, and the
instruction reads or writes a vector register: that is an access of a window location (R301). -/
def edgeHolds (s : State) (g : Group) (i : Instr) (m : Mask) : Bool :=
  edgesLeft s g m &&
  (readsOf s g i ++ writesOf s g i).any (fun d => match d with
    | .v _ => true
    | _ => false)
/-- An access of a lane to the window location of one of its own registers is not yet performed, and the instruction accesses the
register; a load of it and a read are not ordered (R293, R301). -/
def windowHolds (s : State) (g : Group) (i : Instr) (m : Mask) : Bool :=
  s.ops.any (fun o => o.gid == g.gid && o.mask &&& m != 0 && o.accs.any (fun a => !a.done && bitAt m a.lane && (match a.at_ with
    | .win c 0 off => c == g.core &&
        ((if isLoadKind o.kind then [] else readsOf s g i) ++ writesOf s g i).any (fun d => match d with
          | .v r => off / 4 ≤ rfCell g a.lane r && rfCell g a.lane r < (off + a.size + 3) / 4
          | _ => false)
    | _ => false)))

/-- A cross-lane instruction: .OPT, and whether SCAN.FADD or FRED (R201). -/
def crossOpt : Instr → Option Bool
  | .shfl _ x _ _ _ => some (x == 1)
  | .voteAny _ x _ _ => some (x == 1)
  | .voteAll _ x _ _ => some (x == 1)
  | .bcast _ x _ _ _ => some (x == 1)
  | .matchLanes _ x _ _ => some (x == 1)
  | .redAdd _ x _ _ => some (x == 1)
  | .redMinS _ x _ _ => some (x == 1)
  | .redMinU _ x _ _ => some (x == 1)
  | .redMaxS _ x _ _ => some (x == 1)
  | .redMaxU _ x _ _ => some (x == 1)
  | .redAnd _ x _ _ => some (x == 1)
  | .redOr _ x _ _ => some (x == 1)
  | .redXor _ x _ _ => some (x == 1)
  | .fredAdd _ x _ _ => some (x == 1)
  | .fredMin _ x _ _ => some (x == 1)
  | .fredMinp _ x _ _ => some (x == 1)
  | .fredMax _ x _ _ => some (x == 1)
  | .fredMaxp _ x _ _ => some (x == 1)
  | .scanAdd _ x _ _ => some (x == 1)
  | .scanXadd _ x _ _ => some (x == 1)
  | .scanFadd _ x _ _ => some (x == 1)
  | _ => none
/-- A parked instruction that gives a register through the scoreboard (R149): a cross-lane one, DEQ or QPOP. -/
def parkWrites : Instr → Bool
  | .deq _ _ _ => true
  | .qpop _ _ _ _ => true
  | i => (crossOpt i).isSome
/-- The uniform and mask registers that a parked instruction gives, m0 of an .OPT operation among them (R199). -/
def parkGives (s : State) (g : Group) (i : Instr) : List Dst :=
  (writesOf s g i).filter (fun d => match d with
    | .v _ => false
    | _ => true) ++ (if crossOpt i == some true then [.m 0] else [])
/-- A uniform or mask register that the instruction reads or writes awaits a parked instruction of another entry of the group
(R150, R151), other than the cross-lane operation that this issue itself joins (R199). DESIGN CHOICE (log entry 88): the m0 that a
parked .OPT operation will write counts as pending, but holds no cross-lane instruction, so that R200 can find a mismatch. -/
def parkHolds (s : State) (g : Group) (i : Instr) (e : Ent) : Bool :=
  let ds := readsOf s g i ++ writesOf s g i
  g.ents.any (fun x => match x.st with
    | .parked p => parkWrites p.i && !(x.pc == e.pc && p.i == i && (crossOpt i).isSome) &&
        (parkGives s g p.i).any (fun d => ds.contains d && !(d == .m 0 && (crossOpt i).isSome))
    | _ => false)

/-- The instruction may not issue yet: a scoreboarded write to a register that it reads or writes is pending (R150),
other than one whose fault R222 has deferred to it, or a register read must wait for an edge. -/
def busy (s : State) (g : Group) (i : Instr) (e : Ent) : Bool :=
  let ds := readsOf s g i ++ writesOf s g i
  g.pend.any (fun w => w.tok != 0 && touches ds e.mask w && !g.deferred.any (fun d => d.1 == w.tok && d.2.1 &&& e.mask != 0)) ||
  edgeHolds s g i e.mask || windowHolds s g i e.mask || parkHolds s g i e

/-- R96, R97: every vector operand lies within the budget; so does each register of CVTB's source run, which a uniform does
not (R187). -/
def rangeOk (s : State) (g : Group) (i : Instr) : Bool :=
  (readsOf s g i ++ writesOf s g i).all (fun d => match d with
    | .v r => r < g.budget
    | _ => true) &&
  (match i with
    | .cvtb _ _ a _ => isV a
    | _ => true)

/-- R152: a register read has a fixed-latency write that has not yet taken effect. -/
def tooEarly (s : State) (g : Group) (i : Instr) (m : Mask) : Bool :=
  g.pend.any (fun w => w.tok == 0 && touches (readsOf s g i) m w)

/-- Instructions of the matrix engine and accumulator store (R146, R274). -/
def needsMatrix : Instr → Bool
  | .macq _ => true
  | .mrel _ => true
  | .mma _ _ _ _ _ => true
  | .mmaP _ _ _ _ _ => true
  | .mzero _ _ => true
  | .mloada _ _ _ => true
  | .mstorea _ _ _ => true
  | .ctxsave _ _ _ => true
  | .ctxload _ _ _ => true
  | _ => false

/-- Instructions that user level may not issue (R272). -/
def kernelOnly : Instr → Bool
  | .eret _ => true
  | .xlate _ _ _ => true
  | .halt _ => true
  | .ctxsave _ _ _ => true
  | .ctxload _ _ _ => true
  | .srd _ r _ => srKernelOnly r.toNat
  | .swr _ r _ => srKernelOnly r.toNat
  | _ => false

/-- SCHK.EN of the group's current context (R113, R446). -/
def schkOn (s : State) (g : Group) : Bool := mapGet false s.schk g.ctxid.toNat
/-- SHADOW of the current context (R38): EN in bit 0, MEM in bit 1. -/
def shadowOf (s : State) (g : Group) : BitVec 2 := mapGet 0 s.shadow g.ctxid.toNat

/-- The barrier range a group sees: frame, callee, base and count (R56). -/
def barRange (t : Team) (g : Group) : Nat × Nat × Nat × Nat :=
  match g.path with
  | [] => (0, 0, 0, 32)
  | (f, j) :: _ =>
    match t.frames.find? (fun x => x.fid == f) with
    | some x => (f, j, (x.bars.getD j (0, 0)).1, (x.bars.getD j (0, 0)).2)
    | none => (0, 0, 0, 32)
/-- A barrier number lies in the group's range (R56, R154). -/
def barNumOk (s : State) (g : Group) (i : Instr) : Bool :=
  let lies := fun (n : Nat) => match teamOf s g.team with
    | some t => decide (n < (barRange t g).2.2.2)
    | none => false
  match i with
  | .barArrive _ n _ => lies n.toNat
  | .barWait _ n _ => lies n.toNat
  | .barSync _ n => lies n.toNat
  | _ => true

/-- Steps 2 to 6 of R147, in order. `wellFormed` is the answer of step 4. -/
def checkCause (s : State) (g : Group) (e : Ent) (i : Instr) (wellFormed : Bool) : Option Cause :=
  if needsMatrix i && !Config.hasMatrix g.core then some 0x003
  else if kernelOnly i && !g.kernel then some 0x1C0
  else if !wellFormed || !barNumOk s g i then some 0x001
  else if !rangeOk s g i then some 0x088
  else if schkOn s g && tooEarly s g i e.mask then some 0x002
  else none

/-- Deferred causes of R222 that this instruction meets: it touches the lane's d, or is a FENCE.TC. -/
def deferredHit (s : State) (g : Group) (i : Instr) (m : Mask) : Option (Nat × Mask × Cause × DWord) :=
  let ds := readsOf s g i ++ writesOf s g i
  g.deferred.find? (fun d => d.2.1 &&& m != 0 && ((match i with
    | .fenceTc _ => true
    | _ => false) || g.pend.any (fun w => w.tok == d.1 && touches ds (m &&& d.2.1) w) || !g.pend.any (fun w => w.tok == d.1)))

/-- The raise of the causes deferred for one RATOM in an entry: its lanes, with the code and address of the lowest (R222,
R368). -/
def deferredRaise (g : Group) (e : Ent) (tok : Nat) : Raise :=
  let F := e.mask &&& (g.deferred.filter (fun d => d.1 == tok)).foldl (fun m d => m ||| d.2.1) 0
  match g.deferred.find? (fun d => d.1 == tok && bitAt d.2.1 (lowest F)) with
  | some d => ⟨F, d.2.2.1, e.pc, d.2.2.2⟩
  | none => ⟨F, 0, e.pc, 0⟩

/-- A conversion whose slot has ROUND = 2 (R128, R183, R184). -/
def drawsRandom (s : State) (g : Group) : Instr → Bool
  | .cvts _ _ _ _ f => slotRound (slotOf s g f.toNat) == 2
  | .cvtx _ _ _ _ f => slotRound (slotOf s g f.toNat) == 2
  | _ => false
/-- Lanes of an instruction at a PC that were left to replay, and SRCNT for them: that of the first issue (R130). -/
def srOwed (g : Group) (pc : DWord) : Mask := (g.srReplay.filter (fun k => k.1 == pc)).foldl (fun m k => m ||| k.2.1) 0
/-- An instruction with ROUND = 2 traps in some lanes before any is performed: all of them draw with the SRCNT of now (R130). -/
def srTrapped (g : Group) (pc : DWord) (m : Mask) : Group :=
  let first := minus m (srOwed g pc)
  if first == 0 then g else { g with srReplay := g.srReplay ++ [(pc, first, g.srcnt)] }

/-- Lanes in which a register that the instruction reads is marked poisoned (R411). -/
def poisonedLanes (s : State) (g : Group) (i : Instr) (m : Mask) : Mask :=
  let bad := (coreOf s g.core).rfPoison
  if bad.isEmpty then 0
  else m &&& maskWhere (fun l => bitAt m l && (readsOf s g i).any (fun d => match d with
    | .v r => bad.contains (rfCell g l r)
    | _ => false))

/-! ## The checks before an issue -/

/-- What the checks answer: nothing issues (the entry stays as it is), a cause is raised, or the instruction issues for
the entry, in which the lanes `bad` read a poisoned register (R411). -/
inductive Pre where
  | stop
  | trap (t : State) (gid : Nat)
  | go (t : State) (g : Group) (e : Ent) (bad : Mask)
deriving DecidableEq, Repr

/-- Raise a cause of kind "before" in every lane of the entry (R367). -/
def raiseAll (s : State) (g : Group) (e : Ent) (c : Cause) (xinfo : DWord) : State :=
  raise s g.gid e.prio e.pc ⟨e.mask, c, e.pc, xinfo⟩

/-- A debug break of channel c (R289): debug-break in every lane of the entry, which will then issue once without it. -/
def breakAt (s : State) (g : Group) (e : Ent) (c : Nat) : State :=
  modGroup (dbgPc (raiseAll s g e 0x1F1 (BitVec.ofNat 64 c)) g e.mask e.pc) g.gid (fun g => skipBreak g e.pc e.mask)

/-- The checks of R147 and what comes before an instruction's own causes: the scoreboard wait (R150), a debug break
(R289), causes deferred by RATOM (R222) and poisoned registers (R411). -/
def precheck (i : Instr) (wellFormed : Bool) (s : State) : Pre :=
  match selected s with
  | none => .stop
  | some (g, e) =>
    let draws := fun (t : State) => if wellFormed && drawsRandom s g i then modGroup t g.gid (fun h => srTrapped h e.pc e.mask) else t
    if wellFormed && barNumOk s g i && busy s g i e then .stop
    else match breakHit s g e with
    | some c =>
      .trap (draws (breakAt s g e c)) g.gid
    | none =>
      match checkCause s g e i wellFormed with
      | some c => .trap (draws (raiseAll s g e c 0)) g.gid
      | none =>
        match deferredHit s g i e.mask with
          | some d =>
            let r := deferredRaise g e d.1
            .trap (modGroup (draws (raise s g.gid e.prio e.pc r)) g.gid (fun h => { h with
              deferred := (g.deferred.map (fun x => if x.1 == d.1 then (x.1, minus x.2.1 r.lanes, x.2.2) else x)).filter
                (fun x => x.2.1 != 0),
              pend := (g.pend.map (fun w => if w.tok == d.1 then { w with lanes := minus w.lanes r.lanes } else w)).filter
                (fun w => w.lanes != 0) })) g.gid
          | none => .go s g e (poisonedLanes s g i e.mask)

/-! ## Values and results -/

/-- Sign-extended 8-bit immediate (R140). -/
def simm (i : BitVec 8) : Word := i.signExtend 32
/-- Zero-extended 8-bit immediate (R140). -/
def uimm (i : BitVec 8) : Word := i.setWidth 32
/-- A value for the whole group: a uniform's, or that of the lowest active lane (R275, R279). -/
def groupVal (s : State) (g : Group) (m : Mask) (r : RegName) : Word := readReg s g (lowest m) r
/-- The pair for the whole group. -/
def groupPair (s : State) (g : Group) (m : Mask) (r : RegName) : DWord := readPair s g (lowest m) r
/-- The address of `[p, i]` in a lane (R212). -/
def laneAddr (s : State) (g : Group) (lane : Nat) (p i : RegName) (size : Nat) : DWord :=
  readPair s g lane p + (readReg s g lane i).signExtend 64 * BitVec.ofNat 64 size
/-- The address of `[p]` in a lane. -/
def laneAddr0 (s : State) (g : Group) (lane : Nat) (p : RegName) : DWord := readPair s g lane p

/-- The destination of a field. -/
def dstOf (g : Group) (r : RegName) (n : Nat) : Dst := if isV r then .v (g.vwb + r.toNat + n) else .k (kNum r + n)

/-- Values of a vector destination, lane by lane; of a uniform destination, once. -/
def valsFor (r : RegName) (m : Mask) (f : Nat → DWord) : List (Nat × DWord) :=
  if isV r then (lanesOf m).map (fun l => (l, f l)) else [(lowest m, f (lowest m))]

/-- A fixed-latency write of distance d (R149), in effect at the (d + 1)-th opportunity after this one. -/
def fixedWrite (g : Group) (r : RegName) (n : Nat) (m : Mask) (dist : Nat) (f : Nat → DWord) : PWrite :=
  ⟨dstOf g r n, m, valsFor r m f, some (g.opp + dist + 1), 0⟩
/-- A scoreboarded write that result `tok` completes. -/
def boardWrite (g : Group) (r : RegName) (n : Nat) (m : Mask) (tok : Nat) (f : Nat → DWord) : PWrite :=
  ⟨dstOf g r n, m, valsFor r m f, none, tok⟩

/-- The team lane index that LANE.TEAM gives (R18, R51). -/
def laneIndex (g : Group) (lane : Nat) : Nat := match octetOf g lane with
  | some o => o.index + (lane - o.pos)
  | none => lane
/-- The team lane index at depth 0 (R129). -/
def laneIndex0 (g : Group) (lane : Nat) : Nat := match octetOf g lane with
  | some o => o.index0 + (lane - o.pos)
  | none => lane

end Sys2Proof.Machine
end

