-- ==== Sys2Proof/Machine/Waits.lean ====
section
/-! DEFINITION. What lanes wait for together, and when the wait is over: cross-lane operations (09 R198-R202), barriers
(R203-R206), REGRP (02 R37), the team-call and its rejoin (03), lane-mismatch (R200, R391), pending traps (R369), the
hand-on of the matrix engine (R245), and the end of groups and teams (R43). `settle` applies them in the order of R381
until nothing more completes. -/

namespace Sys2Proof.Machine

/-! ## Order edges between lanes (R294) -/

/-- An access that the edges of R206, R36, R63 and R224 order: every load, store and atomic but RATOM (R222), and the
register write of a result in flight (R301). -/
def edgeKind : OpKind → Bool
  | .ratom _ _ => false
  | _ => true
/-- Accesses of these lanes, and accesses they follow, that are not yet performed. -/
def undone (s : State) (gid : Nat) (m : Mask) : List Nat :=
  let own := (s.ops.filter (fun o => o.gid == gid && o.mask &&& m != 0 && edgeKind o.kind)).map (·.id)
  match groupOf s gid with
  | some g => own ++ (((g.deps ++ g.near).filter (fun d => d.1 &&& m != 0)).map (·.2.1)).filter (fun i => s.ops.any (·.id == i))
  | none => own
/-- Register writes of fixed latency in flight in these lanes become an access that an edge can name (R301). -/
def markRegs (s : State) (gid : Nat) (m : Mask) : State :=
  match groupOf s gid with
  | none => s
  | some g =>
    if g.pend.any (inFlight m) then
      { s with nextId := s.nextId + 1, ops := s.ops ++ [⟨s.nextId, .regs, g.core, g.gid, g.team, g.ctxid, g.kernel, m, [], [], false, [], [], 0⟩] }
    else s
/-- Later accesses of these lanes follow the named accesses; copies too when `copies`. -/
def addDeps (s : State) (gid : Nat) (m : Mask) (ids : List Nat) (copies : Bool) : State :=
  modGroup s gid (fun g => { g with
    deps := g.deps.filter (fun d => s.ops.any (·.id == d.2.1)) ++ ids.map (fun i => (m, i, copies)) })

/-- The same, where it is enough that their core sees the named accesses (R297). -/
def addNear (s : State) (gid : Nat) (m : Mask) (ids : List Nat) (copies : Bool) : State :=
  modGroup s gid (fun g => { g with
    near := g.near.filter (fun d => s.ops.any (·.id == d.2.1)) ++ ids.map (fun i => (m, i, copies)) })

/-- Write at once, after every earlier write to the same register (R150): the later value remains. The earlier value is read by
nobody any more, since every later reader has waited for this write (R151). -/
def writeNow (s : State) (gid : Nat) (w : PWrite) : State :=
  applyWrite (modGroup s gid (fun g => { g with
    pend := (g.pend.map (fun p => if sameDst p w then
      { p with lanes := (match w.dst with
        | .k _ => 0
        | _ => minus p.lanes w.lanes) } else p)).filter (fun p => p.lanes != 0) })) gid w

/-- A cause of an instruction that has completed in its lanes: fp-invalid, shadow-mismatch, TRAP (R367). -/
def causeAfter (c : Cause) : Bool := c == 0x100 || c == 0x182 || (0x1E0 ≤ c.toNat && c.toNat ≤ 0x1EF)
/-- Raise debug-step for the lane a channel steps, once its instruction has completed (R288): F is its entry's lanes of the
mask. A cause of the completed instruction's own comes first. -/
def stepOne (s : State) (gid : Nat) (m : Mask) (c l : Nat) : State :=
  match groupOf s gid with
  | none => s
  | some g =>
    match g.ents.find? (fun e => bitAt e.mask l) with
    | none => s
    | some e => match e.st with
      | .pending r => if causeAfter r.code then setGroup s { g with stepOwed := g.stepOwed ++ [m] } else s
      | _ => if unparked e then
          raise (dbgPc (setGroup s { g with stepOwed := g.stepOwed.filter (fun x => !bitAt x l) }) g (e.mask &&& m) e.pc) gid e.prio e.pc
            ⟨e.mask &&& m, 0x1F0, e.pc, BitVec.ofNat 64 c⟩
        else s
/-- Raise debug-step for every stepped lane of a mask whose instruction has completed (R288). -/
def debugAfter (s : State) (gid : Nat) (m : Mask) : State :=
  match groupOf s gid with
  | none => s
  | some g => (stepHits s g m).foldl (fun s h => stepOne s gid m h.1 h.2) s
/-- The debug-step that follows an instruction's own trap, once its lanes can issue again (R288). -/
def stepOwedStep (s : State) (g : Group) : Option State :=
  match g.stepOwed with
  | [] => none
  | m :: rest =>
    let hits := stepHits s g (m &&& g.live)
    if hits.isEmpty then some (setGroup s { g with stepOwed := rest })
    else match hits.find? (fun h => g.ents.any (fun e => unparked e && bitAt e.mask h.2) && !bitAt (handlerLanes g) h.2) with
      | some h => some (stepOne (setGroup s { g with stepOwed := rest }) g.gid m h.1 h.2)
      | none => none
/-- The same in every live lane of groups that have all moved on (R37, R47, R63). -/
def debugAll (s : State) (gs : List Group) : State :=
  gs.foldl (fun s h => match groupOf s h.gid with
    | some g => debugAfter s g.gid g.live
    | none => s) s

/-- Raise a cause of kind "after" in lanes that have just moved (R367): one raise for each entry that holds some, its
trap PC that entry's PC. -/
def raiseAfter (s : State) (gid : Nat) (m : Mask) (c : Cause) (xinfo : DWord) : State :=
  match groupOf s gid with
  | none => s
  | some g => (g.ents.filter (fun x => unparked x && x.mask &&& m != 0)).foldl
      (fun s x => raise s gid x.prio x.pc ⟨x.mask &&& m, c, x.pc, xinfo⟩) s

/-- The break of R289 applies again to the lanes of a mask that have left the PC. -/
def leavePc (s : State) (gid : Nat) (pc : DWord) (m : Mask) : State :=
  modGroup s gid (fun g =>
    let gone := minus m ((g.ents.filter (fun x => x.pc == pc)).foldl (fun a x => a ||| x.mask) 0)
    { g with brkSkip := (g.brkSkip.map (fun k => if k.1 == pc then (k.1, minus k.2 gone) else k)).filter (fun k => k.2 != 0) })

/-- A parked or waiting entry's instruction completes: its lanes move to PC + 4 (R28) with what is left of its stall count
(R148); a shadow's report and a debug step follow (R399, R288). What the lanes waited for may have come from beyond the core, whose
L1 keeps no older line (R292). -/
def unpark (s : State) (gid : Nat) (e : Ent) : State :=
  let s := match groupOf s gid with
    | some g => dropStale s g.core
    | none => s
  let s := moveLanes s gid e.prio [(e.pc + 4, e.mask)] e.stall .ready
  let s := leavePc s gid e.pc e.mask
  let s := match e.st with
    | .parked p => if p.bad == 0 then s else raiseAfter s gid (e.mask &&& p.bad) 0x182 0
    | _ => s
  debugAfter s gid e.mask

/-! ## Cross-lane operations -/

/-- Entries of a group parked at one cross-lane operation. -/
def crossEnts (g : Group) (i : Instr) (pc : DWord) (m : Mask) : List Ent :=
  g.ents.filter (fun e => match e.st with
    | .parked p => p.i == i && e.pc == pc && p.mem == m
    | _ => false)
/-- The lanes of entries. -/
def entsMask (es : List Ent) : Mask := es.foldl (fun m e => m ||| e.mask) 0
/-- VWB as it stood when a parked instruction that keeps it issued, which named its registers (R96): a cross-lane operation, or QPOP. -/
def vwbAt (g : Group) (e : Ent) : Nat := match e.st with
  | .parked p => if (crossOpt p.i).isSome then p.num else ((p.vals.headD (0, 0, 0)).2.1).toNat
  | _ => g.vwb
/-- The values entries contributed, lane by lane. -/
def entsVals (es : List Ent) : List (Nat × Word × Word) := (es.map (fun e => match e.st with
  | .parked p => p.vals
  | _ => [])).flatten
/-- A lane's contribution. -/
def valOf (vals : List (Nat × Word × Word)) (l : Nat) : Option (Word × Word) := (vals.find? (fun v => v.1 == l)).map (·.2)

/-- The a of each position of M, ended members taking the identity (R199). -/
def memberVals (vals : List (Nat × Word × Word)) (m : Mask) (ident : Word) : List (Nat × Word) :=
  (lanesOf m).map (fun l => (l, match valOf vals l with
    | some v => v.1
    | none => ident))
/-- Fold a non-empty list. -/
def foldOp (f : Word → Word → Word) (ident : Word) (xs : List Word) : Word := xs.foldl f ident
/-- Signed order. -/
def minS (a b : Word) : Word := if a.toInt ≤ b.toInt then a else b
/-- Signed order. -/
def maxS (a b : Word) : Word := if a.toInt ≤ b.toInt then b else a
/-- Unsigned order. -/
def minU (a b : Word) : Word := if a.toNat ≤ b.toNat then a else b
/-- Unsigned order. -/
def maxU (a b : Word) : Word := if a.toNat ≤ b.toNat then b else a
/-- MinF and MaxF on words (R134). -/
def minMax32 (max p : Bool) (a b : Word) : Word := BitVec.ofNat 32 (minMaxCode fp32 max p a.toNat b.toNat)

/-- Prefix sums (R201): the list of running values after each element. -/
def scanList (f : Word → Word → Word) : Word → List Word → List Word
  | _, [] => []
  | acc, x :: xs => f acc x :: scanList f (f acc x) xs
/-- SCAN.FADD starts from the first value itself (R201), a NaN made canonical (R118, R133). -/
def scanF : List Word → List Word
  | [] => []
  | x :: xs => canon32 x :: scanList add32 x xs

/-- Some position's value is nonzero. -/
def anyNz (xs : List (Nat × Word)) : Bool := xs.any (fun p => p.2 != 0)

/-- The result of a reduction over the members of M (R201, R136): identity of .OPT and combining function; a NaN that a lone
member gives is made canonical (R118). DESIGN CHOICE (log entry 88): FRED.MIN and FRED.MAX follow the tree of R136 also where a member
is a signalling NaN, so that a number can be the result. -/
def redResult (i : Instr) (vals : List (Nat × Word × Word)) (m : Mask) : Option Word :=
  let xs := fun ident => (memberVals vals m ident).map (·.2)
  match i with
  | .redAdd _ _ _ _ => some (foldOp (· + ·) 0 (xs 0))
  | .redMinS _ _ _ _ => some (foldOp minS 0x7FFFFFFF (xs 0x7FFFFFFF))
  | .redMinU _ _ _ _ => some (foldOp minU 0xFFFFFFFF (xs 0xFFFFFFFF))
  | .redMaxS _ _ _ _ => some (foldOp maxS 0x80000000 (xs 0x80000000))
  | .redMaxU _ _ _ _ => some (foldOp maxU 0 (xs 0))
  | .redAnd _ _ _ _ => some (foldOp (· &&& ·) 0xFFFFFFFF (xs 0xFFFFFFFF))
  | .redOr _ _ _ _ => some (foldOp (· ||| ·) 0 (xs 0))
  | .redXor _ _ _ _ => some (foldOp (· ^^^ ·) 0 (xs 0))
  | .fredAdd _ _ _ _ => some (canon32 (treeFold add32 8 (xs 0x80000000)))
  | .fredMin _ _ _ _ => some (canon32 (treeFold (minMax32 false false) 8 (xs 0x7F800000)))
  | .fredMinp _ _ _ _ => some (canon32 (treeFold (minMax32 false true) 8 (xs 0x7F800000)))
  | .fredMax _ _ _ _ => some (canon32 (treeFold (minMax32 true false) 8 (xs 0xFF800000)))
  | .fredMaxp _ _ _ _ => some (canon32 (treeFold (minMax32 true true) 8 (xs 0xFF800000)))
  | .voteAny _ _ _ _ => some (if anyNz (memberVals vals m 0) then 1 else 0)
  | .voteAll _ _ _ _ => some (if (memberVals vals m 1).all (fun p => p.2 != 0) then 1 else 0)
  | _ => none

/-- A signalling NaN among the operands of FRED or SCAN.FADD (R133, R201). -/
def crossSnan (i : Instr) (vals : List (Nat × Word × Word)) : Bool :=
  let any := vals.any (fun v => isSnan (dec32 v.2.1))
  match i with
  | .fredAdd _ _ _ _ => any
  | .fredMin _ _ _ _ => any
  | .fredMinp _ _ _ _ => any
  | .fredMax _ _ _ _ => any
  | .fredMaxp _ _ _ _ => any
  | .scanFadd _ _ _ _ => any
  | _ => false

/-- The writes of a completed operation, whose live members are `live`, to the lanes `dst` of one of its entries (R199, R201). -/
def crossWrites (g : Group) (i : Instr) (vals : List (Nat × Word × Word)) (m live dst : Mask) : List PWrite :=
  let one := fun (d : RegName) (f : Nat → DWord) => [(⟨dstOf g d 0, dst, valsFor d dst f, none, 0⟩ : PWrite)]
  let scan := fun (d : RegName) (ident : Word) (f : List Word → List Word) =>
    let xs := memberVals vals m ident
    let rs : List (Nat × Word) := (xs.map (fun (x : Nat × Word) => x.1)).zip (f (xs.map (fun (x : Nat × Word) => x.2)))
    one d (fun l => (((rs.find? (fun (r : Nat × Word) => r.1 == l)).map (fun (r : Nat × Word) => r.2)).getD 0).setWidth 64)
  match i with
  | .shfl _ _ d _ _ =>
    one d (fun l =>
      let own := (valOf vals l).getD (0, 0)
      let src := own.2.toNat % g.width
      (if bitAt m src then ((valOf vals src).map (·.1)).getD own.1 else own.1).setWidth 64)
  | .bcast _ _ d _ _ =>
    let b := ((vals.headD (0, 0, 0)).2).2
    let v := ((valOf vals (b.toNat % g.width)).map (·.1)).getD 0
    one d (fun _ => v.setWidth 64)
  | .matchLanes _ _ d _ =>
    let grp := fun l => maskWhere (fun j => bitAt live j && (valOf vals j).map (·.1) == (valOf vals l).map (·.1))
    [⟨dstOf g d 0, dst, valsFor d dst (fun l => (loWord (grp l)).setWidth 64), none, 0⟩,
     ⟨dstOf g d 1, dst, valsFor d dst (fun l => (hiWord (grp l)).setWidth 64), none, 0⟩]
  | .scanAdd _ _ d _ => scan d 0 (scanList (· + ·) 0)
  | .scanXadd _ _ d _ => scan d 0 (fun xs => 0 :: scanList (· + ·) 0 xs)
  | .scanFadd _ _ d _ => scan d 0x80000000 scanF
  | .redAdd _ _ d _ => one d (fun _ => ((redResult i vals m).getD 0).setWidth 64)
  | .redMinS _ _ d _ => one d (fun _ => ((redResult i vals m).getD 0).setWidth 64)
  | .redMinU _ _ d _ => one d (fun _ => ((redResult i vals m).getD 0).setWidth 64)
  | .redMaxS _ _ d _ => one d (fun _ => ((redResult i vals m).getD 0).setWidth 64)
  | .redMaxU _ _ d _ => one d (fun _ => ((redResult i vals m).getD 0).setWidth 64)
  | .redAnd _ _ d _ => one d (fun _ => ((redResult i vals m).getD 0).setWidth 64)
  | .redOr _ _ d _ => one d (fun _ => ((redResult i vals m).getD 0).setWidth 64)
  | .redXor _ _ d _ => one d (fun _ => ((redResult i vals m).getD 0).setWidth 64)
  | .fredAdd _ _ d _ => one d (fun _ => ((redResult i vals m).getD 0).setWidth 64)
  | .fredMin _ _ d _ => one d (fun _ => ((redResult i vals m).getD 0).setWidth 64)
  | .fredMinp _ _ d _ => one d (fun _ => ((redResult i vals m).getD 0).setWidth 64)
  | .fredMax _ _ d _ => one d (fun _ => ((redResult i vals m).getD 0).setWidth 64)
  | .fredMaxp _ _ d _ => one d (fun _ => ((redResult i vals m).getD 0).setWidth 64)
  | .voteAny _ _ d _ => one d (fun _ => ((redResult i vals m).getD 0).setWidth 64)
  | .voteAll _ _ d _ => one d (fun _ => ((redResult i vals m).getD 0).setWidth 64)
  | _ => []

/-- One cause in all the entries of a list together: one trap, with every lane of theirs (R47, R369). -/
def raiseAll1 (s : State) (gid : Nat) (es : List Ent) (c : Cause) (xinfo : DWord) : State :=
  let F := es.foldl (fun m e => m ||| e.mask) 0
  modGroup s gid (fun g => { g with ents := g.ents.map (fun e => if es.contains e then { e with st := .pending ⟨F, c, e.pc, xinfo⟩ } else e) })
/-- Every entry of a list raises a cause with its own lanes (R390). -/
def raiseEach (s : State) (gid : Nat) (es : List Ent) (c : Cause) (xinfo : DWord) : State :=
  es.foldl (fun s e => raise s gid e.prio e.pc ⟨e.mask, c, e.pc, xinfo⟩) s

/-- The first cross-lane operation of a group that completes, or is left by a member under .REQ (R199). -/
def crossStep (s : State) (g : Group) : Option State :=
  (g.ents.filterMap (fun e => match e.st with
    | .parked p =>
      match crossOpt p.i with
      | none => none
      | some opt =>
        let es := crossEnts g p.i e.pc p.mem
        let arrived := entsMask es
        let ended := minus p.mem g.live
        if ended ≠ 0 ∧ !opt then some (raiseEach s g.gid es 0x080 0)
        else if minus (p.mem &&& g.live) arrived = 0 then
          let vals := entsVals es
          let live := p.mem &&& g.live
          let s := es.foldl (fun s x => (crossWrites { g with vwb := vwbAt g x } p.i vals p.mem live (x.mask &&& live)).foldl
            (fun s w => writeNow s g.gid w) s) s
          let s := if opt then writeNow s g.gid ⟨.m 0, lowMask 64, [(0, live)], none, 0⟩ else s
          let s := es.foldl (fun s e => unpark s g.gid e) s
          some (if crossSnan p.i vals then raiseAfter s g.gid live 0x100 0 else s)
        else none
    | _ => none)).head?

/-- A group in which nothing can issue: no entry Ready, Stalled or Deferred; none held, none with a cause pending, and
no local trap open (R200, R391). -/
def stuck (g : Group) : Bool :=
  g.ltrap.isNone && g.ents.all (fun e => match e.st with
    | .parked _ => true
    | _ => false)

/-- Lane-mismatch within a group (R200). -/
def mismatchStep (s : State) (g : Group) : Option State :=
  if !stuck g then none
  else
    let cross := g.ents.filter (fun e => match e.st with
      | .parked p => (crossOpt p.i).isSome
      | _ => false)
    let bad := cross.any (fun e => match e.st with
      | .parked p => cross.any (fun f => f.pc != e.pc && p.mem &&& f.mask != 0)
      | _ => false)
    if bad then some (raiseEach s g.gid cross 0x081 0) else none

/-! ## Barriers -/

/-- Home cells of lanes: one identity for the life of a lane's position (R52). -/
def cellsOf (g : Group) (m : Mask) : List Nat := (lanesOf m).map (fun l => rfCell g l 0)
/-- The groups a barrier object counts (R203). -/
def barGroups (s : State) (tid : Nat) (b : Bar) : List Group :=
  s.groups.filter (fun g => g.team == tid && (b.role == 2 || b.role == (if g.consumer then 1 else 0)) &&
    (b.frame == 0 || g.path.contains (b.frame, b.callee)))
/-- Same object. -/
def sameBar (a b : Bar) : Bool := a.frame == b.frame && a.callee == b.callee && a.role == b.role && a.num == b.num
/-- The object a barrier number names, or the cause it raises (R56). -/
def barName (s : State) (g : Group) (n : Nat) : Except Cause Bar :=
  match teamOf s g.team with
  | none => .error 0x001
  | some t =>
    let (f, j, base, cnt) := barRange t g
    if cnt ≤ n then .error 0x001
    else
      let id := base + n
      let wide := t.twbar.getLsbD id
      if wide && f ≠ 0 then .error 0x096
      else .ok ⟨f, j, if wide then 2 else if g.consumer then 1 else 0, id, 0, [], [], []⟩
/-- The object as it stands; an object never used is in its initial state (R203). -/
def barOf (s : State) (tid : Nat) (k : Bar) : Bar :=
  match teamOf s tid with
  | none => k
  | some t => (t.bars.find? (sameBar k)).getD k
/-- Store an object. -/
def setBar (s : State) (tid : Nat) (b : Bar) : State :=
  modTeam s tid (fun t => { t with bars := if t.bars.any (sameBar b) then replFirst (sameBar b) b t.bars else t.bars ++ [b] })
/-- Every member of the expected set has arrived (R205). -/
def barFull (s : State) (tid : Nat) (b : Bar) : Bool :=
  let cells := ((barGroups s tid b).map (fun g => cellsOf g g.live)).flatten
  !cells.isEmpty && b.ops.isEmpty && cells.all (fun c => b.arrived.contains c)
/-- The first object of a team whose phase completes (R205). -/
def barStep (s : State) (t : Team) : Option State :=
  (t.bars.filterMap (fun b => if barFull s t.tid b then
      some (setBar s t.tid { b with phase := b.phase + 1, arrived := [] })
    else none)).head?
/-- The first barrier wait of a group that is over (R204), with its edge (R206). -/
def barWaitStep (s : State) (g : Group) : Option State :=
  (g.ents.filterMap (fun e => match e.st with
    | .parked p =>
      let go := fun (n : Nat) (past : Bar → Bool) =>
        match barName s g n with
        | .error _ => none
        | .ok k =>
          let b := barOf s g.team k
          if past b then some (unpark (addDeps s g.gid e.mask (b.before.filter (fun i => s.ops.any (·.id == i))) false) g.gid e)
          else none
      (match p.i with
        | .barWait _ n _ => go n.toNat (fun b => (p.vals.filter (fun v => bitAt e.mask v.1)).all (fun v => v.2.1 != b.phase))
        | .barSync _ n => go n.toNat (fun b => b.phase.toNat != p.num)
        | _ => none)
    | _ => none)).head?
/-- An asynchronous operation arrives on its barrier (R203). -/
def opArrive (s : State) (tid op : Nat) : State :=
  modTeam s tid (fun t => { t with bars := t.bars.map (fun b => { b with ops := delNat op b.ops }) })

/-! ## Hand-off queues and handles -/

/-- A declared queue of a team: depth and entries (R34). -/
def queueOf (s : State) (tid q : Nat) : Option (Nat × List QEntry) := match teamOf s tid with
  | some t => (t.queues.find? (fun x => x.1 == q)).map (·.2)
  | none => none
/-- Replace the entries of a queue. DESIGN CHOICE (log entry 81): the spec gives no layout of the queue area, and the entries are no
bytes of the scratchpad. -/
def setQueue (s : State) (tid q : Nat) (es : List QEntry) : State :=
  modTeam s tid (fun t => { t with queues := t.queues.map (fun x => if x.1 == q then (x.1, x.2.1, es) else x) })
/-- The entry a QPUSH appends (R230): words of the active positions, zero elsewhere. -/
def pushEntry (s : State) (g : Group) (m : Mask) (vals : List (Nat × Word × Word)) : QEntry :=
  ⟨(List.range g.width).map (fun i => match vals.find? (fun v => v.1 == i) with
    | some v => v.2.1
    | none => 0), m, undone s g.gid m⟩
/-- What a QPOP delivers (R231, R36): words in the active lanes, the whole mask, and the pushers' accesses first. -/
def popTo (s : State) (g : Group) (e : Ent) (d : RegName) (md : Nat) (x : QEntry) : State :=
  let m := e.mask
  let s := writeNow s g.gid ⟨dstOf { g with vwb := vwbAt g e } d 0, m, valsFor d m (fun l => (x.words.getD l 0).setWidth 64), none, 0⟩
  let s := writeNow s g.gid ⟨.m md, lowMask 64, [(0, x.mask)], none, 0⟩
  addDeps s g.gid (lowMask 64) (x.before.filter (fun i => s.ops.any (·.id == i))) false
/-- Entries of a team parked at a queue instruction of one queue, with their groups, in the order they parked. -/
def queueWaiters (s : State) (tid : Nat) (k : Instr → Option Nat) (q : Nat) : List (Group × Ent × Park) :=
  sortBy (fun a b : Group × Ent × Park => a.2.2.num < b.2.2.num)
    (((s.groups.filter (fun g => g.team == tid)).map (fun g => g.ents.filterMap (fun e => match e.st with
      | .parked p => if k p.i == some q then some (g, e, p) else none
      | _ => none))).flatten)
/-- The queue a QPUSH names. -/
def pushQueue : Instr → Option Nat
  | .qpush _ q _ => some q.toNat
  | _ => none
/-- The queue a QPOP names. -/
def popQueue : Instr → Option Nat
  | .qpop _ _ _ q => some q.toNat
  | _ => none
/-- The first parked QPUSH or QPOP of a team that can be performed (R35). -/
def queueStep (s : State) (t : Team) : Option State :=
  (t.queues.filterMap (fun q =>
    match queueWaiters s t.tid pushQueue q.1, queueWaiters s t.tid popQueue q.1 with
    | (g, e, p) :: _, pops =>
      if q.2.2.length < q.2.1 then
        let s := markRegs s g.gid e.mask
        some (unpark (setQueue s t.tid q.1 (q.2.2 ++ [pushEntry s g e.mask p.vals])) g.gid e)
      else match pops, q.2.2 with
        | (h, f, r) :: _, x :: xs => (match r.i with
          | .qpop _ d m _ => some (unpark (popTo (setQueue s t.tid q.1 xs) h f d m.toNat x) h.gid f)
          | _ => none)
        | _, _ => none
    | [], (h, f, r) :: _ => (match q.2.2, r.i with
        | x :: xs, .qpop _ d m _ => some (unpark (popTo (setQueue s t.tid q.1 xs) h f d m.toNat x) h.gid f)
        | _, _ => none)
    | [], [] => none)).head?

/-- The state of a handle register (R101): Idle when it names nothing. -/
def handleSt (s : State) (g : Group) (h : Nat) : AState := match aopOf s (readH g h) with
  | some o => o.st
  | none => .idle
/-- The cause that a collective broken, agreeing or agreed raises at an HWAIT on its POST handle (R434). -/
def postBroken (s : State) (g : Group) (h : Nat) : Option Cause :=
  match s.binds.find? (fun b => b.post == readH g h && readH g h != 0) with
  | none => none
  | some b => match b.st with
    | .broken c => some c
    | .agreeing c => some c
    | .agreed _ c => some c
    | _ => none
/-- HWAIT on a handle that is not Pending (R237): it completes; on Error the handle becomes Idle and the recorded cause is
raised in its lanes. -/
def hwaitDone (s : State) (g : Group) (e : Ent) (h : Nat) : State :=
  match handleSt s g h with
  | .error c x => raise (modGroup s g.gid (fun g => writeH g h 0)) g.gid e.prio e.pc ⟨e.mask, c, e.pc, x⟩
  | _ => moveLanes (dropStale s g.core) g.gid e.prio [(e.pc + 4, e.mask)] 0 .ready
/-- The first parked HWAIT of a group that is over. -/
def hwaitStep (s : State) (g : Group) : Option State :=
  (g.ents.filterMap (fun e => match e.st with
    | .parked p => (match p.i with
      | .hwait _ h => (match handleSt s g h.toNat with
        | .pending => (match postBroken s g h.toNat with
          | none => none
          | some c => some (raise s g.gid e.prio e.pc ⟨e.mask, c, e.pc, 0⟩))
        | .error _ _ => some (hwaitDone s g e h.toNat)
        | _ => some (unpark s g.gid e))
      | _ => none)
    | _ => none)).head?

/-! ## Collections: REGRP and TCALL -/

/-- The groups that run for a role where a group runs: of the role at depth 0, or of its sub-team (R46). -/
def scopeGroups (s : State) (g : Group) : List Group :=
  s.groups.filter (fun h => h.team == g.team && h.consumer == g.consumer && h.path == g.path)
/-- Every live lane of the role, or sub-team, nested ones included. -/
def scopeAll (s : State) (g : Group) : List Group :=
  s.groups.filter (fun h => h.team == g.team && h.consumer == g.consumer && (match g.path with
    | [] => true
    | p :: _ => h.path.contains p))
/-- Entries parked at an instruction of a kind. -/
def parkedAt (k : Instr → Bool) (g : Group) : List Ent := g.ents.filter (fun e => match e.st with
  | .parked p => k p.i
  | _ => false)
/-- REGRP. -/
def isRegrp : Instr → Bool
  | .regrp _ _ _ _ => true
  | _ => false
/-- TCALL. -/
def isTcall : Instr → Bool
  | .tcall _ _ _ _ => true
  | _ => false
/-- TRET. -/
def isTret : Instr → Bool
  | .tret _ => true
  | _ => false
/-- Groups in number order. -/
def byNum (gs : List Group) : List Group := sortBy (fun a b : Group => a.num < b.num) gs
/-- The one PC at which every live lane of the scope is parked at such an instruction, and the entry of its lowest lane. -/
def collected (k : Instr → Bool) (gs : List Group) : Option (Group × Ent) :=
  let live := byNum (gs.filter (fun g => g.live != 0))
  match live with
  | [] => none
  | g :: _ =>
    match sortBy (fun a b : Ent => lowest a.mask < lowest b.mask) (parkedAt k g) with
    | [] => none
    | e :: _ =>
      if live.all (fun h => h.ltrap.isNone && h.ents.all (fun x => x.pc == e.pc && (match x.st with
        | .parked p => k p.i
        | _ => false))) then some (g, e) else none
/-- The lowest priority among entries. -/
def lowPrio (es : List Ent) : Byte := es.foldl (fun p e => if e.prio < p then e.prio else p) 255
/-- Lane positions of groups in team lane index order (R18, R48). -/
def positions (gs : List Group) : List (Group × Nat) :=
  ((byNum gs).map (fun g => (List.range g.width).map (fun l => (g, l)))).flatten

/-- Does the collection that spans these groups stand at two PCs with nothing issuable (R391)? -/
def splitCollection (k : Instr → Bool) (gs : List Group) : Bool :=
  let es := (gs.map (parkedAt k)).flatten
  gs.all (fun g => g.live == 0 || stuck g) && es.any (fun e => es.any (fun f => f.pc != e.pc))
/-- Abandon it (R390). -/
def abandon (s : State) (k : Instr → Bool) (gs : List Group) : State :=
  gs.foldl (fun s g => raiseEach s g.gid (parkedAt k g) 0x081 0) s

/-- Fixed-latency writes of a role in flight when its lanes move: those to a register that moves go with their lanes, in effect after as
many opportunities as were left; every other stays at its position. `moves` are the lanes' old and new places. -/
def regroupPend (s : State) (gs : List Group) (moves : List ((Group × Nat) × (Group × Nat))) (regs : List Nat) (dst : Group) : List PWrite :=
  let moved := fun (g : Group) (w : PWrite) => match vecOf w.dst with
    | some r => regs.contains (r - g.vwb) && g.vwb ≤ r
    | none => false
  dst.pend.filter (fun w => !moved dst w) ++
  (gs.map (fun g => (g.pend.filter (moved g)).map (fun w =>
    let mine := moves.filter (fun p => p.1.1.gid == g.gid && p.2.1.gid == dst.gid && bitAt w.lanes p.1.2)
    let r := (vecOf w.dst).getD 0
    let val := fun (l : Nat) => if w.dst == .old r then (readRf s g l r).setWidth 64 else ((w.vals.find? (fun v => v.1 == l)).map (·.2)).getD 0
    { w with
      dst := .v (dst.vwb + (r - g.vwb)), lanes := mine.foldl (fun m p => m ||| bit1 p.2.2) 0,
      vals := mine.map (fun p => (p.2.2, val p.1.2)),
      due := w.due.map (fun t => dst.opp + (t - g.opp)) }))).flatten.filter (fun w => w.lanes != 0)
/-- The regrouping of R37 over the groups of a role. -/
def regroup (s : State) (gs : List Group) (e : Ent) (key first : RegName) (n : Nat) : State :=
  let ps := positions gs
  let lanes := ps.filter (fun p => bitAt p.1.live p.2)
  let sorted := sortBy (fun a b : Group × Nat => (readReg s a.1 a.2 key).toNat < (readReg s b.1 b.2 key).toNat) lanes
  let inRun := isV key && isV first && first.toNat ≤ key.toNat && key.toNat < first.toNat + n
  let prio := lowPrio ((gs.map (parkedAt isRegrp)).flatten)
  let s1 := (sorted.zip ps).foldl (fun t p =>
    let src := p.1
    let dst := p.2
    let t := (List.range n).foldl (fun t j =>
      writeRf t dst.1 dst.2 (dst.1.vwb + first.toNat + j) (readRegAt s src.1 src.2 first j)) t
    if inRun then t else writeRf t dst.1 dst.2 (dst.1.vwb + key.toNat) (readReg s src.1 src.2 key)) s
  let cellMap := (sorted.zip ps).map (fun p => (rfCell p.1.1 p.1.2 0, rfCell p.2.1 p.2.2 0))
  let before := (gs.map (fun g => undone s g.gid g.live)).flatten
  let count := sorted.length
  let s2 := gs.foldl (fun t g =>
    let live := maskWhere (fun l => l < g.width && ((ps.take count).any (fun p => p.1.gid == g.gid && p.2 == l)))
    let t := modGroup t g.gid (fun g' => { g' with
      live := live, ents := [], brkSkip := [], nrReplay := [], srReplay := [], owes := [],
      pend := regroupPend s gs (sorted.zip ps) (key.toNat :: (List.range n).map (fun j => first.toNat + j)) g' })
    let t := addDeps t g.gid (lowMask 64) before false
    if live = 0 then t
    else modGroup t g.gid (fun g' => { g' with
      ents := [⟨e.pc + 4, prioAt t g' (e.pc + 4) prio, live, 0, .ready⟩], owes := owesWord t g' [] (e.pc + 4, live) })) s1
  let s2 := debugAll s2 gs
  match gs with
  | [] => s2
  | g :: _ => modTeam s2 g.team (fun t => { t with bars := t.bars.map (fun b =>
      if b.frame = 0 then { b with arrived := b.arrived.map (fun c => ((cellMap.find? (fun m => m.1 == c)).map (·.2)).getD c) }
      else b) })

/-- REGRP completes for a role (R37), or is abandoned (R391). -/
def regrpStep (s : State) (g : Group) : Option State :=
  if g.path ≠ [] ∨ (parkedAt isRegrp g).isEmpty then none
  else
    let gs := scopeAll s g
    match collected isRegrp gs with
    | some (_, e) =>
      (match e.st with
        | .parked p => (match p.i with
          | .regrp _ k f c =>
            some (regroup s gs e k f c.toNat)
          | _ => none)
        | _ => none)
    | none => if splitCollection isRegrp gs then some (abandon s isRegrp gs) else none

/-! ## The team-call (03) -/

/-- An index with the largest value, the lowest index on ties, among those allowed. -/
def argMax (xs : List Nat) (ok : Nat → Bool) : Option Nat :=
  (natsWhere xs.length ok).foldl (fun best i => match best with
    | none => some i
    | some b => if xs.getD b 0 < xs.getD i 0 then some i else some b) none

/-- Raise one place at a time: the entries of E not yet raised with the largest key (R49). -/
def raiseMost (keys : List Nat) (e : List Nat) : Nat → List Nat → List Nat
  | 0, up => up
  | n + 1, up => match argMax keys (fun i => e.contains i && !up.contains i) with
    | some i => raiseMost keys e n (i :: up)
    | none => up

/-- Divide (R49). -/
def divide (n : Nat) (w : List Nat) : List Nat :=
  let e := natsWhere w.length (fun i => w.getD i 0 != 0)
  if n < e.length then
    let k := raiseMost w e n []
    (List.range w.length).map (fun i => if k.contains i then 1 else 0)
  else
    let tot := w.foldl (· + ·) 0
    let fl := (List.range w.length).map (fun i => if tot = 0 then 0 else n * w.getD i 0 / tot)
    let rem := (List.range w.length).map (fun i => if tot = 0 then 0 else n * w.getD i 0 % tot)
    let up := raiseMost rem e (n - fl.foldl (· + ·) 0) []
    (List.range w.length).map (fun i => fl.getD i 0 + (if up.contains i then 1 else 0))

/-- Carve (R57): base and count of each callee, or barrier-carve. -/
def carve (base cnt : Nat) (a : List Nat) : Option (List (Nat × Nat)) :=
  let m := (a.filter (· != 0)).length
  if cnt < 2 * m then none
  else
    let sh := divide (cnt - 2 * m) a
    let counts := (List.range a.length).map (fun j => if a.getD j 0 = 0 then 0 else 2 + sh.getD j 0)
    some ((List.range a.length).map (fun j => (base + (counts.take j).foldl (· + ·) 0, counts.getD j 0)))

/-- Octets of a role or sub-team in lane index order that hold a live lane (R48). -/
def countedOctets (gs : List Group) : List (Group × Octet) :=
  let all := ((byNum gs).map (fun g => g.octets.map (fun o => (g, o)))).flatten
  sortBy (fun a b : Group × Octet => a.2.index < b.2.index)
    (all.filter (fun p => (lanesOf p.1.live).any (fun l => p.2.pos ≤ l && l < p.2.pos + 8)))

/-- Which sub-team group an octet of a run goes into (R50): the lowest with its position free. -/
def placeOctet : List (List Nat) → Nat → Nat × List (List Nat)
  | [], pos => (0, [[pos]])
  | used :: rest, pos =>
    if used.contains pos then
      let (n, r) := placeOctet rest pos
      (n + 1, used :: r)
    else (0, (pos :: used) :: rest)
/-- Places for a run, in order. -/
def placeRun : List (Group × Octet) → List (List Nat) → List (Nat × Group × Octet)
  | [], _ => []
  | p :: ps, used =>
    let (n, used') := placeOctet used p.2.pos
    (n, p) :: placeRun ps used'

/-- Live lanes of an octet. -/
def octetLive (g : Group) (o : Octet) : Mask := g.live &&& maskWhere (fun l => o.pos ≤ l && l < o.pos + 8)

/-- The lanes of `src` that live at the same place in `dst` (R52). -/
def sameHome (src dst : Group) (m : Mask) : Mask :=
  m &&& maskWhere (fun l => bitAt m l && (octetOf dst l).isSome && rfCell src l 0 == rfCell dst l 0)
/-- Vector results that travel with their lanes when groups are formed or restored; a fixed-latency one takes effect after as
many opportunities of the new group as were left in the old. -/
def pendFor (srcs : List Group) (dst : Group) : List PWrite :=
  (srcs.map (fun g => (g.pend.map (fun w =>
    if (vecOf w.dst).isSome then { w with lanes := sameHome g dst w.lanes, due := w.due.map (fun t => dst.opp + (t - g.opp)) }
    else { w with lanes := 0 })).filter (fun w => w.lanes != 0))).flatten
/-- Deferred causes (R222) that travel with their lanes. -/
def deferredFor (srcs : List Group) (dst : Group) : List (Nat × Mask × Cause × DWord) :=
  (srcs.map (fun g => (g.deferred.map (fun d => (d.1, sameHome g dst d.2.1, d.2.2))).filter (fun d => d.2.1 != 0))).flatten

/-- FormSubTeam (R50-R53) for callee j: the sub-team's groups, numbered from `id`. -/
def formSubTeam (s : State) (fid j : Nat) (run : List (Group × Octet)) (target : DWord) (md : Nat) (ran : Mask) (id : Nat) :
    List Group :=
  let placed := placeRun run []
  let withQ := (List.range placed.length).zip placed
  let count := placed.foldl (fun n p => max n (p.1 + 1)) 0
  (List.range count).filterMap (fun n =>
    let mine := withQ.filter (fun p => p.2.1 == n)
    match mine with
    | [] => none
    | f :: _ =>
      let c := f.2.2.1
      let octs := mine.map (fun p => { p.2.2.2 with index := 8 * p.1 })
      let live := mine.foldl (fun m p => m ||| octetLive p.2.2.1 p.2.2.2) 0
      let g : Group := { c with
        gid := id + n, num := n, octets := octs, ord := c.ord ++ [j, n], path := (fid, j) :: c.path,
        m := mapSet 0 c.m md (ran &&& lowMask c.width), live := live, pend := [], opp := 0, ents := [],
        deps := c.deps, near := c.near, ltrap := none, loop := [], loopStale := false, engineWait := false, brkSkip := [], nrReplay := [],
        srReplay := [], srcnt0 := c.srcnt, deferred := [], ahead := [], owes := [], stepOwed := [] }
      let ps := mine.foldl (fun (ps : SMap Nat) p => (lanesOf (octetLive p.2.2.1 p.2.2.2)).foldl (fun ps l =>
        mapSet 0 ps l (mapGet 0 (lanePrios p.2.2.1 (bit1 l)) l)) ps) []
      let srcs := mine.map (fun p => p.2.2.1)
      let srcs := (List.range srcs.length).filterMap (fun i =>
        match srcs[i]? with
        | some h => if (srcs.take i).any (fun x => x.gid == h.gid) then none else some h
        | none => none)
      some { g with pend := pendFor srcs g, deferred := deferredFor srcs g, ents := placeByPrio s g [] target live ps 0,
                     owes := owesWord s g [] (target, live) })

/-- What a TCALL does at its collection (R47): the cause, or the new state. DESIGN CHOICE (log entry 82): a table in tensor or window
space is read without a cause of its own. -/
def teamCall (s : State) (gs : List Group) (g : Group) (e : Ent) (md : Nat) (addr : DWord) (n : Nat) :
    Except (Cause × DWord) State :=
  match translate s (.core g.core) g.ctxid g.kernel .load addr 64 with
  | .fault c => .error (c, addr)
  | .held _ => .ok s
  | .ok x =>
    let marked := fun (xs ys : List Nat) => match x.at_ with
      | .ctl a => xs.contains (a / 32) || xs.contains (a / 32 + 1)
      | .ten a => ys.contains (a / 32) || ys.contains (a / 32 + 1)
      | _ => false
    let away := match x.at_ with
      | .ctl a => ownedAway s (a / 64)
      | _ => false
    if away then .ok s
    else if marked s.ctlBad s.tenBad then .error (0x180, addr)
    else if marked s.ctlPoison s.tenPoison then .error (0x181, addr)
    else
    let s := fillT s (.core g.core) x.sectors
    let s := match x.at_ with
      | .ctl a => mergeBlend s (a / 64)
      | _ => s
    let bytes := placeBytes s x.at_ 64
    let ent := fun j => BitVec.ofNat 64 (leNat ((bytes.drop (8 * j)).take 8))
    let w := (List.range n).map (fun j => bitsOf (ent j) 56 8)
    if (List.range n).any (fun j => bitsOf (ent j) 49 7 != 0) || w.all (· == 0) then .error (0x091, 0)
    else
      let octs := countedOctets gs
      let a := divide octs.length w
      if (List.range n).any (fun j => (ent j).getLsbD 48 && a.getD j 0 == 0) then .error (0x094, 0)
      else match teamOf s g.team with
        | none => .ok s
        | some t =>
          if 8 ≤ t.frames.length then .error (0x092, 0)
          else
            let (_, _, base, cnt) := barRange t g
            match carve base cnt a with
            | none => .error (0x093, 0)
            | some bars =>
              let ran := maskWhere (fun j => a.getD j 0 != 0)
              let prio := lowPrio ((gs.map (parkedAt isTcall)).flatten)
              let (fid, s) := fresh s
              let runs := (List.range n).map (fun j => ((a.take j).foldl (· + ·) 0, a.getD j 0))
              let frame : Frame := {
                fid := fid, retPc := e.pc, prio := prio, consumer := g.consumer, parent := (g.path.head?).map (·.1),
                callers := gs.map (fun g => { g with ents := [], ahead := [], brkSkip := [], nrReplay := [], srReplay := [], owes := [] }), maskReg := md, runs := runs, bars := bars, ran := ran }
              let s := modTeam s g.team (fun t => { t with frames := t.frames ++ [frame] })
              let before := (gs.map (fun g => undone s g.gid (lowMask 64))).flatten
              let subs := (List.range n).foldl (fun (acc : List Group) j =>
                let r := runs.getD j (0, 0)
                let run := (octs.drop r.1).take r.2
                let target : DWord := BitVec.ofNat 64 (bitsOf (ent j) 0 48 * 4)
                acc ++ formSubTeam s fid j run target md ran (s.nextId + acc.length)) []
              let s := { s with nextId := s.nextId + subs.length,
                                groups := s.groups.filter (fun h => !gs.any (fun g => g.gid == h.gid)) ++ subs }
              .ok (debugAll (subs.foldl (fun s h => addDeps s h.gid (lowMask 64) before false) s) subs)

/-- What the table read of a TCALL that raises a cause leaves: the walk's, and a failed check marked (R90, R410). -/
def tableLeaves (s : State) (g : Group) (addr : DWord) : State :=
  match translate s (.core g.core) g.ctxid g.kernel .load addr 64 with
  | .ok x => (match x.at_ with
    | .ctl a => mergeBlend (markCtl (markCtl s a) (a + 32)) (a / 64)
    | .ten a => { s with tenBad := delNat (a / 32) (delNat (a / 32 + 1) s.tenBad),
                         tenPoison := insAll (s.tenBad.filter (fun w => w == a / 32 || w == a / 32 + 1)) s.tenPoison }
    | _ => s)
  | _ => faultLeaves s (.core g.core) g.ctxid addr 64
/-- No scoreboarded write to a uniform or mask register of a group is pending (R46, R59). -/
def noGroupWrites (g : Group) : Bool := g.pend.all (fun w => w.tok == 0 || (vecOf w.dst).isSome)

/-- TCALL is collected (R46, R47), or abandoned (R391). The table read comes at its place in the lowest lane's control
program order. DESIGN CHOICE: the table address is that of the lowest live group's entry with the lowest lane, read when the TCALL issued
(log entry 82), and fixed-latency results still in flight take effect at the collection (log entry 68). -/
def tcallStep (s : State) (g : Group) : Option State :=
  if (parkedAt isTcall g).isEmpty then none
  else
    let gs := scopeGroups s g
    match collected isTcall (scopeAll s g) with
    | some (g1, e) =>
      let low := lowest e.mask
      let waits := s.ops.any (fun o => o.gid == g1.gid && bitAt o.mask low && o.accs.any (fun a =>
        !a.done && a.lane == low && (match a.at_ with
          | .ctl _ => true
          | _ => false))) || edgesLeft s g1 (bit1 low)
      if !gs.all noGroupWrites || waits then none
      else
        let s := gs.foldl (fun s g => applyDue s g.gid true) s
        let gs := scopeGroups s g
        match e.st with
        | .parked p =>
          (match p.i with
            | .tcall _ m _ n =>
              let addr : DWord := match p.vals with
                | (_, a, b) :: _ => mkPair a b
                | [] => 0
              let g1' := (groupOf s g1.gid).getD g1
              (match teamCall s gs g1' e m.toNat addr (n.toNat + 1) with
                | .error (c, x) => some (gs.foldl (fun s g => raiseAll1 s g.gid (parkedAt isTcall g) c x) (tableLeaves s g1' addr))
                | .ok t => if t.nextId = s.nextId then none else some t)
            | _ => none)
        | _ => none
    | none =>
      if splitCollection isTcall (scopeAll s g) then some (abandon s isTcall (scopeAll s g)) else none

/-- A sub-team group has nothing left that its rejoin waits for (R59, R393): its handle operations, its scoreboarded
group writes, and its matrix operations that arrive on a carved barrier. -/
def tretClear (s : State) (g : Group) : Bool :=
  noGroupWrites g && g.h.all (fun p => match aopOf s p.2 with
    | some o => o.st != .pending
    | none => true) &&
  !s.aops.any (fun o => o.gid == g.gid && o.kind == .matrix && o.st == .pending && (match o.bar with
    | some b => b.1 != 0
    | none => false))
/-- A group of callee j of a frame is done (R60, R393). -/
def tretDone (s : State) (fid j : Nat) (g : Group) : Bool :=
  (g.live == 0 || (g.path.head? == some (fid, j) && g.ltrap.isNone && g.ents.all (fun e => match e.st with
    | .parked p => isTret p.i
    | _ => false))) && tretClear s g
/-- Every callee is returned (R60). -/
def frameDone (s : State) (t : Team) (f : Frame) : Bool :=
  (s.groups.filter (fun g => g.team == t.tid && g.path.any (fun p => p.1 == f.fid))).all
    (fun g => (natsWhere 8 (fun j => g.path.contains (f.fid, j))).all (fun j => tretDone s f.fid j g)) &&
  !t.frames.any (fun x => x.parent == some f.fid)

/-- Rejoin (R63, R131). DESIGN CHOICE (log entry 83): a team-wide identifier, which another role may have used meanwhile, names its
object as that now stands (R57). -/
def rejoin (s : State) (t : Team) (f : Frame) : State :=
  let subs := s.groups.filter (fun g => g.team == t.tid && g.path.any (fun p => p.1 == f.fid))
  let before := (subs.map (fun g => undone s g.gid (lowMask 64))).flatten
  let liveCells := (subs.map (fun g => cellsOf g g.live)).flatten
  let back := f.callers.map (fun c =>
    let live := maskWhere (fun l => bitAt c.live l && liveCells.contains (rfCell c l 0))
    let adv := subs.foldl (fun n g => max n (g.srcnt - g.srcnt0).toNat) 0
    let c1 : Group := { c with live := live, srcnt := c.srcnt + BitVec.ofNat 32 adv,
                               m := mapSet 0 c.m f.maskReg (f.ran &&& lowMask c.width), loop := [],
                               pend := pendFor subs c, deferred := deferredFor subs c }
    { c1 with ents := (if live = 0 then [] else [⟨f.retPc + 4, prioAt s c1 (f.retPc + 4) f.prio, live, 0, .ready⟩]),
              owes := owesWord s c1 [] (f.retPc + 4, live) })
  let s := { s with
    groups := s.groups.filter (fun g => !subs.any (fun h => h.gid == g.gid)) ++ back,
    cores := (mapSet (Core.reset t.core) s.cores t.core
      (let c := coreOf s t.core
       { c with fifo := c.fifo.filter (fun w => !subs.any (fun h => h.gid == w.gid)),
                released := c.released || (match c.owner with
                  | some w => subs.any (fun h => h.gid == w.gid)
                  | none => false) })) }
  let s := modTeam s t.tid (fun t => { t with frames := t.frames.filter (fun x => x.fid != f.fid),
                                              bars := t.bars.filter (fun b => b.frame != f.fid) })
  debugAll (back.foldl (fun s c => addDeps s c.gid (lowMask 64) before false) s) back

/-- The first frame of a team that rejoins. -/
def rejoinStep (s : State) (t : Team) : Option State :=
  (t.frames.filterMap (fun f => if frameDone s t f then some (rejoin s t f) else none)).head?

/-! ## The matrix engine's owner (R244, R245) -/

/-- The engine passes to the FIFO head, be it a caller group in an open frame, once the releasing owner's operations have retired. -/
def handOn (s : State) (core : Nat) : Option State :=
  let c := coreOf s core
  let free := match c.owner with
    | none => !c.fifo.isEmpty
    | some w => c.released && !c.stream.any (fun o => o.gid == w.gid)
  if !free then none
  else match c.fifo with
    | [] => if c.owner.isSome then some (setCore s core { c with owner := none, released := false }) else none
    | w :: rest =>
      let s := setCore s core { c with owner := some w, released := false, fifo := rest }
      match groupOf s w.gid with
      | none => some { s with teams := s.teams.map (fun t => { t with frames := t.frames.map (fun f => { f with
          callers := f.callers.map (fun g => if g.gid == w.gid then { g with engineWait := false } else g) }) }) }
      | some g =>
        let s := setGroup s { g with engineWait := false }
        match g.ents.find? (fun e => match e.st with
          | .parked p => (match p.i with
            | .macq _ => true
            | _ => false)
          | _ => false) with
        | some e => some (unpark s g.gid e)
        | none => some s

/-! ## The end of groups and teams (R43) -/

/-- A group that ended or was saved leaves the engine (R245). -/
def leaveEngine (s : State) (core gid : Nat) : State :=
  modCore s core (fun c => { c with fifo := c.fifo.filter (fun w => w.gid != gid),
                                    released := c.released || (match c.owner with
                                      | some w => w.gid == gid
                                      | none => false) })
/-- A bundle position is given up; a bundle without members goes, with its rows (R311, R312). -/
def leaveBundle (s : State) (core gslot : Nat) : State :=
  modCore s core (fun c => { c with bundles :=
    (c.bundles.map (fun b => { b with members := b.members.filter (fun m => m.2 != gslot) })).filter (fun b => !b.members.isEmpty) })

/-- A collective chunk fires here (R337): a member's chunk that is Open and not yet fired. -/
def fireChunk (s : State) (ctx c idx : Nat) (after : List Nat) : State :=
  { s with binds := s.binds.map (fun b =>
      if b.ctx = ctx ∧ b.c = c ∧ b.st = .open_ then
        { b with chunks := (List.range b.chunks.length).zip b.chunks |>.map (fun p =>
            if p.1 = idx ∧ !p.2.fired then { p.2 with fired := true, after := after } else p.2) }
      else b) }
/-- What a team's exit fires (R337): its own chunk and those of teams it withdrew, of each binding of its launch with AUTO. -/
def fireAtExit (s : State) (t : Team) : State :=
  let after := (s.ops.filter (fun o => o.team == t.tid && o.kind != .result)).map (·.id) ++
    (s.aops.filter (fun o => o.team == t.tid && o.st == .pending && (match o.kind with
      | .copy _ _ => true
      | _ => false))).map (·.id)
  (s.binds.filter (fun b => b.ctx == t.ctx.toNat && b.grid == t.grid && b.auto && b.st == .open_)).foldl (fun s b =>
    (t.lin :: t.fetched).foldl (fun s l => fireChunk s b.ctx b.c l after) s) s

/-- A group ends: the operations its handles name stay its team's until they leave Pending (R197, R238). -/
def keepNamed (s : State) (g : Group) : State :=
  modTeam s g.team (fun t => { t with named := insAll ((g.h.map (·.2)).filter (fun i => s.aops.any (fun o => o.id == i && o.st == .pending))) t.named })
/-- The group owns the engine and has not released it, or waits for it. -/
def inEngine (s : State) (g : Group) : Bool :=
  let c := coreOf s g.core
  c.fifo.any (fun w => w.gid == g.gid) || (!c.released && (match c.owner with
    | some w => w.gid == g.gid
    | none => false))
/-- A depth-0 group with no live lane ends; a sub-team group whose last lane has ended leaves the engine (R43, R245). -/
def groupEndStep (s : State) (g : Group) : Option State :=
  if g.live ≠ 0 then none
  else if g.path = [] then
    let s := keepNamed s g
    some (leaveBundle (leaveEngine { s with groups := s.groups.filter (fun h => h.gid != g.gid) } g.core g.gid) g.core g.gslot)
  else if inEngine s g then some (leaveEngine s g.core g.gid)
  else none

/-- A team whose every lane has ended: its groups, frames and waits go (R43, R61), and its chunk fires (R337). -/
def teamEndStep (s : State) (t : Team) : Option State :=
  let gs := s.groups.filter (fun g => g.team == t.tid)
  if t.frames.isEmpty || gs.any (fun g => g.live != 0) then none
  else
    let callers := (t.frames.map (·.callers)).flatten
    let s := gs.foldl (fun s g => leaveEngine (keepNamed s g) g.core g.gid) s
    let s := callers.foldl (fun s g => leaveEngine (leaveBundle s g.core g.gslot) g.core g.gid) s
    some (modTeam { s with groups := s.groups.filter (fun g => g.team != t.tid) } t.tid (fun t => { t with frames := [] }))

/-- A team without groups that has not fired its chunk yet: marked by `alloc` groups gone; firing happens once, when the
last group goes. -/
def fireStep (s s' : State) (tid : Nat) : State :=
  match teamOf s' tid with
  | some t => if s.groups.any (fun g => g.team == tid) && !s'.groups.any (fun g => g.team == tid) then fireAtExit s' t else s'
  | none => s'

/-- The next thing that completes in a team, in the order of R381. -/
def settleOnce (s : State) (tid : Nat) : Option State :=
  match teamOf s tid with
  | none => none
  | some t =>
    let gs := s.groups.filter (fun g => g.team == tid)
    let first := fun (f : Group → Option State) => (gs.filterMap f).head?
    (first (fun g => match g.ltrap with
        | some l => if l.lanes &&& g.live = 0 then some (closeDeadTrap s g) else none
        | none => none)) <|>
    (first (groupEndStep s)) <|> (teamEndStep s t) <|> (first (crossStep s)) <|> (queueStep s t) <|>
    (first (hwaitStep s)) <|> (barStep s t) <|> (first (barWaitStep s)) <|>
    (first (regrpStep s)) <|> (first (tcallStep s)) <|> (rejoinStep s t) <|> (handOn s t.core) <|>
    (first (mismatchStep s)) <|> (first (stepOwedStep s)) <|>
    (first (fun g => (takeable s g).map (fun r =>
      takeTrap (pendingReady s g.gid r) g.gid r)))

/-- Let everything that completes in a team complete. -/
def settleN : Nat → State → Nat → State
  | 0, s, _ => s
  | n + 1, s, tid =>
    match settleOnce s tid with
    | none => s
    | some t => settleN n (fireStep s t tid) tid

/-- Issues that the cycle in progress of a team's core still has to make. -/
def issuesLeft (s : State) (tid : Nat) : Bool := match teamOf s tid with
  | some t => !(coreOf s t.core).issueq.isEmpty
  | none => false
/-- R381, R205: once every issue of its core's cycle has been made, exits and kills first, then completions, then traps, until
nothing more happens. -/
def settle (s : State) (tid : Nat) : State := if issuesLeft s tid then s else settleN 1000 s tid

end Sys2Proof.Machine
end

