-- ==== Sys2Proof/Machine/Issue.lean ====
section
/-! DEFINITION. One issue: the checks, the instruction's own effect, then what follows every instruction (the shadow's
report R399, the debug step R288), and the shapes that most instructions share: a result of fixed latency, a scoreboarded
result, and a move to PC + 4. -/

namespace Sys2Proof.Machine

/-! ## Addresses of an instruction (R212, R219) -/

/-- Bytes of an atomic's location (R220). -/
def atomSize (op : Nat) : Nat := if 11 ≤ op then 8 else 4
/-- Bytes a CADD adds to (R223). -/
def caddSize (f : Nat) : Nat := if f = 2 then 8 else 4
/-- The team-relative scratchpad offset of LDSP and STSP (R219). -/
def spadOff (s : State) (g : Group) (lane : Nat) (a b : RegName) : Nat :=
  ((readReg s g lane a).toNat + 4 * (readReg s g lane b).toNat) % 2 ^ 32
/-- The address a lane of a memory instruction names. -/
def memAddr (s : State) (g : Group) (lane : Nat) : Instr → Option DWord
  | .ld _ _ _ a b => some (laneAddr s g lane a b 4)
  | .ldB64 _ _ _ a b => some (laneAddr s g lane a b 8)
  | .ldB8 _ _ a b => some (laneAddr s g lane a b 1)
  | .ldB16 _ _ a b => some (laneAddr s g lane a b 2)
  | .ldNr _ _ _ a _ => some (laneAddr0 s g lane a)
  | .st _ _ _ a b => some (laneAddr s g lane a b 4)
  | .stB64 _ _ _ a b => some (laneAddr s g lane a b 8)
  | .stB8 _ _ a b => some (laneAddr s g lane a b 1)
  | .stB16 _ _ a b => some (laneAddr s g lane a b 2)
  | .atom _ _ a _ => some (laneAddr0 s g lane a)
  | .ratom _ _ a _ => some (laneAddr0 s g lane a)
  | .cadd _ _ a _ => some (laneAddr0 s g lane a)
  | .ldsp _ _ a b => some (BitVec.ofNat 64 (spadOff s g lane a b))
  | .stsp _ _ a b => some (BitVec.ofNat 64 (spadOff s g lane a b))
  | _ => none

/-! ## Shadow execution (R39, R209, R240, R290, R399) -/

/-- What a shadow compares: results and contributed values under EN; addresses and data under MEM. -/
inductive Shadowed where
  | no
  | value
  | memory
deriving DecidableEq, Repr

/-- Which part of an instruction a shadow covers (R209, R240, R290). -/
def shadowed : Instr → Shadowed
  | .ld _ _ _ _ _ => .memory
  | .ldB64 _ _ _ _ _ => .memory
  | .ldB8 _ _ _ _ => .memory
  | .ldB16 _ _ _ _ => .memory
  | .st _ _ _ _ _ => .memory
  | .stB64 _ _ _ _ _ => .memory
  | .stB8 _ _ _ _ => .memory
  | .stB16 _ _ _ _ => .memory
  | .ldsp _ _ _ _ => .memory
  | .stsp _ _ _ _ => .memory
  | .atom _ _ _ _ => .memory
  | .ratom _ _ _ _ => .memory
  | .cadd _ _ _ _ => .memory
  | .qpush _ _ _ => .memory
  | .blk _ _ => .no
  | .br _ _ => .no
  | .nop _ => .no
  | .yield _ => .no
  | .exit _ => .no
  | .barArrive _ _ _ => .no
  | .barWait _ _ _ => .no
  | .barSync _ _ => .no
  | .regrp _ _ _ _ => .no
  | .winb _ _ => .no
  | .tcall _ _ _ _ => .no
  | .tret _ => .no
  | .ldNr _ _ _ _ _ => .memory
  | .fence _ _ => .no
  | .fenceTc _ => .no
  | .fenceQ _ _ => .no
  | .pref _ _ _ => .no
  | .pgreq _ _ _ => .no
  | .qpop _ _ _ _ => .no
  | .copy _ _ _ _ => .no
  | .hwait _ _ => .no
  | .htest _ _ _ => .no
  | .hcancel _ _ => .no
  | .hexport _ _ _ => .no
  | .himport _ _ _ => .no
  | .macq _ => .no
  | .mrel _ => .no
  | .mma _ _ _ _ _ => .no
  | .mmaP _ _ _ _ _ => .no
  | .mzero _ _ => .no
  | .mloada _ _ _ => .no
  | .mstorea _ _ _ => .no
  | .collPost _ _ _ => .no
  | .collFire _ _ _ => .no
  | .collProg _ _ _ => .no
  | .collAgree _ _ _ => .no
  | .deq _ _ _ => .no
  | .enq _ _ _ => .no
  | .launch _ _ _ => .no
  | .wfetch _ _ _ => .no
  | .swr _ _ _ => .no
  | .trap _ _ => .no
  | .eret _ => .no
  | .icinv _ _ _ => .no
  | .isync _ => .no
  | .sleep _ _ => .no
  | .halt _ => .no
  | .ctxsave _ _ _ => .no
  | .ctxload _ _ _ => .no
  | _ => .value

/-- The register lane of a lane position (R31). -/
def regLane (g : Group) (lane : Nat) : Nat := match octetOf g lane with
  | some o => o.col + (lane - o.pos)
  | none => 64
/-- The active lanes of this issue whose shadow differs (R39): the first as many active register lanes as there are idle
ones have a shadow. -/
def shadowMiss (s : State) (g : Group) (i : Instr) (m : Mask) : Mask :=
  if s.shadowBad.isEmpty then 0
  else
    let sh := shadowOf s g
    let on := match shadowed i with
      | .no => false
      | .value => sh.getLsbD 0
      | .memory => sh.getLsbD 0 && sh.getLsbD 1
    if !on then 0
    else
      let act := lanesOf ((match s.sel with
        | some c => c.active
        | none => 0) ||| maskWhere (fun c => (lanesOf m).any (fun l => regLane g l == c)))
      let covered := act.take (64 - act.length)
      m &&& maskWhere (fun l => bitAt m l && covered.contains (regLane g l) && s.shadowBad.contains (regLane g l))

/-- Report a shadow mismatch: at once in the lanes that have moved on, later in those that are parked. -/
def reportShadow (s0 : State) (g0 : Group) (i : Instr) (miss : Mask) (s : State) : State :=
  let xinfo := match shadowed i with
    | .memory => (memAddr s0 g0 (lowest miss) i).getD 0
    | _ => 0
  let s := raiseAfter s g0.gid miss 0x182 xinfo
  modGroup { s with shadowBad := [] } g0.gid (fun g => { g with ents := g.ents.map (fun e => match e.st with
    | .parked p => if e.mask &&& miss == 0 then e else { e with st := .parked { p with bad := p.bad ||| (e.mask &&& miss) } }
    | _ => e) })

/-! ## Ready, Stalled and Deferred (R25, R29) -/

/-- Copies in flight on a core (R232): those whose elements are not all finished. -/
def copiesOn (s : State) (core : Nat) : Nat :=
  (s.aops.filter (fun o => o.core == core && o.st == .pending && (match o.kind with
    | .copy _ _ => true
    | _ => false))).length
/-- Operation slots in use on a core, of copies (0-63) or page requests (64-127): a slot stays held while its operation is
Pending, or exported and not imported (R239). -/
def slotsOn (s : State) (core : Nat) : List Nat :=
  (s.aops.filter (fun o => o.core == core && (o.st == .pending || o.exported.isSome))).filterMap (·.slot)
/-- The lowest free slot of a kind. -/
def freeSlot (s : State) (core : Nat) (pages : Bool) : Option Nat :=
  ((List.range 64).map (fun n => if pages then n + 64 else n)).find? (fun n => !(slotsOn s core).contains n)

/-- A read that the group's lanes make now comes after their earlier loads, atomics and CADDs, and after every edge
(R68, R302, R304). -/
def ownReadsDone (s : State) (g : Group) : Bool :=
  !s.ops.any (fun o => o.gid == g.gid && (match o.kind with
    | .load _ => true
    | .ldsp => true
    | .atom _ => true
    | .cadd _ => true
    | _ => false)) &&
  !edgesLeft s g (lowMask 64)

/-- The condition a Stalled entry waits for is over, so that its instruction may issue (R25). SLEEP, ICINV and a
collective's check end by steps of their own. -/
def stallOver (s : State) (g : Group) : Why → Bool
  | .sleep _ _ => false
  | .icinv _ _ _ _ _ => false
  | .aown => (coreOf s g.core).stream.isEmpty
  | .stream => decide ((coreOf s g.core).stream.length < 16)
  | .fifo => decide ((coreOf s g.core).fifo.length < 16)
  | .engine => !g.engineWait
  | .copies => decide (copiesOn s g.core < 64) && (freeSlot s g.core false).isSome
  | .pages => (freeSlot s g.core true).isSome
  | .workQueue q => decide ((wqOf s q).items.length < 512)
  | .coll => false
  | .ownStores => !s.ops.any (fun o => o.gid == g.gid && o.accs.any (fun a => !a.done) && (match o.kind with
    | .load _ => false
    | .ldsp => false
    | .result => false
    | .ratom _ _ => false
    | _ => true))
  | .ownLoads => ownReadsDone s g
  | .walk x => homeState s (x * 64) == some (.fault 0x183) ||
    (!s.heldWrites.any (fun h => h.sector == x) && (homeState s (x * 64) != some (.held x)) && !walkAway s x)
  | .order ids => !ids.any (fun i => s.ops.any (·.id == i) || s.aops.any (fun o => o.id == i && aopLive o))

/-- An entry is Ready (R25): unparked, or to be issued again after a forced save (R315), not deferred, its stall count over, and no scoreboarded register awaited by the
instruction it issues next. -/
def readyEnt (s : State) (g : Group) (e : Ent) : Bool :=
  e.stall == 0 && (match e.st with
    | .ready => true
    | .undone => true
    | .stalled w => stallOver s g w
    | _ => false) &&
  (match fetchWord s g e.pc with
    | .fault _ => true
    | .held _ => false
    | .word w _ _ => match decode w with
      | .ok i => !busy s g i e
      | _ => true)

/-- A deferral is over (R29): the awaited entries have issued, parked or gone; or 64 opportunities have passed; or no
other entry is Ready. -/
def deferOver (s : State) (g : Group) (e : Ent) : Bool :=
  match e.st with
  | .deferred left wait =>
    left == 0 || !(wait.any (fun k => g.ents.any (fun x => unparked x && x.pc == k.1 && x.prio == k.2))) ||
      !(g.ents.any (fun x => x != e && readyEnt s g x))
  | _ => false

/-- The keys of the entries that are Ready, other than one. -/
def readyKeys (s : State) (g : Group) (e : Ent) : List (DWord × Byte) :=
  (g.ents.filter (fun x => x != e && readyEnt s g x)).map (fun x => (x.pc, x.prio))

/-- Those that were Ready when the issue in progress was chosen (R29). -/
def readyWith (s : State) : List (DWord × Byte) := match s.sel with
  | some c => c.ready
  | none => []

/-! ## The issue -/

/-- What an instruction leaves: it completed and nothing else can have become due; it completed or parked, and waits
are to be looked at; or it did not issue, and its entry stays at its PC. -/
inductive Fate where
  | quiet
  | loud
  | stay
deriving DecidableEq, Repr

/-- What follows an instruction's own effect. -/
def finish (i : Instr) (s : State) (g : Group) (e : Ent) (bad : Bool) (r : State × Fate) : State :=
  match r.2 with
  | .stay => if bad then settle r.1 g.team else r.1
  | fate =>
    let miss := shadowMiss s g i e.mask
    let t := if g.brkSkip.isEmpty then r.1 else leavePc r.1 g.gid e.pc e.mask
    if fate == .quiet && !bad && miss == 0 && (stepHit t g e.mask).isNone then t
    else
      let t := if miss == 0 then t else reportShadow s g i miss t
      settle (debugAfter t g.gid e.mask) g.team

/-- Settle the team of a group. -/
def settleOf (s : State) (gid : Nat) : State := match groupOf s gid with
  | some g => settle s g.team
  | none => s

/-- One issue of an instruction that is told which lanes read a poisoned register (R411). -/
def issueWith (i : Instr) (s : State) (k : State → Group → Ent → Mask → State × Fate) :
    Host.Outcome State Fault Refusal :=
  match precheck i i.wf s with
  | .stop => .next s
  | .trap t gid => .next (settleOf t gid)
  | .go t g e bad => .next (finish i t g e (bad != 0) (k t g e bad))

/-- Lanes of one issue that are not performed take one trap, with the cause of the lowest of them (R368). -/
def oneTrap (s : State) (gid : Nat) (e : Ent) : State :=
  match groupOf s gid with
  | none => s
  | some g =>
    let mine := g.ents.filter (fun x => x.prio == e.prio && minus x.mask e.mask == 0 && (match x.st with
      | .pending r => r.tpc == e.pc && x.pc == e.pc && r.lanes == x.mask
      | _ => false))
    if mine.length < 2 then s
    else
      let F := mine.foldl (fun m x => m ||| x.mask) 0
      match mine.find? (fun x => bitAt x.mask (lowest F)) with
      | none => s
      | some x => match x.st with
        | .pending r => setGroup s { g with ents := g.ents.filter (fun y => !mine.contains y) ++
            [⟨e.pc, e.prio, F, 0, .pending { r with lanes := F }⟩] }
        | _ => s
/-- Lanes with a poisoned register raise poisoned and are not performed; the others go on (R367, R411), but for those that have a cause
of their own (R368). -/
def splitBad (i : Instr) (k : State → Group → Ent → Mask → State × Fate) (s : State) (g : Group) (e : Ent) (bad : Mask) : State × Fate :=
  if bad == 0 then k s g e 0
  else
    let t := raise s g.gid e.prio e.pc ⟨bad, 0x181, e.pc, 0⟩
    let e' := { e with mask := minus e.mask bad }
    let t := if drawsRandom s g i && e'.mask == 0 then modGroup t g.gid (fun h => srTrapped h e.pc bad) else t
    match groupOf t g.gid with
    | some g' => if e'.mask == 0 then (t, .loud) else
        let r := k t g' e' bad
        (oneTrap r.1 g.gid e, r.2)
    | none => (t, .loud)
/-- One issue of an instruction whose lanes act apart. -/
def issue (i : Instr) (s : State) (k : State → Group → Ent → State × Fate) : Host.Outcome State Fault Refusal :=
  issueWith i s (splitBad i (fun t g e _ => k t g e))

/-! ## Shapes -/

/-- The lanes of an entry move to PC + 4, skipping S opportunities (R27, R148). -/
def moveOn (s : State) (g : Group) (e : Ent) (S : BitVec 3) : State :=
  moveLanes s g.gid e.prio [(e.pc + 4, e.mask)] S.toNat .ready

/-- Push several writes. -/
def pushAll (s : State) (gid : Nat) (ws : List PWrite) : State := ws.foldl (fun s w => pushWrite s gid w) s

/-- A fixed-latency result in one register (R149). -/
def fixed1 (S : BitVec 3) (d : RegName) (dist : Nat) (f : State → Group → Nat → Word) :
    State → Group → Ent → State × Fate :=
  fun s g e => (moveOn (pushWrite s g.gid (fixedWrite g d 0 e.mask dist (fun l => (f s g l).setWidth 64))) g e S, .quiet)

/-- A fixed-latency result in a pair. -/
def fixed2 (S : BitVec 3) (d : RegName) (dist : Nat) (f : State → Group → Nat → DWord) :
    State → Group → Ent → State × Fate :=
  fun s g e =>
    (moveOn (pushAll s g.gid
      [fixedWrite g d 0 e.mask dist (fun l => (loWord (f s g l)).setWidth 64),
       fixedWrite g d 1 e.mask dist (fun l => (hiWord (f s g l)).setWidth 64)]) g e S, .quiet)

/-- The lanes of a mask that satisfy a condition. -/
def lanesWhere (m : Mask) (p : Nat → Bool) : Mask := m &&& maskWhere (fun l => bitAt m l && p l)

/-- After the results: fp-invalid when a lane has a signalling NaN operand (R133). Every lane of the entry has the same next
PC, so all of them are in F (R367). -/
def fpInvalid (s : State) (g : Group) (m : Mask) (sn : Nat → Bool) : State × Fate :=
  if lanesWhere m sn == 0 then (s, .quiet) else (raiseAfter s g.gid m 0x100 0, .loud)

/-- A fixed-latency floating result (R133, R149). -/
def fp1 (S : BitVec 3) (d : RegName) (dist : Nat) (f : State → Group → Nat → Word) (sn : State → Group → Nat → Bool) :
    State → Group → Ent → State × Fate :=
  fun s g e => fpInvalid (fixed1 S d dist f s g e).1 g e.mask (sn s g)

/-- A result in flight that is already known. -/
def resultOp (g : Group) (m : Mask) (id : Nat) : MemOp :=
  ⟨id, .result, g.core, g.gid, g.team, g.ctxid, g.kernel, m, [], [], false, [], [], 0⟩
/-- Start a result: its token. -/
def startResult (s : State) (g : Group) (m : Mask) : Nat × State :=
  let (tok, s) := fresh s
  (tok, { s with ops := s.ops ++ [resultOp g m tok] })

/-- A scoreboarded result in one register (R149, R151): it arrives at LOAD_RESULT. -/
def board1 (S : BitVec 3) (d : RegName) (f : State → Group → Nat → Word) : State → Group → Ent → State × Fate :=
  fun s g e =>
    let (tok, t) := startResult s g e.mask
    (moveOn (pushWrite t g.gid (boardWrite g d 0 e.mask tok (fun l => (f s g l).setWidth 64))) g e S, .quiet)

/-- A scoreboarded result in a pair. -/
def board2 (S : BitVec 3) (d : RegName) (f : State → Group → Nat → DWord) : State → Group → Ent → State × Fate :=
  fun s g e =>
    let (tok, t) := startResult s g e.mask
    (moveOn (pushAll t g.gid
      [boardWrite g d 0 e.mask tok (fun l => (loWord (f s g l)).setWidth 64),
       boardWrite g d 1 e.mask tok (fun l => (hiWord (f s g l)).setWidth 64)]) g e S, .quiet)

/-- A scoreboarded floating result: with a signalling NaN the results are written before the trap (R133). -/
def fpBoard1 (S : BitVec 3) (d : RegName) (f : Word → Word) (a : RegName) : State → Group → Ent → State × Fate :=
  fun s g e =>
    let sn := fun l => snan32 (readReg s g l a)
    if lanesWhere e.mask sn == 0 then board1 S d (fun s g l => f (readReg s g l a)) s g e
    else
      fpInvalid (moveOn (writeNow s g.gid
        ⟨dstOf g d 0, e.mask, valsFor d e.mask (fun l => (f (readReg s g l a)).setWidth 64), none, 0⟩) g e S) g e.mask sn

/-- An instruction that only moves on. -/
def onlyMove (S : BitVec 3) : State → Group → Ent → State × Fate := fun s g e => (moveOn s g e S, .quiet)

/-- Before any effect: a cause in every lane of the entry. -/
def causeAll (s : State) (g : Group) (e : Ent) (c : Cause) (xinfo : DWord) : State × Fate :=
  (raiseAll s g e c xinfo, .loud)

/-- Park the entry (R28). -/
def park (s : State) (g : Group) (e : Ent) (i : Instr) (mem : Mask) (num : Nat) (vals : List (Nat × Word × Word)) :
    State × Fate :=
  (parkEnt s g.gid e ⟨i, mem, num, vals, 0⟩, .loud)

end Sys2Proof.Machine
end

