-- ==== Sys2Proof/Machine/Integer.lean ====
section
/-! DEFINITION. Integer and address instructions (08 R166-R173): one shape, fixed latency or scoreboarded, over the lane
functions of Flags.lean. Distances are those of R149. -/

namespace Sys2Proof.Machine

/-- A two-source lane function. -/
def two (f : Word → Word → Word) (a b : RegName) : State → Group → Nat → Word :=
  fun s g l => f (readReg s g l a) (readReg s g l b)
/-- A one-source lane function. -/
def one (f : Word → Word) (a : RegName) : State → Group → Nat → Word := fun s g l => f (readReg s g l a)
/-- A lane function that reads D too (R164). -/
def three (f : Word → Word → Word → Word) (d a b : RegName) : State → Group → Nat → Word :=
  fun s g l => f (readReg s g l d) (readReg s g l a) (readReg s g l b)

/-- ADD (R167). -/
def execAdd (S : BitVec 3) (X : BitVec 1) (d a b : RegName) (s : State) : Host.Outcome State Fault Refusal :=
  issue (.add S X d a b) s (fixed1 S d 2 (two (addF (X == 1)) a b))

/-- SUB (R167). -/
def execSub (S : BitVec 3) (X : BitVec 1) (d a b : RegName) (s : State) : Host.Outcome State Fault Refusal :=
  issue (.sub S X d a b) s (fixed1 S d 2 (two (subF (X == 1)) a b))

/-- ADDI (R167). -/
def execAddi (S : BitVec 3) (i : BitVec 8) (d a : RegName) (s : State) : Host.Outcome State Fault Refusal :=
  issue (.addi S i d a) s (fixed1 S d 2 (one (fun x => x + simm i) a))

/-- MUL (R167). -/
def execMul (S : BitVec 3) (d a b : RegName) (s : State) : Host.Outcome State Fault Refusal :=
  issue (.mul S d a b) s (fixed1 S d 4 (two (fun x y => x * y) a b))

/-- MULH (R167). -/
def execMulh (S : BitVec 3) (X : BitVec 1) (d a b : RegName) (s : State) : Host.Outcome State Fault Refusal :=
  issue (.mulh S X d a b) s (fixed1 S d 4 (two (mulhF (X == 1)) a b))

/-- MULI (R167). -/
def execMuli (S : BitVec 3) (i : BitVec 8) (d a : RegName) (s : State) : Host.Outcome State Fault Refusal :=
  issue (.muli S i d a) s (fixed1 S d 4 (one (fun x => x * simm i) a))

/-- DIV (R168). -/
def execDiv (S : BitVec 3) (X : BitVec 1) (d a b : RegName) (s : State) : Host.Outcome State Fault Refusal :=
  issue (.div S X d a b) s (board1 S d (two (divF (X == 1)) a b))

/-- REM (R168). -/
def execRem (S : BitVec 3) (X : BitVec 1) (d a b : RegName) (s : State) : Host.Outcome State Fault Refusal :=
  issue (.rem S X d a b) s (board1 S d (two (remF (X == 1)) a b))

/-- AND (R169). -/
def execAnd (S : BitVec 3) (d a b : RegName) (s : State) : Host.Outcome State Fault Refusal :=
  issue (.and S d a b) s (fixed1 S d 2 (two (fun x y => x &&& y) a b))

/-- OR (R169). -/
def execOr (S : BitVec 3) (d a b : RegName) (s : State) : Host.Outcome State Fault Refusal :=
  issue (.or S d a b) s (fixed1 S d 2 (two (fun x y => x ||| y) a b))

/-- XOR (R169). -/
def execXor (S : BitVec 3) (d a b : RegName) (s : State) : Host.Outcome State Fault Refusal :=
  issue (.xor S d a b) s (fixed1 S d 2 (two (fun x y => x ^^^ y) a b))

/-- ANDI (R169). -/
def execAndi (S : BitVec 3) (i : BitVec 8) (d a : RegName) (s : State) : Host.Outcome State Fault Refusal :=
  issue (.andi S i d a) s (fixed1 S d 2 (one (fun x => x &&& uimm i) a))

/-- ORI (R169). -/
def execOri (S : BitVec 3) (i : BitVec 8) (d a : RegName) (s : State) : Host.Outcome State Fault Refusal :=
  issue (.ori S i d a) s (fixed1 S d 2 (one (fun x => x ||| uimm i) a))

/-- XORI (R169). -/
def execXori (S : BitVec 3) (i : BitVec 8) (d a : RegName) (s : State) : Host.Outcome State Fault Refusal :=
  issue (.xori S i d a) s (fixed1 S d 2 (one (fun x => x ^^^ uimm i) a))

/-- SHL (R169). -/
def execShl (S : BitVec 3) (d a b : RegName) (s : State) : Host.Outcome State Fault Refusal :=
  issue (.shl S d a b) s (fixed1 S d 2 (two (fun x y => shlF x y.toNat) a b))

/-- SHR (R169). -/
def execShr (S : BitVec 3) (X : BitVec 1) (d a b : RegName) (s : State) : Host.Outcome State Fault Refusal :=
  issue (.shr S X d a b) s (fixed1 S d 2 (two (fun x y => if X == 1 then sarF x y.toNat else shrF x y.toNat) a b))

/-- SHLI (R169). -/
def execShli (S : BitVec 3) (i : BitVec 8) (d a : RegName) (s : State) : Host.Outcome State Fault Refusal :=
  issue (.shli S i d a) s (fixed1 S d 2 (one (fun x => shlF x i.toNat) a))

/-- SHRI (R169). -/
def execShri (S : BitVec 3) (i : BitVec 8) (d a : RegName) (s : State) : Host.Outcome State Fault Refusal :=
  issue (.shri S i d a) s (fixed1 S d 2 (one (fun x => shrF x i.toNat) a))

/-- SHRAI (R169). -/
def execShrai (S : BitVec 3) (i : BitVec 8) (d a : RegName) (s : State) : Host.Outcome State Fault Refusal :=
  issue (.shrai S i d a) s (fixed1 S d 2 (one (fun x => sarF x i.toNat) a))

/-- MOVI (R169). -/
def execMovi (S : BitVec 3) (i : BitVec 8) (d : RegName) (s : State) : Host.Outcome State Fault Refusal :=
  issue (.movi S i d) s (fixed1 S d 2 (fun _ _ _ => simm i))

/-- NOT (R170). -/
def execNot (S : BitVec 3) (d a : RegName) (s : State) : Host.Outcome State Fault Refusal :=
  issue (.not S d a) s (fixed1 S d 2 (one (fun x => ~~~x) a))

/-- NEG (R170). -/
def execNeg (S : BitVec 3) (d a : RegName) (s : State) : Host.Outcome State Fault Refusal :=
  issue (.neg S d a) s (fixed1 S d 2 (one (fun x => 0 - x) a))

/-- ABS (R170). -/
def execAbs (S : BitVec 3) (d a : RegName) (s : State) : Host.Outcome State Fault Refusal :=
  issue (.abs S d a) s (fixed1 S d 2 (one absF a))

/-- CLZ (R170). -/
def execClz (S : BitVec 3) (d a : RegName) (s : State) : Host.Outcome State Fault Refusal :=
  issue (.clz S d a) s (fixed1 S d 2 (one clzF a))

/-- POPC (R170). -/
def execPopc (S : BitVec 3) (d a : RegName) (s : State) : Host.Outcome State Fault Refusal :=
  issue (.popc S d a) s (fixed1 S d 2 (one popcF a))

/-- BREV (R170). -/
def execBrev (S : BitVec 3) (d a : RegName) (s : State) : Host.Outcome State Fault Refusal :=
  issue (.brev S d a) s (fixed1 S d 2 (one brevF a))

/-- MOV (R170). -/
def execMov (S : BitVec 3) (d a : RegName) (s : State) : Host.Outcome State Fault Refusal :=
  issue (.mov S d a) s (fixed1 S d 2 (one (fun x => x) a))

/-- BFX (R171). -/
def execBfx (S : BitVec 3) (d a b : RegName) (s : State) : Host.Outcome State Fault Refusal :=
  issue (.bfx S d a b) s (fixed1 S d 2 (two bfxF a b))

/-- BFI (R171). -/
def execBfi (S : BitVec 3) (d a b : RegName) (s : State) : Host.Outcome State Fault Refusal :=
  issue (.bfi S d a b) s (fixed1 S d 2 (three bfiF d a b))

/-- ISET.EQ (R172). -/
def execIsetEq (S : BitVec 3) (d a b : RegName) (s : State) : Host.Outcome State Fault Refusal :=
  issue (.isetEq S d a b) s (fixed1 S d 2 (two (fun x y => flag (x == y)) a b))

/-- ISET.NE (R172). -/
def execIsetNe (S : BitVec 3) (d a b : RegName) (s : State) : Host.Outcome State Fault Refusal :=
  issue (.isetNe S d a b) s (fixed1 S d 2 (two (fun x y => flag (x != y)) a b))

/-- ISET.LT (R172). -/
def execIsetLt (S : BitVec 3) (X : BitVec 1) (d a b : RegName) (s : State) : Host.Outcome State Fault Refusal :=
  issue (.isetLt S X d a b) s (fixed1 S d 2 (two (isetLtF (X == 1)) a b))

/-- ISET.LE (R172). -/
def execIsetLe (S : BitVec 3) (X : BitVec 1) (d a b : RegName) (s : State) : Host.Outcome State Fault Refusal :=
  issue (.isetLe S X d a b) s (fixed1 S d 2 (two (isetLeF (X == 1)) a b))

/-- SEL (R172). -/
def execSel (S : BitVec 3) (d a b : RegName) (s : State) : Host.Outcome State Fault Refusal :=
  issue (.sel S d a b) s (fixed1 S d 2 (three selF d a b))

/-- ADD64 (R173). -/
def execAdd64 (S : BitVec 3) (d a b : RegName) (s : State) : Host.Outcome State Fault Refusal :=
  issue (.add64 S d a b) s (fixed2 S d 4 (fun s g l => readPair s g l a + readPair s g l b))

/-- ADDI64 (R173). -/
def execAddi64 (S : BitVec 3) (i : BitVec 8) (d a : RegName) (s : State) : Host.Outcome State Fault Refusal :=
  issue (.addi64 S i d a) s (fixed2 S d 4 (fun s g l => readPair s g l a + i.signExtend 64))

/-- LEA (R173). -/
def execLea (S : BitVec 3) (d a b : RegName) (s : State) : Host.Outcome State Fault Refusal :=
  issue (.lea S d a b) s (fixed2 S d 4 (fun s g l => readPair s g l a + 4 * (readReg s g l b).signExtend 64))

/-- IMAD (R167). -/
def execImad (S : BitVec 3) (d a b : RegName) (s : State) : Host.Outcome State Fault Refusal :=
  issue (.imad S d a b) s (fixed1 S d 4 (three (fun z x y => x * y + z) d a b))

end Sys2Proof.Machine
end

