-- ==== Sys2Proof/Machine/Memory.lean ====
section
/-! DEFINITION. Loads, stores, scratchpad accesses, atomics, CADD, fences and prefetch (10 R212-R227, 04 R91-R93): the checks
lane by lane, what is performed and what raises, and the accesses that must come first (13 R294). When an access is
performed is said in Perform.lean. -/

namespace Sys2Proof.Machine

/-! ## Places -/

/-- One name for a place: a core's scratchpad is window region 1 of that core (R104). -/
def canonPlace (core : Nat) : Place → Place
  | .spad off => .win core 1 off
  | p => p
/-- Two accesses touch a common byte. -/
def placeMeets (core : Nat) (p : Place) (n : Nat) (core' : Nat) (q : Place) (n' : Nat) : Bool :=
  match canonPlace core p, canonPlace core' q with
  | .ctl a, .ctl b => a < b + n' && b < a + n
  | .ap a, .ap b => a < b + n' && b < a + n
  | .ten a, .ten b => a < b + n' && b < a + n
  | .win c r a, .win c' r' b => c == c' && r == r' && a < b + n' && b < a + n
  | _, _ => false
/-- A place of control space (R66, R345). -/
def isCtl : Place → Bool
  | .ctl _ => true
  | .ap _ => true
  | _ => false
/-- A place in tensor memory. -/
def isTen : Place → Bool
  | .ten _ => true
  | _ => false

/-- The register-file cell of a byte of window region 0 (R104). -/
def winCell (off : Nat) : Nat := off / 4
/-- The cause a read of a place raises for a word that fails its check or is poisoned (R410, R411, R413). -/
def placeBad (s : State) (core : Nat) (p : Place) (size : Nat) : Option Cause :=
  let pick := fun (bad poison : List Nat) (a : Nat) =>
    if bad.contains (a / 32) then some (0x180 : Cause) else if poison.contains (a / 32) then some 0x181 else none
  match canonPlace core p with
  | .ctl a => pick s.ctlBad s.ctlPoison a
  | .ten a => pick s.tenBad s.tenPoison a
  | .win c 1 off => pick (coreOf s c).spadBad (coreOf s c).spadPoison off
  | .win c 0 off =>
    if (List.range ((size + 3) / 4)).any (fun j => (coreOf s c).rfPoison.contains (winCell off + j)) then some 0x181 else none
  | _ => none
/-- A word whose check has failed is marked poisoned where it was read (R410). -/
def markRead (s : State) (core : Nat) (p : Place) : State :=
  match canonPlace core p with
  | .ctl a => if s.ctlBad.contains (a / 32) then
      { s with ctlBad := delNat (a / 32) s.ctlBad, ctlPoison := insNat (a / 32) s.ctlPoison } else s
  | .ten a => if s.tenBad.contains (a / 32) then
      { s with tenBad := delNat (a / 32) s.tenBad, tenPoison := insNat (a / 32) s.tenPoison } else s
  | .win c 1 off => if (coreOf s c).spadBad.contains (off / 32) then
      modCore s c (fun k => { k with spadBad := delNat (off / 32) k.spadBad, spadPoison := insNat (off / 32) k.spadPoison }) else s
  | _ => s

/-! ## What must come first (R294) -/

/-- A place in window space other than the core's own scratchpad. -/
def isWin : Place → Bool
  | .win _ _ _ => true
  | _ => false
/-- A store of the core to a byte of a place is performed for the core's agents only (R299): an engine's access there waits until every
agent sees it. -/
def nearMeets (s : State) (core : Nat) (p : Place) (n : Nat) : Bool :=
  s.ops.any (fun q => q.core == core && q.accs.any (fun c => c.reached && !c.done && placeMeets q.core c.at_ c.size core p n))
/-- A scratchpad access. -/
def isSpadKind : OpKind → Bool
  | .ldsp => true
  | .stsp => true
  | _ => false
/-- A plain store, whose value its own lane sees at once (R295). -/
def isPlainStore : OpKind → Bool
  | .store => true
  | .stsp => true
  | _ => false
/-- An ATOM. -/
def isAtomKind : OpKind → Bool
  | .atom _ => true
  | _ => false
/-- A RATOM. -/
def isRatomKind : OpKind → Bool
  | .ratom _ _ => true
  | _ => false

/-- Edge between an earlier access `b` (of kind `kb`) and a later one `a` of the same lane: control program order (R68),
ATOM's full order in control space (R221), the scratchpad's program order (R219), same location (R293), CADD before a
load of its location (R302), RATOMs to one address (R222). -/
def laneEdge (core : Nat) (kb : OpKind) (b : Acc) (ka : OpKind) (a : Acc) : Bool :=
  if kb == .result || ka == .result then false
  else if isRatomKind kb || isRatomKind ka then isRatomKind kb && isRatomKind ka && a.va == b.va
  else
    let ctl := isCtl a.at_ && isCtl b.at_
    let same := placeMeets core a.at_ a.size core b.at_ b.size
    (isAtomKind kb && isCtl b.at_) || (isAtomKind ka && isCtl a.at_) ||
    (isSpadKind kb && isSpadKind ka) ||
    (ctl && (!isLoadKind ka || isLoadKind kb || isAtomKind kb)) ||
    (same && !(isLoadKind ka && isPlainStore kb))

/-- Earlier accesses of the lane that a new access of it follows. -/
def laneAfter (s : State) (g : Group) (kind : OpKind) (a : Acc) : List Nat :=
  (s.ops.filter (fun o => o.gid == g.gid && o.accs.any (fun b => !b.done && b.lane == a.lane && laneEdge g.core o.kind b kind a))).map (·.id)
/-- Pending writes to the lane's own registers at whose window location it makes an access (R293, R301). -/
def regPend (g : Group) (a : Acc) : List PWrite := match a.at_ with
  | .win c 0 off => if c == g.core then g.pend.filter (fun w => match w.dst with
      | .v r => bitAt w.lanes a.lane && off / 4 ≤ rfCell g a.lane r && rfCell g a.lane r < (off + a.size + 3) / 4
      | _ => false) else []
  | _ => []
/-- The accesses that a new one of a group follows as a whole: those the edges of R294 place first, those FENCE.TC holds a control
store behind (R225), and results on their way to registers it accesses as window locations. No edge but FENCE.TC's orders a
RATOM (R222, R224). -/
def afterOf (s : State) (g : Group) (m : Mask) (kind : OpKind) (accs : List Acc) : List Nat :=
  let regs := ((accs.map (regPend g)).flatten).map (·.tok)
  let edges := if isRatomKind kind then [] else
    ((g.deps.filter (fun d => d.1 &&& m != 0)).map (·.2.1)).filter (fun i => s.ops.any (·.id == i))
  let tc := if accs.any (fun a => isCtl a.at_) && !isLoadKind kind && !isRatomKind kind then
      g.tcDeps.filter (fun i => s.ops.any (·.id == i) || s.aops.any (fun o => o.id == i && aopLive o))
    else []
  insAll (regs ++ edges ++ tc) []

/-- The accesses of its own core that a new one follows as far as that core sees them (R297). -/
def nearOf (s : State) (g : Group) (m : Mask) (kind : OpKind) : List Nat :=
  if isRatomKind kind then [] else insAll (((g.near.filter (fun d => d.1 &&& m != 0)).map (·.2.1)).filter (fun i => !nearOver s i)) []

/-- What accesses and operations follow, and what those follow in turn. -/
def reachBack (s : State) : Nat → List Nat → List Nat
  | 0, xs => xs
  | n + 1, xs =>
    let ys := (s.ops.filter (fun o => xs.contains o.id)).foldl (fun ys o => insAll (o.after ++ o.near ++ (o.accs.map (·.after)).flatten) ys)
      ((s.aops.filter (fun o => xs.contains o.id && aopLive o)).foldl (fun ys o => insAll (o.after ++ o.deps) ys) xs)
    if ys.length = xs.length then xs else reachBack s n ys
/-- Writes still to be performed, among those that an access follows, to sectors it would be translated through: its translation
comes after them (R85). A copy into control space is taken to write any sector. -/
def ptWrites (s : State) (accs : List Acc) (after : List Nat) : List Nat :=
  let ids := reachBack s (s.ops.length + s.aops.length) (insAll ((accs.map (·.after)).flatten) after)
  let xs := accs.foldl (fun xs a => insAll a.sectors xs) []
  if ids.isEmpty || xs.isEmpty then []
  else ids.filter (fun i =>
    s.ops.any (fun o => o.id == i && !isLoadKind o.kind && o.accs.any (fun b => !b.done && (match b.at_ with
      | .ctl p => xs.contains (p / 64)
      | _ => false))) ||
    s.aops.any (fun o => o.id == i && aopLive o && (match o.kind with
      | .copy _ w => bitsOf (w.getD 1 0) 62 2 == 0
      | _ => false)))

/-! ## One memory instruction -/

/-- What each lane meets. -/
abbrev LaneWalk := Nat × DWord × XRes

/-- The sector at which some lane's walk is held. -/
def heldAt (ws : List LaneWalk) : Option Nat := (ws.filterMap (fun w => match w.2.2 with
  | .held x => some x
  | _ => none)).head?
/-- The lanes that raise, with their causes and addresses, in lane order. -/
def faultsOf (ws : List LaneWalk) : List (Nat × Cause × DWord) := ws.filterMap (fun w => match w.2.2 with
  | .fault c => some (w.1, c, w.2.1)
  | _ => none)
/-- The lanes that pass. -/
def passOf (ws : List LaneWalk) : List (Nat × DWord × Xlat) := ws.filterMap (fun w => match w.2.2 with
  | .ok x => some (w.1, w.2.1, x)
  | _ => none)
/-- A mask of listed lanes. -/
def maskOf (ls : List Nat) : Mask := ls.foldl (fun m l => m ||| bit1 l) 0
/-- A line of a core's L1 that serves a load (R214): of local tensor memory, without .CG. -/
def l1Line (s : State) (core : Nat) (cg : Bool) : Place → Option Line
  | .ten a => if cg then none else (coreOf s core).l1.find? (fun l => l.line == a / 64)
  | _ => none
/-- The cause that a load of a core raises for the word of a place: an L1 line may serve it as it was filled, poisoned or with a check
that does not fit (R409, R411). -/
def loadBad (s : State) (core : Nat) (cg : Bool) (p : Place) (size : Nat) : Option Cause :=
  match p, l1Line s core cg p with
  | .ten a, some l => if l.bad.contains (a / 32) then some 0x180 else if l.poison.contains (a / 32) then some 0x181 else none
  | _, _ => placeBad s core p size
/-- The first detection marks the word where the load read it, in the L1 line or in memory (R410). -/
def markLoad (s : State) (core : Nat) (cg : Bool) (p : Place) : State :=
  match p, l1Line s core cg p with
  | .ten a, some l => if l.bad.contains (a / 32) then
      modCore s core (fun c => { c with l1 := c.l1.map (fun k => if k.line == a / 64 then
        { k with bad := delNat (a / 32) k.bad, poison := insNat (a / 32) k.poison } else k) }) else s
  | _, _ => markRead s core p
/-- An access of a kind does not use L1. -/
def pastL1 : OpKind → Bool
  | .load cg => cg
  | _ => true
/-- Reads of words that are poisoned or fail their check become causes (R410, R413). -/
def poisonLanes (s : State) (g : Group) (kind : OpKind) (size : Nat) (ws : List LaneWalk) : List LaneWalk :=
  ws.map (fun w => match w.2.2 with
    | .ok x => match loadBad s g.core (pastL1 kind) x.at_ size with
      | some c => (w.1, w.2.1, .fault c)
      | none => w
    | _ => w)
/-- The first detection marks the words (R410). -/
def markLanes (s : State) (g : Group) (kind : OpKind) (ws : List LaneWalk) : State :=
  ws.foldl (fun s w => match w.2.2 with
    | .ok x => markLoad s g.core (pastL1 kind) x.at_
    | _ => s) s
/-- What the walks of the lanes that raise leave (R90, R410): nothing of a lane whose register is poisoned or whose address fails a
check made before the walk (R406, R411). -/
def faultWalks (s : State) (g : Group) (kind : OpKind) (size : Nat) (bad : Mask) (ws : List LaneWalk) : State :=
  if isSpadKind kind || isRatomKind kind then s
  else ws.foldl (fun s w => match w.2.2 with
    | .fault c => if bitAt bad w.1 || c = 0x04D then s else faultLeaves s (.core g.core) g.ctxid w.2.1 size
    | _ => s) s
/-- A poisoned word is read while the group's own stores to it are still to be performed (R412). -/
def poisonPending (s : State) (g : Group) (size : Nat) (ws : List LaneWalk) : Bool :=
  ws.any (fun w => match w.2.2 with
    | .ok x => (placeBad s g.core x.at_ size).isSome &&
        s.ops.any (fun o => o.gid == g.gid && isPlainStore o.kind && o.accs.any (fun a => !a.done &&
          (match canonPlace g.core a.at_, canonPlace g.core x.at_ with
            | .ctl p, .ctl q => p / 32 == q / 32
            | .ten p, .ten q => p / 32 == q / 32
            | .win c r p, .win c' r' q => c == c' && r == r' && p / 32 == q / 32
            | _, _ => false)))
    | _ => false)

/-- A memory instruction described: its kind, size, the walk of each lane, whether it reads memory, its data, the
register writes its result makes, and whether it drops the L1 copy of its line first (R214). -/
structure MemSpec where
  kind : OpKind
  size : Nat
  walkOf : Nat → DWord × XRes
  reads : Bool
  data : Nat → DWord × DWord
  writes : Nat → Mask → List PWrite
  drop : Xlat → Bool := fun _ => false

/-- The access of a lane. -/
def accOf (s : State) (g : Group) (sp : MemSpec) (p : Nat × DWord × Xlat) : Acc :=
  let a : Acc := ⟨p.1, p.2.1, p.2.2.at_, sp.size, (sp.data p.1).1, (sp.data p.1).2, false, false, p.2.2.sectors, [], false⟩
  { a with after := laneAfter s g sp.kind a }
/-- A store that goes past L1 drops the core's copy of its lines (R214). -/
def dropLines (s : State) (core : Nat) (sp : MemSpec) (ok : List (Nat × DWord × Xlat)) : State :=
  let lines := ok.filterMap (fun p => match p.2.2.at_ with
    | .ten a => if sp.drop p.2.2 then some (a / 64) else none
    | _ => none)
  if lines.isEmpty then s else modCore s core (fun c => { c with l1 := c.l1.filter (fun x => !lines.contains x.line) })

/-- What each lane of an instruction meets: a poisoned register (R411), or what its walk says. -/
def walksOf (sp : MemSpec) (m bad : Mask) : List LaneWalk :=
  (lanesOf m).map (fun l => if bitAt bad l then (l, (sp.walkOf l).1, .fault 0x181) else (l, sp.walkOf l))
/-- An access whose lane's load was made ahead of the branch takes what that returned (R42). One of control space is made again. -/
def aheadAcc (g : Group) (e : Ent) (kind : OpKind) (a : Acc) : Acc :=
  match (g.ahead.filter (fun r => !r.stale && r.pc == e.pc && r.mask == e.mask && r.kind == kind)).findSome? (fun r =>
      r.accs.find? (fun b => b.lane == a.lane && b.va == a.va && b.at_ == a.at_ && b.size == a.size && !isCtl b.at_)) with
  | some b => { a with data := b.data, done := true }
  | none => a
/-- A load that is made anew leaves none of its group made ahead of it, which might hold an older value of its location (R293). -/
def aheadPast (s : State) (g : Group) (accs : List Acc) : State :=
  if g.ahead.isEmpty || accs.all (fun a => a.done || isCtl a.at_) then s else dropAhead s g.gid
/-- The accesses of the lanes that pass are made (R93): they are in flight, their registers pending, and the lanes move on. -/
def memStart (S : BitVec 3) (sp : MemSpec) (s : State) (g : Group) (e : Ent) (ok : List (Nat × DWord × Xlat)) (accs : List Acc)
    (after near : List Nat) : State :=
  let go := maskOf (ok.map (·.1))
  let s := dropLines (fillT s (.core g.core) (ok.foldl (fun xs p => insAll p.2.2.sectors xs) [])) g.core sp ok
  let s := ok.foldl (fun s p => ownPlace s g.core g.ctxid p.2.2.at_) s
  let accs := accs.map (aheadAcc g { e with mask := go } sp.kind)
  let (id, s) := fresh (aheadPast s g accs)
  let o : MemOp := ⟨id, sp.kind, g.core, g.gid, g.team, g.ctxid, g.kernel, go, accs, after, false, [], near, e.pc⟩
  moveOn (pushAll { s with ops := s.ops ++ [o] } g.gid (sp.writes id go)) g { e with mask := go } S
/-- Issue of a memory instruction (R93, R212, R367, R368): held walks keep the entry, and so does a translation that must come after
a write (R85); the lanes that pass are performed and move on; the others raise, with the code and address of the lowest. -/
def memIssue (S : BitVec 3) (sp : MemSpec) (s : State) (g : Group) (e : Ent) (bad : Mask) : State × Fate :=
  let ws := walksOf sp e.mask bad
  match heldAt ws with
  | some x => (stallWalk s g.gid e x, .stay)
  | none =>
    if sp.reads && poisonPending s g sp.size ws then (stallEnt s g.gid e 0 .ownStores, .stay)
    else
      let ws' := if sp.reads then poisonLanes s g sp.kind sp.size ws else ws
      let ok := passOf ws'
      let accs := ok.map (accOf s g sp)
      let after := afterOf s g (maskOf (ok.map (·.1))) sp.kind accs
      let near := nearOf s g (maskOf (ok.map (·.1))) sp.kind
      let late := ptWrites s accs (insAll near after)
      if accs.any (fun a => (regPend g a).any (fun w => w.tok == 0)) then (s, .stay)
      else if !late.isEmpty then (stallEnt s g.gid e 0 (.order late), .stay)
      else
        let s := faultWalks (if sp.reads then markLanes s g sp.kind ws else s) g sp.kind sp.size bad ws
        let t := if ok.isEmpty then s else memStart S sp s g e ok accs after near
        match faultsOf ws' with
        | [] => (t, .quiet)
        | f :: fs => (raise t g.gid e.prio e.pc ⟨maskOf ((f :: fs).map (·.1)), f.2.1, e.pc, f.2.2⟩, .loud)

/-- The result writes of a load: one register or a pair, filled when the load is performed. The high word of a pair is
marked by the value of position 64, which is no lane. -/
def loadWrites (g : Group) (d : RegName) (pair : Bool) : Nat → Mask → List PWrite := fun tok m =>
  (⟨dstOf g d 0, m, [], none, tok⟩ : PWrite) :: (if pair then [⟨dstOf g d 1, m, [(64, 1)], none, tok⟩] else [])
/-- No register is written. -/
def noWrites : Nat → Mask → List PWrite := fun _ _ => []
/-- No data. -/
def noData : Nat → DWord × DWord := fun _ => (0, 0)

/-- .CG, or a page with NC = 1 (R214): the access does not use L1. -/
def viaL2 (cg : Bool) (x : Xlat) : Bool := cg || x.leaf.getLsbD 8

/-! ## Loads and stores (R216-R218) -/

/-- A load; a lane whose page has NC = 1 acts as .CG (R214). -/
def loadSpec (s : State) (g : Group) (e : Ent) (cg : Bool) (size : Nat) (d a b : RegName) : MemSpec :=
  let w := fun l => translate s (.core g.core) g.ctxid g.kernel .load (laneAddr s g l a b size) size
  { kind := .load (cg || (lanesOf e.mask).any (fun l => match w l with
      | .ok x => viaL2 cg x
      | _ => false)),
    size := size, walkOf := fun l => (laneAddr s g l a b size, w l), reads := true, data := noData,
    writes := loadWrites g d (size == 8) }
/-- LD (R216). -/
def execLd (S : BitVec 3) (c : BitVec 1) (d a b : RegName) (s : State) : Host.Outcome State Fault Refusal :=
  issueWith (.ld S c d a b) s (fun s g e bad => memIssue S (loadSpec s g e (c == 1) 4 d a b) s g e bad)
/-- LD.B64 (R216). -/
def execLdB64 (S : BitVec 3) (c : BitVec 1) (d a b : RegName) (s : State) : Host.Outcome State Fault Refusal :=
  issueWith (.ldB64 S c d a b) s (fun s g e bad => memIssue S (loadSpec s g e (c == 1) 8 d a b) s g e bad)
/-- LD.B8 (R216). -/
def execLdB8 (S : BitVec 3) (d a b : RegName) (s : State) : Host.Outcome State Fault Refusal :=
  issueWith (.ldB8 S d a b) s (fun s g e bad => memIssue S (loadSpec s g e false 1 d a b) s g e bad)
/-- LD.B16 (R216). -/
def execLdB16 (S : BitVec 3) (d a b : RegName) (s : State) : Host.Outcome State Fault Refusal :=
  issueWith (.ldB16 S d a b) s (fun s g e bad => memIssue S (loadSpec s g e false 2 d a b) s g e bad)

/-- A lane's walk in LD.NR (R91). -/
def nrWalk (s : State) (g : Group) (a : RegName) (l : Nat) : XRes :=
  translate s (.core g.core) g.ctxid g.kernel .loadNr (laneAddr0 s g l a) 4
/-- The lanes whose leaf has NR = 1 (R91). -/
def nrLanes (s : State) (g : Group) (a : RegName) (m : Mask) : Mask :=
  lanesWhere m (fun l => match nrWalk s g a l with
    | .ok x => x.nonRes
    | _ => false)
/-- Lanes of an LD.NR at a PC that faulted while other lanes of its issue were performed, and have still to be issued again. -/
def nrOwed (g : Group) (pc : DWord) : Mask := (g.nrReplay.filter (fun k => k.1 == pc)).foldl (fun m k => m ||| k.2) 0
/-- The mask positions that LD.NR writes: all at a first issue; those of its own lanes when it is issued again for lanes that faulted
(R91, R93). -/
def nrPositions (g : Group) (pc : DWord) (m : Mask) : Mask := if minus m (nrOwed g pc) == 0 then m else lowMask 64
/-- After an LD.NR of lanes m of which F fault: the others are performed, and F is owed. -/
def nrAfter (g : Group) (pc : DWord) (m F : Mask) : Group :=
  let left := (g.nrReplay.map (fun k => if k.1 == pc then (k.1, minus k.2 m) else k)).filter (fun k => k.2 != 0)
  { g with nrReplay := if F != 0 then left ++ [(pc, F)] else left }
/-- A first issue of LD.NR in which every lane faults clears the whole mask, as its other lanes' bits will stand (R91). -/
def nrClear (g : Group) (pc : DWord) (m F : Mask) (r : Nat) : Group :=
  if F == m && minus m (nrOwed g pc) != 0 then { g with pend := g.pend ++ [⟨.m r, lowMask 64, [(0, 0)], some 0, 0⟩] } else g
/-- LD.NR (R91, R218): non-resident lanes read zero and set their mask bits; their accesses are already done. -/
def ldNrIssue (S : BitVec 3) (c : BitVec 1) (d a : RegName) (m : BitVec 3) (s : State) (g : Group) (e : Ent) (bad : Mask) :
    State × Fate :=
  let nr := nrLanes s g a (minus e.mask bad)
  let ws : List LaneWalk := (lanesOf e.mask).map (fun l => (l, laneAddr0 s g l a, if bitAt bad l then .fault 0x181 else nrWalk s g a l))
  let cg := c == 1 || ws.any (fun w => match w.2.2 with
    | .ok x => viaL2 false x
    | _ => false)
  let resident : List LaneWalk := ws.filter (fun w => !bitAt nr w.1)
  let ws' := ws.map (fun w => match w.2.2 with
    | .ok x => if x.nonRes then w else match loadBad s g.core cg x.at_ 4 with
      | some cc => (w.1, w.2.1, .fault cc)
      | none => w
    | _ => w)
  let sp : MemSpec := {
    kind := .load cg, size := 4,
    walkOf := fun l => match ws'.find? (fun w => w.1 == l) with
      | some w => w.2
      | none => (0, .fault 0x042),
    reads := false, data := noData,
    writes := fun tok go => loadWrites g d false tok go ++
      [⟨.m m.toNat, nrPositions g e.pc e.mask, [(0, nr &&& go)], none, tok⟩] }
  if poisonPending s g 4 resident then (stallEnt s g.gid e 0 .ownStores, .stay)
  else
    let marked := markLanes s g (.load cg) resident
    let r := memIssue S sp marked g e 0
    if r.2 == Fate.stay then r
    else
      let done := { r.1 with ops := r.1.ops.map (fun o => if o.id == marked.nextId then
        { o with accs := o.accs.map (fun x => if bitAt nr x.lane then { x with done := true } else x) } else o) }
      let F := maskOf ((faultsOf ws').map (fun f => f.1))
      (modGroup done g.gid (fun h => nrAfter (nrClear h e.pc e.mask F m.toNat) e.pc e.mask F), r.2)
/-- LD.NR (R91, R218). -/
def execLdNr (S : BitVec 3) (c : BitVec 1) (d a : RegName) (m : BitVec 3) (s : State) : Host.Outcome State Fault Refusal :=
  issueWith (.ldNr S c d a m) s (ldNrIssue S c d a m)

/-- A store: `n` is its size (R216). One with .CG, or to a page with NC = 1, drops the L1 copy first (R214). -/
def storeSpec (s : State) (g : Group) (cg : Bool) (size : Nat) (d a b : RegName) : MemSpec :=
  { kind := .store, size := size,
    walkOf := fun l => (laneAddr s g l a b size,
      translate s (.core g.core) g.ctxid g.kernel .store (laneAddr s g l a b size) size),
    reads := false,
    data := fun l => (if size = 8 then readPair s g l d else (readReg s g l d).setWidth 64, 0), writes := noWrites, drop := viaL2 cg }
/-- ST (R216). -/
def execSt (S : BitVec 3) (c : BitVec 1) (d a b : RegName) (s : State) : Host.Outcome State Fault Refusal :=
  issueWith (.st S c d a b) s (fun s g e bad => memIssue S (storeSpec s g (c == 1) 4 d a b) s g e bad)
/-- ST.B64 (R216). -/
def execStB64 (S : BitVec 3) (c : BitVec 1) (d a b : RegName) (s : State) : Host.Outcome State Fault Refusal :=
  issueWith (.stB64 S c d a b) s (fun s g e bad => memIssue S (storeSpec s g (c == 1) 8 d a b) s g e bad)
/-- ST.B8 (R216). -/
def execStB8 (S : BitVec 3) (d a b : RegName) (s : State) : Host.Outcome State Fault Refusal :=
  issueWith (.stB8 S d a b) s (fun s g e bad => memIssue S (storeSpec s g false 1 d a b) s g e bad)
/-- ST.B16 (R216). -/
def execStB16 (S : BitVec 3) (d a b : RegName) (s : State) : Host.Outcome State Fault Refusal :=
  issueWith (.stB16 S d a b) s (fun s g e bad => memIssue S (storeSpec s g false 2 d a b) s g e bad)

/-! ## Scratchpad (R219) -/

/-- SPBYTES of the group's launch (R107). -/
def spBytesOf (s : State) (g : Group) : Nat := bitsOf ((recOf s g).getD 4 0) 0 32
/-- SPBASE of the group's team (R104). -/
def spBaseOf (s : State) (g : Group) : Nat := match teamOf s g.team with
  | some t => t.spBase
  | none => 0
/-- The checks of R219. -/
def spadWalk (s : State) (g : Group) (l : Nat) (a b : RegName) : DWord × XRes :=
  let o := spadOff s g l a b
  (BitVec.ofNat 64 o,
    if o % 4 ≠ 0 then .fault 0x04C
    else if spBytesOf s g < o + 4 then .fault 0x04E
    else .ok ⟨.spad (spBaseOf s g + o), 0, 0, false, []⟩)
/-- LDSP (R219). -/
def execLdsp (S : BitVec 3) (d a b : RegName) (s : State) : Host.Outcome State Fault Refusal :=
  issueWith (.ldsp S d a b) s (fun s g e bad =>
    memIssue S { kind := .ldsp, size := 4, walkOf := fun l => spadWalk s g l a b, reads := true, data := noData,
                 writes := loadWrites g d false } s g e bad)
/-- STSP (R219). -/
def execStsp (S : BitVec 3) (d a b : RegName) (s : State) : Host.Outcome State Fault Refusal :=
  issueWith (.stsp S d a b) s (fun s g e bad =>
    memIssue S { kind := .stsp, size := 4, walkOf := fun l => spadWalk s g l a b, reads := false,
                 data := fun l => ((readReg s g l d).setWidth 64, 0), writes := noWrites } s g e bad)

/-! ## Atomics (R220-R222) -/

/-- The two operands of an atomic: d or d:d+1, and the second one of CAS and CAS64 (R220). -/
def atomData (s : State) (g : Group) (op : Nat) (d : RegName) (l : Nat) : DWord × DWord :=
  if op = 9 then ((readReg s g l d).setWidth 64, (readRegAt s g l d 1).setWidth 64)
  else if op = 13 then (readPair s g l d, mkPair (readRegAt s g l d 2) (readRegAt s g l d 3))
  else if op = 11 ∨ op = 12 then (readPair s g l d, 0)
  else ((readReg s g l d).setWidth 64, 0)
/-- What memory becomes (R220). -/
def atomNew (op : Nat) (m x y : DWord) : DWord :=
  let a := loWord m
  let b := loWord x
  let w := fun (v : Word) => v.setWidth 64
  if op = 0 then w (a + b)
  else if op = 1 then w (minS a b)
  else if op = 2 then w (minU a b)
  else if op = 3 then w (maxS a b)
  else if op = 4 then w (maxU a b)
  else if op = 5 then w (a &&& b)
  else if op = 6 then w (a ||| b)
  else if op = 7 then w (a ^^^ b)
  else if op = 8 then w b
  else if op = 9 then (if a = b then w (loWord y) else w a)
  else if op = 10 then w (add32 a b)
  else if op = 11 then m + x
  else if op = 12 then x
  else if m = x then y else m
/-- ATOM (R220, R221). -/
def execAtom (S : BitVec 3) (d a o : BitVec 7) (s : State) : Host.Outcome State Fault Refusal :=
  issueWith (.atom S d a o) s (fun s g e bad =>
    let op := o.toNat
    memIssue S
      { kind := .atom op, size := atomSize op,
        walkOf := fun l => (laneAddr0 s g l a,
          translate s (.core g.core) g.ctxid g.kernel .store (laneAddr0 s g l a) (atomSize op)),
        reads := true, data := fun l => atomData s g op d l,
        writes := loadWrites g d (atomSize op == 8) } s g e bad)

/-- The checks of RATOM before it is sent (R67, R222, R213): any tensor address of any rank. -/
def ratomWalk (va : DWord) (size : Nat) : XRes :=
  match spaceCheck va with
  | some c => .fault c
  | none =>
    if bitsOf va 62 2 ≠ 1 then .fault 0x04D
    else if va.toNat % size ≠ 0 then .fault 0x04C
    else .ok ⟨.ten 0, 0, 0, false, []⟩
/-- RATOM (R222): sent to its rank; a fault there is deferred. -/
def execRatom (S : BitVec 3) (d a o : BitVec 7) (s : State) : Host.Outcome State Fault Refusal :=
  issueWith (.ratom S d a o) s (fun s g e bad =>
    let op := o.toNat
    memIssue S
      { kind := .ratom op (lrankOf s g.ctxid), size := atomSize op,
        walkOf := fun l => (laneAddr0 s g l a, ratomWalk (laneAddr0 s g l a) (atomSize op)),
        reads := false, data := fun l => atomData s g op d l,
        writes := loadWrites g d (atomSize op == 8) } s g e bad)

/-- The checks of CADD (R212, R223). -/
def caddWalk (s : State) (g : Group) (va : DWord) (size : Nat) : XRes :=
  match spaceCheck va with
  | some c => .fault c
  | none =>
    if bitsOf va 62 2 ≠ 0 then .fault 0x04D
    else reach s (.core g.core) g.ctxid g.kernel .store va size
/-- A CADD described. -/
def caddSpec (s : State) (g : Group) (fmt : Nat) (d a : RegName) : MemSpec :=
  let size := caddSize fmt
  { kind := .cadd fmt, size := size,
    walkOf := fun l => (laneAddr0 s g l a, caddWalk s g (laneAddr0 s g l a) size),
    reads := false, data := fun l => (if size = 8 then readPair s g l d else (readReg s g l d).setWidth 64, 0), writes := noWrites }
/-- CADD (R223, R240, R366): performed in every active lane or in none. -/
def execCadd (S : BitVec 3) (d a f : BitVec 7) (s : State) : Host.Outcome State Fault Refusal :=
  issueWith (.cadd S d a f) s (fun s g e bad =>
    let sp := caddSpec s g f.toNat d a
    let ws := walksOf sp e.mask bad
    match heldAt ws, faultsOf ws with
    | none, w :: fs =>
      (raise (faultWalks s g sp.kind sp.size bad ws) g.gid e.prio e.pc ⟨maskOf ((w :: fs).map (·.1)), w.2.1, e.pc, w.2.2⟩, .loud)
    | _, _ => memIssue S sp s g e 0)

/-! ## Fences and prefetch (R224-R227) -/

/-- The cores a scope covers beyond the issuing one: package, domain, or a named scope with another core (R224, R297). -/
def scopeWide (s : State) (g : Group) (code : Nat) : Bool :=
  if code ≤ 3 then false
  else if 12 ≤ code then true
  else
    let sm := mapGet 0 s.scope (g.ctxid.toNat * 8 + (code - 4))
    (List.range Config.nCores).any (fun n => n != g.core && sm.getLsbD n)
/-- A load, or a plain store to tensor memory or window space, of a lane of this core: a fence that covers no other core waits for it no
further than its own core (R297). -/
def staysNear (s : State) (core i : Nat) : Bool := s.ops.any (fun o => o.id == i && o.core == core &&
  (isLoadKind o.kind || (o.kind == .store && o.accs.all (fun a => a.done || isTen a.at_ || isWin a.at_))))
/-- What a FENCE of a scope places before the lanes' later accesses. -/
def fenceEdges (s : State) (g : Group) (m : Mask) (code : Nat) : State :=
  let s := markRegs s g.gid m
  let ids := undone s g.gid m
  let near := if scopeWide s g code then [] else ids.filter (staysNear s g.core)
  addNear (addDeps s g.gid m (ids.filter (fun i => !near.contains i)) (3 ≤ code)) g.gid m near (3 ≤ code)
/-- FENCE (R224, R297): the lanes' later accesses follow their earlier ones; at core scope or wider, copies too. A scope
beyond the core drops the core's L1 lines. -/
def execFence (S : BitVec 3) (c : BitVec 7) (s : State) : Host.Outcome State Fault Refusal :=
  issue (.fence S c) s (fun s g e =>
    let code := c.toNat
    let t := if code = 0 then s else fenceEdges s g e.mask code
    let t := if scopeWide s g code then modCore t g.core (fun k => { k with l1 := [] }) else t
    (moveOn t g e S, .quiet))
/-- What FENCE.TC awaits (R225): the group's tensor and window accesses, RATOMs and copies; of a load, also the stores it has read
(R299). -/
def tcAwaits (s : State) (g : Group) : List Nat :=
  (s.ops.filter (fun o => o.gid == g.gid && o.accs.any (fun a => (!a.done || isLoadKind o.kind) && (isTen a.at_ || isWin a.at_)))).map (·.id) ++
  (s.aops.filter (fun o => o.gid == g.gid && aopLive o && (match o.kind with
    | .copy _ _ => true
    | _ => false))).map (·.id)
/-- FENCE.TC (R225). -/
def execFenceTc (S : BitVec 3) (s : State) : Host.Outcome State Fault Refusal :=
  issue (.fenceTc S) s (fun s g e =>
    (moveOn (modGroup s g.gid (fun h => { h with tcDeps := insAll (tcAwaits s g) h.tcDeps })) g e S, .quiet))
/-- The copies a FENCE.Q joins (R226). -/
def joined (s : State) (g : Group) (qs : Nat) : List Nat :=
  (s.aops.filter (fun o => o.gid == g.gid && aopLive o && (match o.kind with
    | .copy q _ => qs.testBit q
    | _ => false))).map (·.id)
/-- FENCE.Q (R226). -/
def execFenceQ (S : BitVec 3) (a : RegName) (s : State) : Host.Outcome State Fault Refusal :=
  issue (.fenceQ S a) s (fun s g e =>
    let qs := (readK g (kNum a)).toNat % 256
    (moveOn (if qs = 0 then s else modGroup s g.gid (fun h => { h with qJoins := h.qJoins ++ [(qs, joined s g qs)] })) g e S, .quiet))
/-- A lane's line for PREF (R227): into the core's cache at level 0, into its L2 slice at level 1. A control line held elsewhere is asked
for; a Blend sector is not merged. -/
def prefLane (s : State) (g : Group) (level : Nat) (x : Xlat) : State :=
  if (placeBad s g.core x.at_ 1).isSome then s
  else match x.at_ with
    | .ten p => if level = 1 then l2Touch s p 1 false (tagOf s g.ctxid)
      else if viaL2 false x then s else fillLine (l2Touch s p 1 false (tagOf s g.ctxid)) g.core (p / 64)
    | .ctl p => if level = 1 || viaL2 false x || (homeState s p).isSome then s
      else if ownedAway s (p / 64) then askData s (p / 64) else fillCtl s g.core (p / 64)
    | _ => s
/-- PREF (R227): fills alone; lanes that would fault, or whose address register is poisoned, are dropped, and no T is entered. -/
def execPref (S : BitVec 3) (l a : BitVec 7) (s : State) : Host.Outcome State Fault Refusal :=
  issueWith (.pref S l a) s (fun s g e bad =>
    let t := (lanesOf (minus e.mask bad)).foldl (fun t i => match translate s (.core g.core) g.ctxid g.kernel .load (laneAddr0 s g i a) 1 with
        | .ok x => prefLane t g l.toNat x
        | _ => t) s
    (moveOn t g e S, .quiet))

end Sys2Proof.Machine
end

