-- ==== Sys2Proof/Machine/Async.lean ====
section
/-! DEFINITION. Hand-off queues, copies, page requests and handles (10 R228-R240, 04 R92): what their instructions do at
issue. Elements, records and completions are events (Engines.lean). -/

namespace Sys2Proof.Machine

/-! ## Operations and handles -/

/-- Start an asynchronous operation (R101): a slot takes its next generation (R239), and the team holds the operation
until it leaves Pending (R238, R259). -/
def newAop (s : State) (g : Group) (kind : AKind) (st : AState) (slot : Option Nat) (deps after : List Nat) : Nat × State :=
  let (id, s) := fresh s
  let gen := match slot with
    | some n => mapGet 0 (coreOf s g.core).gens n
    | none => 0
  let o : AOp := {
    id := id, kind := kind, core := g.core, team := g.team, gid := g.gid, ctx := g.ctxid, kernel := g.kernel, st := st,
    slot := slot, gen := gen, exported := none, exporter := 0, cancelled := false, bar := none, got := [], done := [], flight := [], held := [],
    after := after, deps := deps, poisoned := [], unfit := [] }
  let s := { s with aops := s.aops ++ [o] }
  let s := match slot with
    | some n => modCore s g.core (fun c => { c with gens := mapSet 0 c.gens n ((gen + 1) % 2048) })
    | none => s
  (id, if st == .pending then modTeam s g.team (fun t => { t with ops := t.ops ++ [id] }) else s)
/-- Start an asynchronous operation in handle h. -/
def startAop (s : State) (g : Group) (h : Nat) (kind : AKind) (st : AState) (slot : Option Nat) (deps after : List Nat) : Nat × State :=
  let (id, s) := newAop s g kind st slot deps after
  (id, modGroup s g.gid (fun g => writeH g h id))
/-- The operation joins the expected set of a barrier (R203). -/
def joinBar (s : State) (g : Group) (id : Nat) : Option Bar → State
  | none => s
  | some k =>
    let cur := barOf s g.team k
    let s := setBar s g.team { cur with ops := cur.ops ++ [id] }
    { s with aops := s.aops.map (fun o => if o.id == id then { o with bar := some (k.frame, k.callee, k.role, k.num) } else o) }

/-- Every team with a group that holds a handle naming an operation, and the team that started it. -/
def teamsNaming (s : State) (id team : Nat) : List Nat :=
  insAll (team :: (s.groups.filter (fun g => g.h.any (fun p => p.2 == id))).map (·.team)) []
/-- An operation leaves Pending (R101): it arrives on its barrier (R203), and every handle that names it sees the state. -/
def endAop (s : State) (id : Nat) (st : AState) : State :=
  match aopOf s id with
  | none => s
  | some o =>
    if o.st != .pending then s
    else
      let s := setAop s { o with st := st, held := [], got := [] }
      let s := opArrive s o.team id
      let s := { s with teams := s.teams.map (fun t => { t with ops := delNat id t.ops }),
                        saved := s.saved.map (fun v => { v with teams := v.teams.map (fun t =>
                          { t with ops := delNat id t.ops, bars := t.bars.map (fun b => { b with ops := delNat id b.ops }) }) }) }
      (teamsNaming s id o.team).foldl settle s

/-! ## Hand-off queues (R230, R231) -/

/-- The next parking number. -/
def parkNow (s : State) (g : Group) (e : Ent) (i : Instr) (mem : Mask) (vals : List (Nat × Word × Word)) : State × Fate :=
  let (n, s) := fresh s
  park s g e i mem n vals

/-- QPUSH at issue. -/
def qpushIssue (q : BitVec 3) (a : RegName) (i : Instr) (s : State) (g : Group) (e : Ent) : State × Fate :=
  match queueOf s g.team q.toNat with
  | none => causeAll s g e 0x086 0
  | some (depth, es) =>
    let vals := (lanesOf e.mask).map (fun l => (l, readReg s g l a, (0 : Word)))
    if es.length < depth && (queueWaiters s g.team pushQueue q.toNat).isEmpty then
      let s := markRegs s g.gid e.mask
      (moveOn (setQueue s g.team q.toNat (es ++ [pushEntry s g e.mask vals])) g e 0, .loud)
    else parkNow s g e i 0 vals
/-- QPUSH (R230): a poisoned register in some lane keeps every lane from being pushed (R240). -/
def execQpush (S q : BitVec 3) (a : RegName) (s : State) : Host.Outcome State Fault Refusal :=
  issueWith (.qpush S q a) s (fun s g e bad =>
    if bad != 0 && (queueOf s g.team q.toNat).isSome then (raise s g.gid e.prio e.pc ⟨bad, 0x181, e.pc, 0⟩, .loud)
    else qpushIssue q a (.qpush S q a) s g e)

/-- QPOP at issue. -/
def qpopIssue (d : RegName) (m q : BitVec 3) (i : Instr) (s : State) (g : Group) (e : Ent) : State × Fate :=
  match queueOf s g.team q.toNat with
  | none => causeAll s g e 0x086 0
  | some (_, es) =>
    match es with
    | x :: xs =>
      if (queueWaiters s g.team popQueue q.toNat).isEmpty then
        (moveOn (popTo (setQueue s g.team q.toNat xs) g e d m.toNat x) g e 0, .loud)
      else parkNow s g e i 0 [(0, BitVec.ofNat 32 g.vwb, 0)]
    | [] => parkNow s g e i 0 [(0, BitVec.ofNat 32 g.vwb, 0)]
/-- QPOP (R231). -/
def execQpop (S : BitVec 3) (d : RegName) (m q : BitVec 3) (s : State) : Host.Outcome State Fault Refusal :=
  issue (.qpop S d m q) s (qpopIssue d m q (.qpop S d m q))

/-! ## COPY (R232-R236) -/

/-- Data laid over bytes that start at `a`, where they meet. -/
def layOver (a : Nat) (bs : List Byte) (b : Nat) (data : List Byte) : List Byte :=
  ((List.range bs.length).zip bs).map (fun p =>
    if b ≤ a + p.1 ∧ a + p.1 < b + data.length then data.getD (a + p.1 - b) p.2 else p.2)
/-- Bytes of a place as a set of lanes of a group sees them: their own earlier plain stores, not yet performed, on top
(R295). -/
def ownOver (s : State) (core gid : Nat) (lanes : Mask) (before : Nat) (p : Place) (bs : List Byte) : List Byte :=
  (s.ops.filter (fun o => o.gid == gid && isPlainStore o.kind && o.id < before)).foldl (fun bs o =>
    o.accs.foldl (fun bs a =>
      if a.done || !bitAt lanes a.lane then bs
      else match canonPlace core p, canonPlace core a.at_ with
        | .ctl x, .ctl y => layOver x bs y (leBytes a.size a.data.toNat)
        | .ten x, .ten y => layOver x bs y (leBytes a.size a.data.toNat)
        | .win c r x, .win c' r' y => if c == c' && r == r' then layOver x bs y (leBytes a.size a.data.toNat) else bs
        | _, _ => bs) bs) bs

/-- On top of what a core reads from memory, its L1 or another core's array: the stores of its lanes that are performed for its own
agents only (R299). -/
def coreOver (s : State) (core : Nat) (p : Place) (bs : List Byte) : List Byte :=
  (s.ops.filter (fun o => o.core == core)).foldl (fun bs o => o.accs.foldl (fun bs a =>
    if !a.reached || a.done then bs
    else match p, a.at_ with
      | .ten x, .ten y => layOver x bs y (leBytes a.size a.data.toNat)
      | .win c r x, .win c' r' y => if c == c' && r == r' then layOver x bs y (leBytes a.size a.data.toNat) else bs
      | _, _ => bs) bs) bs

/-- Reads of n bytes for a whole group: translation, integrity, and the bytes with the lanes' own stores on top. -/
def groupRead (s : State) (g : Group) (m : Mask) (va : DWord) (n : Nat) : Except XRes (List Byte × List Nat × Place) :=
  match translate s (.core g.core) g.ctxid g.kernel .load va n with
  | .ok x =>
    let away := match x.at_ with
      | .ctl a => ownedAway s (a / 64)
      | _ => false
    if away then .error (.held (match x.at_ with
      | .ctl a => a / 64
      | _ => 0))
    else (match placeBad s g.core x.at_ n with
      | some c => .error (.fault c)
      | none => .ok (ownOver s g.core g.gid m s.nextId x.at_ (coreOver s g.core x.at_ (placeBytes s x.at_ n)), x.sectors, x.at_))
  | r => .error r
/-- The descriptor's twelve words: three 32-byte words, each translated (R232). -/
def readDesc (s : State) (g : Group) (m : Mask) (va : DWord) : Except XRes (List DWord × List Nat × List Place) :=
  if va.toNat % 32 ≠ 0 then .error (match spaceCheck va with
    | some c => .fault c
    | none => .fault 0x04C)
  else match groupRead s g m va 32, groupRead s g m (va + 32) 32, groupRead s g m (va + 64) 32 with
    | .ok (a, sa, pa), .ok (b, sb, pb), .ok (c, sc, pc) =>
      let bs := a ++ b ++ c
      .ok ((List.range 12).map (fun j => BitVec.ofNat 64 (leNat ((bs.drop (8 * j)).take 8))), insAll sa (insAll sb sc), [pa, pb, pc])
    | .error r, _, _ => .error r
    | _, .error r, _ => .error r
    | _, _, .error r => .error r
/-- What a read leaves: the sectors in T, and its Blend sectors merged (R80, R90). -/
def readLeaves (s : State) (core : Nat) (sectors : List Nat) (ps : List Place) : State :=
  ps.foldl (fun s p => match p with
    | .ctl a => mergeBlend s (a / 64)
    | _ => s) (fillT s (.core core) sectors)

/-- What the read of a descriptor that ends in a cause leaves: the walks', and failed checks marked (R90, R410). -/
def descLeaves (s : State) (g : Group) (va : DWord) : State :=
  [va, va + 32, va + 64].foldl (fun s va => match translate s (.core g.core) g.ctxid g.kernel .load va 32 with
    | .ok x => markRead s g.core x.at_
    | _ => faultLeaves s (.core g.core) g.ctxid va 32) s
/-- Fields of a copy descriptor (R233). -/
def descE (w : List DWord) (j : Nat) : Nat := bitsOf (w.getD 2 0) (16 * j) 16
/-- Window origin. -/
def descO (w : List DWord) (j : Nat) : Int := ((w.getD 3 0).extractLsb' (16 * j) 16).toInt
/-- Window sizes. -/
def descN (w : List DWord) (j : Nat) : Nat := bitsOf (w.getD 4 0) (16 * j) 16
/-- Element bytes. -/
def descES (w : List DWord) : Nat := 2 ^ bitsOf (w.getD 8 0) 0 2
/-- Source strides of dimensions 0 to 3. -/
def descSS (w : List DWord) (j : Nat) : Int :=
  if j = 0 then descES w
  else if j = 1 then ((w.getD 5 0).extractLsb' 0 32).toInt
  else if j = 2 then ((w.getD 5 0).extractLsb' 32 32).toInt
  else ((w.getD 6 0).extractLsb' 0 32).toInt
/-- Destination strides of dimensions 0 to 3. -/
def descDS (w : List DWord) (j : Nat) : Int :=
  if j = 0 then descES w
  else if j = 1 then ((w.getD 6 0).extractLsb' 32 32).toInt
  else if j = 2 then ((w.getD 7 0).extractLsb' 0 32).toInt
  else ((w.getD 7 0).extractLsb' 32 32).toInt
/-- FILL. -/
def descFill (w : List DWord) : Nat := bitsOf (w.getD 8 0) 2 2
/-- The barrier a copy names, when BARV = 1. -/
def descBar (w : List DWord) : Option Nat := if (w.getD 8 0).getLsbD 10 then some (bitsOf (w.getD 8 0) 11 5) else none
/-- A window scratchpad address (R71). -/
def isWinSpad (va : DWord) : Bool := bitsOf va 62 2 == 2 && bitsOf va 36 3 == 1
/-- R234, but for the barrier. -/
def descBad (s : State) (ctx : BitVec 16) (w : List DWord) : Bool :=
  let es : Int := descES w
  let w8 := w.getD 8 0
  bitsOf w8 16 48 != 0 || bitsOf (w.getD 9 0) 32 32 != 0 || w.getD 10 0 != 0 || w.getD 11 0 != 0 ||
  descFill w == 3 || (List.range 4).any (fun j => descE w j == 0 || descN w j == 0) ||
  (w.getD 0 0).toNat % descES w != 0 || (w.getD 1 0).toNat % descES w != 0 ||
  (List.range 4).any (fun j => descSS w j % es != 0 || descDS w j % es != 0) ||
  (bitsOf w8 4 3 != 0 && !isWinSpad (w.getD 0 0)) || (bitsOf w8 7 3 != 0 && !isWinSpad (w.getD 1 0)) ||
  (isRemote s ctx (w.getD 0 0) && isRemote s ctx (w.getD 1 0))

/-- Copies that come before a new one of queue q: earlier copies of the queue (R236) and those a FENCE.Q joined (R226). -/
def copiesBefore (s : State) (g : Group) (q : Nat) : List Nat :=
  let same := (s.aops.filter (fun o => o.core == g.core && aopLive o && (match o.kind with
    | .copy p _ => p == q
    | _ => false))).map (·.id)
  let fenced := (g.qJoins.filter (fun j => j.1.testBit q)).map (·.2)
  insAll (same ++ fenced.flatten) []
/-- Accesses that a fence placed before copies of these lanes (R224). -/
def copyDeps (s : State) (g : Group) (m : Mask) : List Nat :=
  insAll ((((g.deps ++ g.near).filter (fun d => d.2.2 && d.1 &&& m != 0)).map (·.2.1)).filter (fun i => s.ops.any (·.id == i))) []

/-- A copy that fails at once (R232, R407): its handle reads Error and no element is performed. -/
def copyError (s : State) (g : Group) (h q : Nat) (slot : Option Nat) (c : Cause) (x : DWord) : State :=
  (startAop s g h (.copy q []) (.error c x) slot [] []).2

/-- COPY at issue (R232-R234). -/
def copyIssue (S : BitVec 3) (h : BitVec 4) (a : RegName) (q : BitVec 3) (s : State) (g : Group) (e : Ent) : State × Fate :=
  if handleSt s g h.toNat == .pending then causeAll s g e 0x0E1 0
  else
    let slot := freeSlot s g.core false
    if 64 ≤ copiesOn s g.core || slot.isNone then (stallEnt s g.gid e 0 .copies, .stay)
    else if !ownReadsDone s g then (stallEnt s g.gid e 0 .ownLoads, .stay)
    else
      let va := groupPair s g e.mask a
      match readDesc s g e.mask va with
      | .error (.held x) => (stallWalk s g.gid e x, .stay)
      | .error (.fault c) => (moveOn (copyError (descLeaves s g va) g h.toNat q.toNat slot c va) g e S, .loud)
      | .error (.ok _) => (moveOn s g e S, .loud)
      | .ok (w, sectors, ps) =>
        let s := readLeaves s g.core sectors ps
        let bar := match descBar w with
          | none => Except.ok none
          | some n => (match barName s g n with
            | .error _ => Except.error ()
            | .ok b => Except.ok (some b))
        match bar, descBad s g.ctxid w with
        | .ok b, false =>
          let (id, s) := startAop (ownMark s 2 g.core g.ctxid) g h.toNat (.copy q.toNat w) .pending slot (copyDeps s g e.mask) (copiesBefore s g q.toNat)
          (moveOn (joinBar s g id b) g e S, .loud)
        | _, _ => (moveOn (copyError s g h.toNat q.toNat slot 0x0E0 0) g e S, .loud)
/-- COPY (R232). -/
def execCopy (S : BitVec 3) (h : BitVec 4) (a : RegName) (q : BitVec 3) (s : State) : Host.Outcome State Fault Refusal :=
  issue (.copy S h a q) s (copyIssue S h a q)

/-! ## PGREQ (R92, R228, R229) -/

/-- A lane's page and its walk. -/
def pageWalk (s : State) (g : Group) (a : RegName) (l : Nat) : DWord × XRes :=
  let va := laneAddr0 s g l a
  (va, translate s (.core g.core) g.ctxid g.kernel .probe va 1)
/-- Distinct pages in order of their lowest lane, with their lanes. -/
def pagesOf (ps : List (Nat × DWord)) : List (DWord × Mask) :=
  ps.foldl (fun acc p =>
    let pg := p.2 &&& ~~~(0xFFF : DWord)
    if acc.any (fun x => x.1 == pg) then acc.map (fun x => if x.1 == pg then (x.1, x.2 ||| bit1 p.1) else x)
    else acc ++ [(pg, bit1 p.1)]) []
/-- PGREQ at issue. -/
def pgreqIssue (S : BitVec 3) (h : BitVec 4) (a : RegName) (s : State) (g : Group) (e : Ent) : State × Fate :=
  if handleSt s g h.toNat == .pending then causeAll s g e 0x0E1 0
  else
    let ws : List LaneWalk := (lanesOf e.mask).map (fun l => (l, pageWalk s g a l))
    match heldAt ws, freeSlot s g.core true with
    | some x, _ => (stallWalk s g.gid e x, .stay)
    | none, none => (stallEnt s g.gid e 0 .pages, .stay)
    | none, some slot =>
      let s := faultWalks (fillT s (.core g.core) ((passOf ws).foldl (fun xs p => insAll p.2.2.sectors xs) [])) g (.load false) 1 0 ws
      match faultsOf ws with
      | f :: _ => (moveOn (startAop s g h.toNat (.pages [] []) (.error f.2.1 (f.2.2 &&& ~~~(0xFFF : DWord))) (some slot) [] []).2 g e S, .loud)
      | [] =>
        let ok := passOf ws
        let away := ok.filter (fun p => p.2.2.nonRes)
        if away.isEmpty then (moveOn (startAop s g h.toNat (.pages [] []) .done (some slot) [] []).2 g e S, .loud)
        else
          (moveOn (startAop s g h.toNat (.pages (pagesOf (away.map (fun p => (p.1, p.2.1)))) []) .pending (some slot) [] []).2 g e S,
            .loud)
/-- PGREQ (R92, R228). -/
def execPgreq (S : BitVec 3) (h : BitVec 4) (a : RegName) (s : State) : Host.Outcome State Fault Refusal :=
  issue (.pgreq S h a) s (pgreqIssue S h a)

/-! ## Handles (R237-R239) -/

/-- HWAIT (R237). -/
def execHwait (S : BitVec 3) (h : BitVec 4) (s : State) : Host.Outcome State Fault Refusal :=
  issue (.hwait S h) s (fun s g e =>
    if handleSt s g h.toNat == .pending then
      match postBroken s g h.toNat with
      | some c => causeAll s g e c 0
      | none => park s g e (.hwait S h) 0 0 []
    else (hwaitDone s g e h.toNat, .loud))
/-- The word HTEST writes. -/
def htestWord (st : AState) : Word := match st with
  | .idle => 0
  | .pending => 1
  | .done => 2
  | .error c _ => BitVec.ofNat 32 (3 + c.toNat * 65536)
/-- HTEST (R237). -/
def execHtest (S : BitVec 3) (d : RegName) (h : BitVec 4) (s : State) : Host.Outcome State Fault Refusal :=
  issue (.htest S d h) s (board1 S d (fun s g _ => htestWord (handleSt s g h.toNat)))

/-- The token of an operation (R239). -/
def tokenOf (o : AOp) : Word := match o.slot with
  | some n => BitVec.ofNat 32 (2 ^ 31 + o.gen * 2 ^ 20 + n)
  | none => 0
/-- HEXPORT at issue (R237, R269). -/
def hexportIssue (S : BitVec 3) (d : RegName) (h : BitVec 4) (s : State) (g : Group) (e : Ent) : State × Fate :=
  match aopOf s (readH g h.toNat) with
  | none => board1 S d (fun _ _ _ => 0) s g e
  | some o =>
    if o.st == .idle then board1 S d (fun _ _ _ => 0) (modGroup s g.gid (fun g => writeH g h.toNat 0)) g e
    else if o.slot.isNone then causeAll s g e 0x0C6 0
    else
      let s := setAop s { o with exported := some g.ctxid.toNat, exporter := g.gid }
      board1 S d (fun _ _ _ => tokenOf o) (modGroup s g.gid (fun g => writeH g h.toNat 0)) g e
/-- HEXPORT (R237). -/
def execHexport (S : BitVec 3) (d : RegName) (h : BitVec 4) (s : State) : Host.Outcome State Fault Refusal :=
  issue (.hexport S d h) s (hexportIssue S d h)

/-- The operation a token names here (R239). -/
def tokenOp (s : State) (g : Group) (t : Word) : Option AOp :=
  if !t.getLsbD 31 || t.extractLsb' 7 13 != 0 then none
  else s.aops.find? (fun o => o.core == g.core && o.exported == some g.ctxid.toNat && o.slot == some (t.extractLsb' 0 7).toNat &&
    o.gen == (t.extractLsb' 20 11).toNat)
/-- HIMPORT at issue: the team that exported the operation no longer waits for it, unless another handle there names it (R238). -/
def himportIssue (S : BitVec 3) (h : BitVec 4) (a : RegName) (s : State) (g : Group) (e : Ent) : State × Fate :=
  let t := groupVal s g e.mask a
  if handleSt s g h.toNat == .pending then causeAll s g e 0x0E1 0
  else if t = 0 then (moveOn (modGroup s g.gid (fun g => writeH g h.toNat 0)) g e S, .loud)
  else match tokenOp s g t with
    | none => causeAll s g e 0x0E2 0
    | some o =>
      let s := setAop s { o with exported := none }
      let names := fun (t : Team) => (s.groups.filter (fun g => g.team == t.tid) ++ (t.frames.map (·.callers)).flatten).any (fun g =>
        g.h.any (fun p => p.2 == o.id))
      let s := { s with teams := s.teams.map (fun t => if names t then t else { t with ops := delNat o.id t.ops }) }
      let s := if o.st == .pending then modTeam s g.team (fun t => { t with ops := delNat o.id t.ops ++ [o.id] }) else s
      (moveOn (modGroup s g.gid (fun g => writeH g h.toNat o.id)) g e S, .loud)
/-- HIMPORT (R237, R239). -/
def execHimport (S : BitVec 3) (h : BitVec 4) (a : RegName) (s : State) : Host.Outcome State Fault Refusal :=
  issue (.himport S h a) s (himportIssue S h a)

end Sys2Proof.Machine
end

