-- ==== Sys2Proof/Machine/Matrix.lean ====
section
/-! DEFINITION. The matrix engine (11 R242-R259): ownership, what MMA and the tile operations check at issue, and what each
does at its turn in the operation stream (MATRIX_OP_RETIRE). -/

namespace Sys2Proof.Machine

/-! ## Ownership (R243-R246) -/

/-- The group owns the engine for issue purposes. -/
def ownsEngine (s : State) (g : Group) : Bool :=
  let c := coreOf s g.core
  (match c.owner with
    | some w => w.gid == g.gid
    | none => false) && !c.released
/-- AOWN names another context, or none (R243). -/
def aownBad (s : State) (g : Group) : Bool :=
  let a := (coreOf s g.core).aown
  !a.getLsbD 16 || a.extractLsb' 0 16 != g.ctxid
/-- Settle every team of a core. -/
def settleCore (s : State) (core : Nat) : State :=
  ((s.teams.filter (fun t => t.core == core)).map (·.tid)).foldl settle s

/-- MACQ at issue (R244). -/
def macqIssue (i : Instr) (s : State) (g : Group) (e : Ent) : State × Fate :=
  let c := coreOf s g.core
  if aownBad s g then causeAll s g e 0x0C1 0
  else if ownsEngine s g || c.fifo.any (fun w => w.gid == g.gid) then causeAll s g e 0x0C4 0
  else if c.owner.isNone && c.fifo.isEmpty then
    (moveOn (setCore s g.core { c with owner := some ⟨g.gid, g.team⟩, released := false }) g e 0, .loud)
  else if 16 ≤ c.fifo.length then (stallEnt s g.gid e 0 .fifo, .stay)
  else parkNow (setCore s g.core { c with fifo := c.fifo ++ [⟨g.gid, g.team⟩] }) g e i 0 []
/-- MACQ (R244). -/
def execMacq (S : BitVec 3) (s : State) : Host.Outcome State Fault Refusal := issue (.macq S) s (macqIssue (.macq S))

/-- The checks every matrix instruction but MACQ makes first (R243, R245, R246): a cause, or a stall. -/
def ownCheck (s : State) (g : Group) : Option (Except Cause Why) :=
  if g.engineWait then some (.ok .engine)
  else if aownBad s g then some (.error 0x0C1)
  else if !ownsEngine s g then some (.error 0x0C0)
  else none
/-- MREL (R245). -/
def execMrel (S : BitVec 3) (s : State) : Host.Outcome State Fault Refusal :=
  issue (.mrel S) s (fun s g e =>
    match ownCheck s g with
    | some (.error c) => causeAll s g e c 0
    | some (.ok w) => (stallEnt s g.gid e 0 w, .stay)
    | none => (moveOn (modCore s g.core (fun c => { c with released := true })) g e S, .loud))

/-! ## Operand and tile words (R247-R251, R256) -/

/-- Row length K of MMA (R249): 32 for 16-bit elements, 64 for 8-bit; doubled under MMA.P. -/
def mmaK (w : Nat) (pair : Bool) : Nat := (if w = 16 then 32 else 64) * (if pair then 2 else 1)
/-- UNF. -/
def unfOn (aw : DWord) : Bool := aw.getLsbD 35
/-- AOFF. -/
def aOff (aw : DWord) : Nat := bitsOf aw 0 19
/-- BOFF or OFF in bytes. -/
def bOff (bw : Word) : Nat := (bw.extractLsb' 0 13).toNat * 64
/-- The status word's offset in bytes. -/
def sOff (bw : Word) : Nat := (bw.extractLsb' 13 13).toNat * 64
/-- BARV. -/
def barv (bw : Word) : Bool := bw.getLsbD 26
/-- BAR. -/
def barNum (bw : Word) : Nat := (bw.extractLsb' 27 5).toNat
/-- The unfold view's pixel x of A element (i, k) (R250). -/
def unfX (aw : DWord) (i k : Nat) : Int :=
  (aw.extractLsb' 44 10).toInt + (i : Int) * ((bitsOf aw 43 1 : Int) + 1) + (k / 2 ^ bitsOf aw 40 3 : Nat)
/-- Byte offset of A element (i, k) from the team's scratchpad; `none` where the unfold view reads +0. -/
def aAt (aw : DWord) (e k0 i k : Nat) : Option Nat :=
  if unfOn aw then
    let x := unfX aw i k
    if x < 0 ∨ (bitsOf aw 54 10 : Int) ≤ x then none
    else some (aOff aw + (x.toNat * 2 ^ bitsOf aw 40 3 + k % 2 ^ bitsOf aw 40 3) * e)
  else some (aOff aw + (k0 * i + k) * e)
/-- Bytes that a dense operand and its scales take (R249). -/
def denseLen (slot : DWord) (e k0 : Nat) : Nat := 32 * k0 * e + (if slotScale slot then 32 * (k0 / slotBlk slot) else 0)
/-- Offsets of the bytes that A reads: the dense run, or each element's bytes under the unfold view. -/
def aBytes (aw : DWord) (slot : DWord) (e k0 : Nat) : List Nat :=
  if unfOn aw then
    (((List.range 32).map (fun i => (List.range k0).filterMap (fun k => aAt aw e k0 i k))).flatten.map
      (fun o => (List.range e).map (· + o))).flatten
  else (List.range (denseLen slot e k0)).map (· + aOff aw)
/-- R251, matrix-operand. -/
def mmaBad (slots : List DWord) (aw : DWord) (bw : Word) : Bool :=
  let sa := slots.getD (bitsOf aw 32 3) 0
  let sb := slots.getD (bitsOf aw 20 3) 0
  let w := elemWidth (slotElem sa)
  bitsOf aw 36 4 != 0 || bitsOf aw 23 9 != 0 || aw.getLsbD 19 || (!unfOn aw && bitsOf aw 40 24 != 0) ||
  w == 32 || elemWidth (slotElem sb) == 32 || w != elemWidth (slotElem sb) ||
  (unfOn aw && (bitsOf aw 40 3 < 2 || 6 < bitsOf aw 40 3 || bitsOf aw 54 10 == 0 || slotScale sa)) ||
  (!barv bw && sOff bw != 0) ||
  (if unfOn aw then aOff aw % (w / 8) != 0 else aOff aw % 64 != 0)
/-- R251, operand-range. -/
def mmaRange (slots : List DWord) (aw : DWord) (bw : Word) (pair : Bool) (spBytes : Nat) : Bool :=
  let sa := slots.getD (bitsOf aw 32 3) 0
  let sb := slots.getD (bitsOf aw 20 3) 0
  let e := elemWidth (slotElem sa) / 8
  let k0 := mmaK (elemWidth (slotElem sa)) pair
  (aBytes aw sa e k0).any (fun o => spBytes ≤ o) || spBytes < bOff bw + denseLen sb e k0 || spBytes < sOff bw + 4

/-- The barrier an operand word names (R254, R56). -/
def wordBar (s : State) (g : Group) (bw : Word) : Except Cause (Option Bar) :=
  if barv bw then (match barName s g (barNum bw) with
    | .ok b => .ok (some b)
    | .error c => .error c)
  else .ok none

/-- Writes that have reached one of the core's tiles (R105). -/
def tileWrites (s : State) (core tile : Nat) : List Nat :=
  (s.tileWrites.filter (fun w => w.core == core && w.tile == tile && tileLive s w)).map (·.id)

/-- An operation enters the stream (R246, R254, R255, R259). -/
def enterStream (s : State) (g : Group) (i : Instr) (lo : DWord) (b : Word) (tile : Nat) (bar : Option Bar) : State :=
  let (id, s) := newAop (ownMark s 8 g.core g.ctxid) g .matrix .pending none [] []
  let s := joinBar s g id bar
  let own := (s.ops.filter (fun o => o.gid == g.gid && o.kind == .stsp)).map (·.id)
  let edges := ((g.deps ++ g.near).map (·.2.1)).filter (fun n => s.ops.any (·.id == n))
  let t := teamOf s g.team
  let m : MOp := {
    op := id, i := i, gid := g.gid, team := g.team, ctx := g.ctxid, lo := lo, b := b, srcnt := g.srcnt,
    spBase := (t.map (·.spBase)).getD 0, spBytes := spBytesOf s g, lin := (t.map (·.lin)).getD 0,
    slots := (List.range 8).map (slotOf s g), after := insAll (own ++ edges ++ tileWrites s g.core tile) [] }
  modCore s g.core (fun c => { c with stream := c.stream ++ [m] })

/-- The stream is full (R246). -/
def streamFull (s : State) (g : Group) : Bool := 16 ≤ (coreOf s g.core).stream.length

/-- A matrix operation at issue: its own check, its barrier, room in the stream, then its entry. -/
def matIssue (S : BitVec 3) (i : Instr) (tile : Nat) (lo : State → Group → DWord) (b : State → Group → Word)
    (own : State → Group → Option Cause) (adv : State → Group → State) : State → Group → Ent → State × Fate :=
  fun s g e =>
    match ownCheck s g with
    | some (.error c) => causeAll s g e c 0
    | some (.ok w) => (stallEnt s g.gid e 0 w, .stay)
    | none =>
      match own s g, wordBar s g (b s g) with
      | some c, _ => causeAll s g e c 0
      | none, .error c => causeAll s g e c 0
      | none, .ok bar =>
        if streamFull s g then (stallEnt s g.gid e 0 .stream, .stay)
        else (moveOn (adv (enterStream s g i (lo s g) (b s g) tile bar) g) g e S, .quiet)

/-- The checks of MMA and MMA.P (R251, R253). -/
def mmaOwn (pair : Bool) (a b : RegName) (s : State) (g : Group) : Option Cause :=
  let slots := (List.range 8).map (slotOf s g)
  let aw := readPair s g 0 a
  let bw := readReg s g 0 b
  if pair && g.core % 2 == 1 then some 0x0C3
  else if mmaBad slots aw bw then some 0x0C2
  else if mmaRange slots aw bw pair (spBytesOf s g) then some 0x0C5
  else none
/-- MMA (R252). -/
def execMma (S : BitVec 3) (x : BitVec 1) (t : BitVec 3) (a b : RegName) (s : State) : Host.Outcome State Fault Refusal :=
  issue (.mma S x t a b) s (matIssue S (.mma S x t a b) t.toNat (fun s g => readPair s g 0 a) (fun s g => readReg s g 0 b)
    (mmaOwn false a b) (fun s _ => s))
/-- MMA.P (R253). -/
def execMmaP (S : BitVec 3) (x : BitVec 1) (t : BitVec 3) (a b : RegName) (s : State) : Host.Outcome State Fault Refusal :=
  issue (.mmaP S x t a b) s (matIssue S (.mmaP S x t a b) t.toNat (fun s g => readPair s g 0 a) (fun s g => readReg s g 0 b)
    (mmaOwn true a b) (fun s _ => s))
/-- MZERO (R256). -/
def execMzero (S t : BitVec 3) (s : State) : Host.Outcome State Fault Refusal :=
  issue (.mzero S t) s (matIssue S (.mzero S t) t.toNat (fun _ _ => 0) (fun _ _ => 0) (fun _ _ => none) (fun s _ => s))
/-- The checks of MLOADA and MSTOREA (R256). -/
def tileOwn (store : Bool) (a : RegName) (s : State) (g : Group) : Option Cause :=
  let p := readPair s g 0 a
  let lo := loWord p
  let slot := slotOf s g (hiWord p).toNat
  let n := if store then 1024 * (elemWidth (slotElem slot) / 8) else 4096
  if (hiWord p).toNat / 8 ≠ 0 || (!barv lo && sOff lo != 0) || (if store then slotScale slot else hiWord p != 0) then some 0x0C2
  else if spBytesOf s g < bOff lo + n || spBytesOf s g < sOff lo + 4 then some 0x0C5
  else none
/-- MLOADA (R256). -/
def execMloada (S t : BitVec 3) (a : RegName) (s : State) : Host.Outcome State Fault Refusal :=
  issue (.mloada S t a) s (matIssue S (.mloada S t a) t.toNat (fun s g => readPair s g 0 a)
    (fun s g => loWord (readPair s g 0 a)) (tileOwn false a) (fun s _ => s))
/-- MSTOREA (R256, R257): SRCNT advances at issue when its slot has ROUND = 2. -/
def execMstorea (S t : BitVec 3) (a : RegName) (s : State) : Host.Outcome State Fault Refusal :=
  issue (.mstorea S t a) s (matIssue S (.mstorea S t a) t.toNat (fun s g => readPair s g 0 a)
    (fun s g => loWord (readPair s g 0 a)) (tileOwn true a)
    (fun t h => if slotRound (slotOf s h (hiWord (readPair s h 0 a)).toNat) = 2 then
      modGroup t h.gid (fun k => { k with srcnt := k.srcnt + 1 }) else t))

/-! ## At its turn in the stream (R252-R257) -/

/-- An element read from the scratchpad: e bytes at a team offset. -/
def spadElem (s : State) (core : Nat) (m : MOp) (o e : Nat) : Nat :=
  leNat ((List.range e).map (fun j => memByte (coreOf s core).spad (m.spBase + o + j)))
/-- An element with its block scale (R122, R249); `so` is its scale byte. -/
def scaled (s : State) (core : Nat) (m : MOp) (slot : DWord) (o e so : Nat) : FVal :=
  let v := decodeElem (slotElem slot) (spadElem s core m o e)
  if slotScale slot then scaledElem (spadElem s core m so 1) v else v
/-- Slots of an MMA. -/
def aSlot (m : MOp) : DWord := m.slots.getD (bitsOf m.lo 32 3) 0
/-- The slot of B. -/
def bSlot (m : MOp) : DWord := m.slots.getD (bitsOf m.lo 20 3) 0
/-- A(i, k) (R249, R250). -/
def mmaA (s : State) (core : Nat) (m : MOp) (e k0 i k : Nat) : FVal :=
  match aAt m.lo e k0 i k with
  | none => .fin false 0 0
  | some o => scaled s core m (aSlot m) o e (aOff m.lo + 32 * k0 * e + i * (k0 / slotBlk (aSlot m)) + k / slotBlk (aSlot m))
/-- B(k, j) (R249). -/
def mmaB (s : State) (core : Nat) (m : MOp) (e k0 k j : Nat) : FVal :=
  scaled s core m (bSlot m) (bOff m.b + (32 * k + j) * e) e
    (bOff m.b + 32 * k0 * e + j * (k0 / slotBlk (bSlot m)) + k / slotBlk (bSlot m))
/-- The scratchpad words an MMA reads. -/
def mmaWords (m : MOp) (e k0 : Nat) : List Nat :=
  (((aBytes m.lo (aSlot m) e k0) ++ (List.range (denseLen (bSlot m) e k0)).map (· + bOff m.b)).foldl
    (fun ws o => insNat ((m.spBase + o) / 32) ws) [])
/-- ±∞ or NaN in FP32. -/
def nonFin (w : Word) : Bool := w.extractLsb' 23 8 == 0xFF#8
/-- The tile's element number in the accumulator store. -/
def accAt (t k : Nat) : Nat := t * 1024 + k
/-- Write elements of a tile; their parity is good again. -/
def writeTile (s : State) (core t : Nat) (ws : List Word) : State :=
  modCore s core (fun c =>
    ((List.range ws.length).zip ws).foldl (fun c p => { c with acc := mapSet 0 c.acc (accAt t p.1) p.2,
                                                               accBad := delNat (accAt t p.1) c.accBad }) c)
/-- The result of MMA for element (i, j), and whether it met bad parity (R135, R252, R254). -/
def mmaElem (s : State) (core : Nat) (m : MOp) (ovw : Bool) (e k0 t i j : Nat) : Word × Bool :=
  let c := coreOf s core
  let n := accAt t (32 * i + j)
  let terms := (List.range k0).map (fun k => mulV (mmaA s core m e k0 i k) (mmaB s core m e k0 k j))
  if ovw then (rnd32 (sumV terms), false)
  else if c.accBad.contains n then (0x7FC00000, true)
  else (rnd32 (sumV (terms ++ [dec32 (mapGet 0 c.acc n)])), false)

/-- Flags of a status word (R254), before TILE and PAIR. -/
structure Flags where
  opchk : Bool
  cell : Bool
  accpar : Bool
  nonfin : Bool
deriving DecidableEq, Repr
/-- The OR of flags into a status word, with TILE and PAIR (R254). -/
def statusWord (old : Word) (f : Flags) (t : Nat) (pair : Bool) : Word :=
  if !f.opchk && !f.cell && !f.accpar && !f.nonfin then old
  else (old &&& ~~~(0x70 : Word)) ||| BitVec.ofNat 32 (16 * t + (if f.opchk then 1 else 0) + (if f.cell then 2 else 0) +
    (if f.accpar then 4 else 0) + (if f.nonfin then 8 else 0) + (if pair then 128 else 0))

/-- MMA at its turn. -/
def mmaRun (s : State) (core : Nat) (m : MOp) (ovw pair cell : Bool) (t : Nat) : State × Flags :=
  let w := elemWidth (slotElem (aSlot m))
  let e := w / 8
  let k0 := mmaK w pair
  let ws := mmaWords m e k0
  let s := spadVerify s core ws
  let opchk := ws.any ((coreOf s core).spadPoison.contains)
  if opchk || cell then (s, ⟨opchk, cell, false, false⟩)
  else
    let rs := (List.range 1024).map (fun n => mmaElem s core m ovw e k0 t (n / 32) (n % 32))
    (writeTile s core t (rs.map (·.1)), ⟨false, false, rs.any (·.2), rs.any (fun r => nonFin r.1)⟩)
/-- MLOADA at its turn. -/
def mloadaRun (s : State) (core : Nat) (m : MOp) (cell : Bool) (t : Nat) : State × Flags :=
  let ws := wordsAt (m.spBase + bOff m.b) 4096
  let s := spadVerify s core ws
  let opchk := ws.any ((coreOf s core).spadPoison.contains)
  if opchk || cell then (s, ⟨opchk, cell, false, false⟩)
  else
    let rs := (List.range 1024).map (fun n => BitVec.ofNat 32 (spadElem s core m (bOff m.b + 4 * n) 4))
    (writeTile s core t rs, ⟨false, false, false, rs.any nonFin⟩)
/-- An element of a tile converted by a slot (R256, R257), FP32 under RNE copied unless it is a NaN: its code, and whether the value read or written is not finite. -/
def storeElem (m : MOp) (slot : DWord) (bad : Bool) (n : Nat) (x : Word) : Nat × Bool :=
  let v := if bad then FVal.nan false else dec32 x
  let mode := slotMode slot (drawU (slotSeed slot) (BitVec.ofNat 32 m.lin) m.srcnt (BitVec.ofNat 32 n))
  let code := if slotElem slot = 0 ∧ mode = .rne ∧ !isNan v then x.toNat else encodeElem (slotElem slot) (slotIeee slot) mode v
  let fin := fun v => match v with
    | FVal.fin _ _ _ => true
    | _ => false
  (code, !fin v || !fin (decodeElem (slotElem slot) code))
/-- MSTOREA at its turn. -/
def mstoreaRun (s : State) (core : Nat) (m : MOp) (t : Nat) : State × Flags :=
  let slot := m.slots.getD (hiWord m.lo).toNat 0
  let e := elemWidth (slotElem slot) / 8
  let c := coreOf s core
  let rs := (List.range 1024).map (fun n =>
    storeElem m slot (c.accBad.contains (accAt t n)) n (mapGet 0 c.acc (accAt t n)))
  (spadWrite s core (m.spBase + bOff m.b) ((rs.map (fun r => leBytes e r.1)).flatten),
    ⟨false, false, (List.range 1024).any (fun n => c.accBad.contains (accAt t n)), rs.any (·.2)⟩)
/-- The operation's own effect, its flags, its tile, and whether it is an MMA.P. -/
def streamRun (s : State) (core : Nat) (m : MOp) (cell : Bool) : State × Flags × Nat × Bool :=
  match m.i with
  | .mma _ x t _ _ => let r := mmaRun s core m (x == 1) false cell t.toNat; (r.1, r.2, t.toNat, false)
  | .mmaP _ x t _ _ => let r := mmaRun s core m (x == 1) true cell t.toNat; (r.1, r.2, t.toNat, true)
  | .mzero _ t => (writeTile s core t.toNat (List.replicate 1024 0), ⟨false, false, false, false⟩, t.toNat, false)
  | .mloada _ t _ => let r := mloadaRun s core m cell t.toNat; (r.1, r.2, t.toNat, false)
  | .mstorea _ t _ => let r := mstoreaRun s core m t.toNat; (r.1, r.2, t.toNat, false)
  | _ => (s, ⟨false, false, false, false⟩, 0, false)
/-- The array works on this operation, so that a cell fault can strike it (R254). -/
def usesArray : Instr → Bool
  | .mma _ _ _ _ _ => true
  | .mmaP _ _ _ _ _ => true
  | _ => false
/-- The status write and the arrival (R254); the operation retires. -/
def streamEnd (s : State) (core : Nat) (m : MOp) (f : Flags) (t : Nat) (pair : Bool) : State :=
  let s := if barv m.b then
      let a := m.spBase + sOff m.b
      let old := BitVec.ofNat 32 (leNat ((List.range 4).map (fun j => memByte (coreOf s core).spad (a + j))))
      let new := statusWord old f t pair
      if new = old then s else spadWrite s core a (leBytes 4 new.toNat)
    else s
  let s := modCore s core (fun c => { c with stream := c.stream.filter (fun o => o.op != m.op) })
  settleCore (endAop s m.op .done) core

end Sys2Proof.Machine
end

