-- ==== Sys2Proof/Machine/Coll.lean ====
section
/-! DEFINITION. Ranks and the rank table (15 R322-R326), the collective members of 11 R260-R262, the engine's work on chunks
(15 R333-R341), what breaks a collective and how its members agree and cancel (24 R432-R439), and HCANCEL, which ends either
kind of operation. -/

namespace Sys2Proof.Machine

/-! ## The rank table (R322-R326) -/

/-- RB (R228): the first multiple of 1 KiB at or above CTXTAB + 0x10_0000. -/
def rbBase (s : State) : Nat := (s.ctxtab.toNat + 0x100000 + 1023) / 1024 * 1024
/-- Address of the rank-table pointer of a context (R322). -/
def rankPtrAddr (s : State) (ctx : Nat) : Nat := rbBase s + 0x4000000 + 8 * ctx
/-- What a lookup answers: package and port, with the sectors read; a cause; held at the home; or no port in service. -/
inductive RankRes where
  | ok (pkg port : Nat) (sectors : List Nat)
  | fault (c : Cause)
  | held
deriving DecidableEq, Repr
/-- A port's read of a rank-table word (R325): as any walk read. -/
def rankRead (s : State) (port a : Nat) : Except RankRes DWord :=
  match walkRead s (.port port) a with
  | .ok w => .ok w
  | .error (.fault c) => .error (.fault c)
  | .error _ => .error .held
/-- The port an entry picks (R324, R428): the j-th of its ports in service. -/
def pickPort (s : State) (ports j : Nat) : Option Nat :=
  let up := natsWhere 36 (fun p => ports.testBit p && !portDown s p)
  if up.isEmpty then none else up[j % up.length]?
/-- What a lookup waits for at homes elsewhere is asked for (R80). -/
def askRank (s : State) (ctx rank : Nat) : State :=
  let pa := rankPtrAddr s ctx
  if walkAway s (pa / 64) then askWalk s (pa / 64)
  else askWalk s ((bitsOf (ctlWord64 s pa) 6 42 * 64 + 8 * rank) / 64)
/-- The lookup of R324; `page` is the page number or chunk index that picks the port. -/
def rankLookup (s : State) (ctx rank page : Nat) : RankRes :=
  let pa := rankPtrAddr s ctx
  let ptr := ctlWord64 s pa
  let ea := bitsOf ptr 6 42 * 64 + 8 * rank
  let port := (pickPort s (bitsOf (ctlWord64 s ea) 0 36) page).getD 0
  match rankRead s port pa with
  | .error r => r
  | .ok ptr =>
    if !ptr.getLsbD 63 || bitsOf ptr 52 10 < rank then .fault 0x144
    else match rankRead s port ea with
      | .error r => r
      | .ok ent =>
        if !ent.getLsbD 63 then .fault 0x144
        else if ptr.getLsbD 62 || bitsOf ptr 48 4 ≠ 0 || bitsOf ptr 0 6 ≠ 0 || bitsOf ent 46 17 ≠ 0 ||
          767 < bitsOf ent 36 10 || bitsOf ent 0 36 = 0 || bitsOf ent 36 10 = ownPkg s then .fault 0x145
        else if !inPaddock s (bitsOf ent 36 10) then .fault 0x146
        else match pickPort s (bitsOf ent 0 36) page with
          | none => .held
          | some p => .ok (bitsOf ent 36 10) p (insAll [pa / 64] [ea / 64])

/-- What a lookup that ends in a cause leaves at the words it read: Blend sectors merged (R90), a failed check marked (R410). -/
def rankLeaves (s : State) (ctx rank : Nat) : State :=
  let pa := rankPtrAddr s ctx
  let leave := fun (s : State) (a : Nat) => if walkAway s (a / 64) || apSector (a / 64) || (homeState s a).isSome then s
    else mergeBlend (markCtl s a) (a / 64)
  let ptr := walkWord s pa
  let more := match walkRead s (.port 0) pa with
    | .ok _ => ptr.getLsbD 63 && rank ≤ bitsOf ptr 52 10
    | .error _ => false
  let t := leave s pa
  if more then leave t (bitsOf ptr 6 42 * 64 + 8 * rank) else t

/-! ## Writes of the package's engines to tensor memory -/

/-- Write bytes at a physical tensor address as one write, for tenant t (12: none): poison of whole words clears (R412), and no L1 keeps
the old line. -/
def tenWrite (s : State) (t a : Nat) (bs : List Byte) : State :=
  let r := coverRange s.tenBad s.tenPoison a bs.length
  l2Touch { s with
    ten := memSetBytes s.ten a bs, tenBad := r.1, tenPoison := r.2,
    cores := s.cores.map (fun p => (p.1, { p.2 with l1 := p.2.l1.filter (fun l => !(a / 64 ≤ l.line && l.line ≤ (a + bs.length - 1) / 64)) })) } a bs.length true t

/-! ## Bindings -/

/-- A packet of channel 2 or 3 goes to its port, for the tenant of its context (R331). -/
def sendData (s : State) (port vc : Nat) (ctx : BitVec 16) (bytes : Nat) (m : Msg) : State :=
  if s.lost then s else { s with queue := s.queue ++ [⟨port, vc, (tenantOf s ctx).getD 12, max 64 bytes, m⟩] }
/-- A message of channel 2 or 3 whose port no lookup picks goes to its port too, for its tenant (R328, R331). -/
def sendPlain (s : State) (ctx : Nat) (bytes : Nat) (m : Msg) : State := match channelOf m with
  | some (vc, p) => if vc < 2 then send s m else sendData s (plainPort s p) vc (BitVec.ofNat 16 ctx) bytes m
  | none => s

/-- Words of binding c of a group's launch (R111). -/
def bindWord (s : State) (g : Group) (c j : Nat) : DWord := (recOf s g).getD (32 + 4 * c + j) 0
/-- The context that keys a launch's bindings. -/
def bindCtx (s : State) (g : Group) : Nat := match teamOf s g.team with
  | some t => t.ctx.toNat
  | none => g.ctxid.toNat
/-- The binding (ctx, c) at this package, when it has ever been opened. -/
def bindOf (s : State) (ctx c : Nat) : Option Bind := s.binds.find? (fun b => b.ctx == ctx && b.c == c)
/-- Change a binding. -/
def modBind (s : State) (ctx c : Nat) (f : Bind → Bind) : State :=
  { s with binds := s.binds.map (fun b => if b.ctx == ctx && b.c == c then f b else b) }
/-- Closed at this package. -/
def isClosed (s : State) (ctx c : Nat) : Bool := match bindOf s ctx c with
  | none => true
  | some b => b.st == .closed
/-- The binding closes and releases its pins (R261, R438). -/
def closeBind (b : Bind) : Bind := { b with
  st := .closed, pins := [], cancelling := false, cancelOwed := [], agrees := [], progress := [], reported := false }
/-- Pins at homes elsewhere are placed, or released: a pin that another binding here still needs stays (R438). -/
def sendPins (s : State) (xs : List Nat) (on : Bool) : State :=
  xs.foldl (fun s x => if isOurs s x || s.binds.any (fun b => b.pins.contains x) then s else send s (.pin (homeOf s x) x on)) s
/-- A binding's refused packets are not sent again (R439). -/
def dropRetries (s : State) (ctx c : Nat) : State := { s with retries := s.retries.filter (fun r => !(r.1.ctx == ctx && r.1.c == c)) }
/-- Packets that are here for a binding go (R436). -/
def dropEarly (s : State) (ctx c : Nat) : State := { s with early := s.early.filter (fun p => !(p.ctx == ctx && p.c == c)) }
/-- A binding closes at this package, and what it had taken in or still had to send goes with it (R436, R439). -/
def shutBind (s : State) (ctx c : Nat) : State :=
  sendPins (modBind (dropRetries (dropEarly s ctx c) ctx c) ctx c closeBind) (((bindOf s ctx c).map (·.pins)).getD []) false
/-- No collective packet goes to a package that is lost, or outside the paddock (R15, R431). -/
def memberGone (s : State) (p : Nat) : Bool := isLost s p || !inPaddock s p
/-- The members that are there, by position; and the others of them. -/
def liveMembers (s : State) (b : Bind) : List Nat :=
  (List.range b.ranks.length).filter (fun k => k == b.pos || !memberGone s (b.ranks.getD k (0, 0)).2)
def otherMembers (s : State) (b : Bind) : List Nat := (liveMembers s b).filter (· != b.pos)
/-- A cancel goes to every other member (R436). -/
def sendCancels (s : State) (b : Bind) : State :=
  (otherMembers s b).foldl (fun s k => sendPlain s b.ctx 0 (.cancel (b.ranks.getD k (0, 0)).2 b.ctx b.c)) s
/-- Leading chunks that are Final here (R260, R432). -/
def progOf (b : Bind) : Nat := (b.chunks.takeWhile (fun c => c.final)).length
/-- The POST handle completes in Error and the binding returns to Closed (R261). -/
def failPost (s : State) (b : Bind) (c : Cause) (x : DWord) : State :=
  endAop (b.agrees.foldl (fun s o => endAop s o (.error 0x14A 0)) (shutBind s b.ctx b.c)) b.post (.error c x)
/-- The collective fails as a whole: so does the other members' part (R413, R436). -/
def failWhole (s : State) (b : Bind) (c : Cause) (x : DWord) : State := failPost (sendCancels s b) b c x
/-- The engine's read of a contribution ends in a cause; a bad word fails the collective as a whole (R413). -/
def failRead (s : State) (b : Bind) (c : Cause) (x : DWord) : State :=
  if c = 0x181 then failWhole s b c x else failPost s b c x

/-- The format slot of the binding. -/
def collElem (b : Bind) : Nat := slotElem b.slot
/-- Integer element formats: INT8, UINT8, INT32. -/
def collInt (b : Bind) : Bool := 6 ≤ collElem b
/-- Decode of an element for the chain (R338): an FP32 or INT32 word. -/
def collIn (b : Bind) (x : Nat) : Word :=
  let v := decodeElem (collElem b) x
  if collInt b then low32 (match v with
    | .fin s m e => unitsOf s m e 0
    | _ => 0)
  else rnd32 v
/-- One step of the sum (R137). -/
def collAdd (b : Bind) (x y : Word) : Word := if collInt b then x + y else add32 x y
/-- The last step (R137): RoundToFormat with ROUND := 0, or the clamp. -/
def collOut (b : Bind) (x : Word) : Nat :=
  encodeElem (collElem b) (slotIeee b.slot) .rne (if collInt b then intVal x.toInt else dec32 x)

/-- Translation of the blocks of a chunk: physical addresses of its 64-byte blocks (R334), or why there are none. -/
def collBlocks (s : State) (b : Bind) (use : Use) (ch : Chunk) : Except XRes (List Nat × List Nat) :=
  match aopOf s b.post with
  | none => .error (.fault 0x042)
  | some o =>
    (List.range ch.count).foldl (fun acc j =>
      match acc with
      | .error r => .error r
      | .ok (as, ss) =>
        match translate s (.port 0) o.ctx o.kernel use (b.buf + BitVec.ofNat 64 (64 * (ch.first + j))) 64 with
        | .ok x => (match x.at_ with
          | .ten a => .ok (as ++ [a], insAll x.sectors ss)
          | _ => .error (.fault 0x04D))
        | r => .error r) (.ok ([], []))
/-- Read a chunk (R262, R413). -/
def collRead (s : State) (b : Bind) (ch : Chunk) : Except XRes (List Byte × State) :=
  match collBlocks s b .load ch with
  | .error r => .error r
  | .ok (as, ss) =>
    let s := as.foldl (fun s a => l2Touch (ownMark s 0 (sliceOf a) (BitVec.ofNat 16 b.ctx)) a 64 false (tagOf s (BitVec.ofNat 16 b.ctx)))
      (fillT s (.port 0) ss)
    let ws := (as.map (fun a => [a / 32, a / 32 + 1])).flatten
    if ws.any (fun w => s.tenBad.contains w || s.tenPoison.contains w) then .error (.fault 0x181)
    else .ok ((as.map (fun a => (List.range 64).map (fun i => memByte s.ten (a + i)))).flatten, s)
/-- What the walk of a chunk's first block that ends in a cause leaves (R90, R410). -/
def collLeaves (s : State) (b : Bind) (use : Use) (ch : Chunk) : State :=
  match aopOf s b.post with
  | none => s
  | some o =>
    let vas := (List.range ch.count).map (fun j => b.buf + BitVec.ofNat 64 (64 * (ch.first + j)))
    match vas.find? (fun va => match translate s (.port 0) o.ctx o.kernel use va 64 with
      | .ok _ => false
      | _ => true) with
    | some va => faultLeaves s (.port 0) o.ctx va 64
    | none => s
/-- What a chunk's read leaves when it fails its check: its words marked (R410). -/
def collMarks (s : State) (b : Bind) (ch : Chunk) : State := match collBlocks s b .load ch with
  | .ok (as, _) => markTen s ((as.map (fun a => [a / 32, a / 32 + 1])).flatten)
  | .error _ => collLeaves s b .load ch
/-- Write a chunk's result (R336, R339). -/
def collWrite (s : State) (b : Bind) (ch : Chunk) (bs : List Byte) : Except XRes State :=
  match collBlocks s b .store ch with
  | .error r => .error r
  | .ok (as, ss) =>
    .ok (((List.range as.length).zip as).foldl (fun s p =>
      tenWrite (ownMark s 0 (sliceOf p.2) (BitVec.ofNat 16 b.ctx)) (tagOf s (BitVec.ofNat 16 b.ctx)) p.2 ((bs.drop (64 * p.1)).take 64))
      (fillT s (.port 0) ss))

/-- Bytes of one element. -/
def collSize (b : Bind) : Nat := elemWidth (collElem b) / 8
/-- The elements of a run of bytes. -/
def elemsOf (b : Bind) (bs : List Byte) : List Nat :=
  (List.range (bs.length / collSize b)).map (fun i => leNat ((bs.drop (i * collSize b)).take (collSize b)))
/-- Bytes of elements. -/
def bytesOf (b : Bind) (xs : List Nat) : List Byte := (xs.map (leBytes (collSize b))).flatten

/-- A packet of this member. -/
def ownPkt (s : State) (b : Bind) (idx : Nat) (body : CollBody) : CollPkt :=
  ⟨b.ctx, b.c, idx, b.pos, b.ranks.length - 1, (b.ranks.getD b.pos (0, 0)).1, ownPkg s, body⟩
/-- Members that a result of chunk idx goes to (R336), by position. -/
def resultTo (b : Bind) (idx : Nat) : List Nat :=
  if b.kind = 1 then [idx % b.ranks.length] else List.range b.ranks.length
/-- Lookups of every receiver (R324): a cause; held, also where the port's channel 3 is paused (R330); or all pass. -/
def lookAll (s : State) (b : Bind) (idx : Nat) (rcvs : List Nat) : RankRes :=
  rcvs.foldl (fun r k => match r with
    | .ok _ _ ss => (match rankLookup s b.ctx (b.ranks.getD k (0, 0)).1 idx with
      | .ok p q tt => if portPaused s q 3 then .held else .ok p q (insAll tt ss)
      | x => x)
    | x => x) (.ok 0 0 [])
/-- Every port that a chunk's packets leave by holds the rank-table sectors it read in T (R325). -/
def registerAll (s : State) (b : Bind) (idx : Nat) (rcvs : List Nat) : State :=
  rcvs.foldl (fun t k => match rankLookup s b.ctx (b.ranks.getD k (0, 0)).1 idx with
    | .ok _ q ss => ownMark (fillT t (.port q) ss) 7 q (BitVec.ofNat 16 b.ctx)
    | _ => t) s
/-- Data of a packet. -/
def pktBytes (p : CollPkt) : List Byte := match p.body with
  | .partSum ws => (ws.map (fun w => leBytes 4 w.toNat)).flatten
  | .result bs => bs
  | .gather bs => bs
  | .ack => []
/-- A collective packet leaves for the member at position k, by the port that the lookup picks. -/
def sendPacket (s : State) (b : Bind) (k : Nat) (p : CollPkt) : State :=
  let pkg := (b.ranks.getD k (0, 0)).2
  match rankLookup s b.ctx (b.ranks.getD k (0, 0)).1 p.chunk with
  | .ok _ q ss => sendData { s with collSent := s.collSent ++ [⟨b.ctx, b.c, p.chunk, b.post, ⟨k, p.chunk, pkg, q, ss⟩⟩] } q 3
      (BitVec.ofNat 16 b.ctx) (pktBytes p).length (.coll pkg p)
  | _ => s
/-- Final here without a write: the contribution has been acknowledged (R432). -/
def markAcked (b : Bind) : Bind :=
  { b with chunks := ((List.range b.chunks.length).zip b.chunks).map (fun q =>
      if b.kind = 1 && q.2.sent && q.2.acks.isEmpty && q.1 % b.ranks.length != b.pos then { q.2 with final := true } else q.2) }
/-- Send a packet to members, those lost left out (R433), and wait for their acknowledgements. -/
def sendColl (s : State) (b : Bind) (idx : Nat) (rcvs : List Nat) (body : CollBody) : State :=
  let live := rcvs.filter (fun k => !isLost s (b.ranks.getD k (0, 0)).2)
  let p := ownPkt s b idx body
  let s := live.foldl (fun s k => sendPacket s b k p) s
  modBind s b.ctx b.c (fun b => markAcked { b with chunks := ((List.range b.chunks.length).zip b.chunks).map (fun q =>
    if q.1 == idx then { q.2 with sent := true, acks := q.2.acks ++ live } else q.2) })
/-- Change one chunk. -/
def modChunk (s : State) (ctx c idx : Nat) (f : Chunk → Chunk) : State :=
  modBind s ctx c (fun b => { b with chunks := ((List.range b.chunks.length).zip b.chunks).map (fun q =>
    if q.1 == idx then f q.2 else q.2) })
/-- A packet waiting here for chunk idx of an Open binding, with data to write. -/
def waitingData (s : State) (b : Bind) (idx : Nat) : Option CollPkt :=
  s.early.find? (fun p => p.ctx == b.ctx && p.c == b.c && p.chunk == idx && (match p.body with
    | .partSum _ => false
    | _ => true))
/-- The engine's work on one chunk (R338, R340), as far as it can go now. -/
def chunkWork (s : State) (ctx c idx : Nat) : State :=
  match bindOf s ctx c with
  | none => s
  | some b =>
    match b.chunks[idx]? with
    | none => s
    | some ch =>
      let waits := ch.after.any (fun i => s.ops.any (·.id == i) || s.aops.any (fun o => o.id == i && aopLive o))
      let m := b.ranks.length
      if b.st != .open_ || b.cancelling || !ch.fired || waits then s
      else match waitingData s b idx with
        | some p =>
          if ch.final then { s with early := s.early.filter (· != p) }
          else (match collWrite s b ch (pktBytes p) with
            | .error (.fault x) => failPost s b x (b.buf + BitVec.ofNat 64 (64 * ch.first))
            | .error (.held y) => askWalk s y
            | .error _ => s
            | .ok t => modChunk { t with early := t.early.filter (· != p) } ctx c idx (fun k => { k with final := true }))
        | none =>
          if ch.sent || ch.final || (b.kind = 2 && idx % m ≠ b.pos) || (b.kind ≠ 2 && b.pos ≠ 0 && ch.part.isNone) then s
          else match collRead s b ch with
            | .error (.fault x) => failRead (collMarks s b ch) b x (b.buf + BitVec.ofNat 64 (64 * ch.first))
            | .error (.held y) => askWalk s y
            | .error _ => s
            | .ok (bs, t) =>
              let others := (List.range m).filter (· != b.pos)
              let own := (elemsOf b bs).map (collIn b)
              let sum := match ch.part with
                | some part => List.zipWith (collAdd b) part own
                | none => own
              let rcvs := if b.kind = 2 then others else if b.pos + 1 < m then [b.pos + 1] else (resultTo b idx).filter (· != b.pos)
              match lookAll t b idx rcvs with
              | .fault x => failPost t b x 0
              | .held => rcvs.foldl (fun s k => askRank s b.ctx (b.ranks.getD k (0, 0)).1) s
              | .ok _ _ _ =>
                let t := registerAll t b idx rcvs
                if b.kind = 2 then modChunk (sendColl t b idx rcvs (.gather bs)) ctx c idx (fun k => { k with final := true })
                else if b.pos + 1 < m then sendColl t b idx rcvs (.partSum sum)
                else
                  let out := bytesOf b (sum.map (collOut b))
                  if (resultTo b idx).contains b.pos then
                    match collWrite t b ch out with
                    | .error (.fault x) => failPost t b x (b.buf + BitVec.ofNat 64 (64 * ch.first))
                    | .error (.held y) => askWalk s y
                    | .error _ => s
                    | .ok t => modChunk (sendColl t b idx rcvs (.result out)) ctx c idx (fun k => { k with final := true })
                  else sendColl t b idx rcvs (.result out)
/-- All the work the engine can do now. -/
def collPump (s : State) : State :=
  s.binds.foldl (fun s b => if b.st == .open_ then
    (List.range b.chunks.length).foldl (fun s i => chunkWork s b.ctx b.c i) s else s) s

/-! ## Losing a member (R432, R433, R439) -/

/-- The loss of the member at position k breaks this binding (R433): it awaits a result or all-gather data from it that it has not taken
in, or stands after it in the chain and some chunk is not Final here. DESIGN CHOICE (log entry 94): R433's table lets such a member break
whatever it has received, and no member can tell whether another has committed. -/
def awaits (s : State) (b : Bind) (k : Nat) : Bool :=
  let m := b.ranks.length
  ((List.range b.chunks.length).zip b.chunks).any (fun q =>
    !q.2.final && (if b.kind = 2 then q.1 % m == k && k != b.pos && (waitingData s b q.1).isNone
      else k < b.pos || (k + 1 == m && k != b.pos && (resultTo b q.1).contains b.pos && (waitingData s b q.1).isNone)))
/-- The lowest-ranked member that is there, by position (R435). -/
def leader (s : State) (b : Bind) : Nat := ((liveMembers s b).head?).getD b.pos
/-- The progress value this member gives (R435). -/
def progValue (b : Bind) : Option Nat := if b.st == .closed then (if b.committed then some b.chunks.length else none) else some (progOf b)
/-- End an agreement here: the result goes to everyone's handles. -/
def agreeEnd (s : State) (ctx c : Nat) (v : Option Nat) : State :=
  match bindOf s ctx c with
  | none => s
  | some b =>
    let s := modBind s ctx c (fun b => { b with agrees := [], progress := [], reported := false, st := (match b.st, v with
      | .agreeing code, some r => .agreed r code
      | .agreeing code, none => .broken code
      | st, _ => st) })
    b.agrees.foldl (fun s o => endAop s o (match v with
      | some _ => .done
      | none => .error 0x14A 0)) s
/-- The leader sends the result of an agreement, and takes it itself (R435). -/
def agreeSend (s : State) (b : Bind) (v : Option Nat) : State :=
  agreeEnd ((otherMembers s b).foldl (fun s k => sendPlain s b.ctx 0 (.agreeResult (b.ranks.getD k (0, 0)).2 b.ctx b.c v)) s) b.ctx b.c v
/-- An agreement is under way for this binding: it is Agreeing, or Closed and has been asked. -/
def inAgreement (b : Bind) : Bool := b.reported || (match b.st with
  | .agreeing _ => true
  | _ => false)
/-- The leader has every value: it sends the minimum; a Closed member that did not commit fails the agreement (R435). -/
def agreeTry (s : State) (ctx c : Nat) : State :=
  match bindOf s ctx c with
  | none => s
  | some b =>
    let ranks := (otherMembers s b).map (fun k => (b.ranks.getD k (0, 0)).1)
    let got := b.progress.filter (fun p => ranks.contains p.1)
    if leader s b ≠ b.pos || !inAgreement b then s
    else match progValue b with
      | none => agreeSend s b none
      | some v =>
        if got.any (fun p => p.2.isNone) then agreeSend s b none
        else if !ranks.all (fun r => got.any (fun p => p.1 == r)) then s
        else agreeSend s b (some (got.foldl (fun m p => min m (p.2.getD m)) v))
/-- This member's part of step 2 (R435): its value goes to the leader. -/
def agreeReport (s : State) (ctx c : Nat) : State :=
  match bindOf s ctx c with
  | none => s
  | some b =>
    if leader s b = b.pos then agreeTry s ctx c
    else sendPlain s ctx 0 (.agreeProgress (b.ranks.getD (leader s b) (0, 0)).2 ctx c (progValue b))
/-- Waits on the POST handle of a binding that has broken are over (R434). -/
def wakePost (s : State) (ctx c : Nat) : State :=
  match bindOf s ctx c with
  | none => s
  | some b => (match aopOf s b.post with
    | some o => (teamsNaming s o.id o.team).foldl settle s
    | none => s)
/-- The loss of package p, or its leaving (R431, R433): cause 0x149 or 0x146. Acknowledgements that it owes are taken as received. -/
def breakBinds (s0 : State) (p : Nat) (code : Cause) : State :=
  let s := { s0 with collSent := s0.collSent.filter (fun k => k.way.pkg != p), retries := s0.retries.filter (fun r => r.1.pkg != p) }
  s.binds.foldl (fun s b0 =>
    match bindOf s b0.ctx b0.c with
    | none => s
    | some b =>
      let hit := (List.range b.ranks.length).filter (fun k => k != b.pos && (b.ranks.getD k (0, 0)).2 == p)
      if hit.isEmpty then s
      else
        let old := b.st
        let b1 := markAcked { b with chunks := b.chunks.map (fun ch => { ch with acks := ch.acks.filter (fun k => !hit.contains k) }),
                                     cancelOwed := b.cancelOwed.filter (fun r => !hit.any (fun k => (b.ranks.getD k (0, 0)).1 == r)) }
        let s := modBind s b.ctx b.c (fun _ => b1)
        if b.cancelling && b1.cancelOwed.isEmpty then endAop (shutBind s b.ctx b.c) b.post .idle
        else if old == .open_ && !b.cancelling && hit.any (awaits s b1) then
          wakePost (dropRetries (modBind s b.ctx b.c (fun b => { b with st := .broken code })) b.ctx b.c) b.ctx b.c
        else if inAgreement b1 then agreeReport s b.ctx b.c
        else s) s
/-- A package leaves the paddock while members agree: they go on among those that are there (R431, R435). -/
def leavesAgreement (s : State) (p : Nat) : State :=
  s.binds.foldl (fun s b => if inAgreement b && b.ranks.any (fun r => r.2 == p) then agreeReport s b.ctx b.c else s) s

/-! ## The members (R260, R261) -/

/-- The reads of COLL.POST (R335): n bytes at a control address, as 64-bit words. -/
def listRead (s : State) (g : Group) (m : Mask) (va : DWord) (words : Nat) : Except (XRes × DWord) (List DWord × List Nat × List Place) :=
  (List.range words).foldl (fun acc j =>
    match acc with
    | .error r => .error r
    | .ok (ws, ss, ps) =>
      let a := va + BitVec.ofNat 64 (8 * j)
      match groupRead s g m a 8 with
      | .ok (bs, tt, p) => .ok (ws ++ [BitVec.ofNat 64 (leNat bs)], insAll tt ss, ps ++ [p])
      | .error r => .error (r, a)) (.ok ([], [], []))
/-- The entries of the member list (R333): 16 bits each. -/
def memberEntries (ws : List DWord) (n : Nat) : List Nat := (List.range n).map (fun i => bitsOf (ws.getD (i / 4) 0) (16 * (i % 4)) 16)
/-- The chunks of a map (R334), or `none` when it breaks the rule. -/
def chunksOf (ws : List DWord) (blocks : Nat) : Option (List Chunk) :=
  let h := ws.getD 0 0
  let n := bitsOf h 16 16
  let cs := (List.range n).map (fun c => (bitsOf (ws.getD (1 + c) 0) 32 32, bitsOf (ws.getD (1 + c) 0) 0 32))
  let sorted := sortBy (fun a b : Nat × Nat => a.1 < b.1) cs
  if bitsOf h 32 32 ≠ 0 || bitsOf h 1 15 ≠ 0 || n = 0 || 4096 < n || cs.any (fun c => c.2 == 0 || blocks < c.1 + c.2) ||
    (sorted.zip (sorted.drop 1)).any (fun p => p.2.1 < p.1.1 + p.1.2) then none
  else some (cs.map (fun c => ⟨c.1, c.2, false, [], none, false, [], false⟩))

/-- COLL.POST once its checks pass (R335, R340, R438). -/
def collPostRun (S : BitVec 3) (h c : Nat) (s : State) (g : Group) (e : Ent) : State × Fate :=
  let w0 := bindWord s g c 0
  let w1 := bindWord s g c 1
  let buf := bindWord s g c 2
  let cmap := bindWord s g c 3
  let n := bitsOf w1 32 10 + 1
  let ctx := bindCtx s g
  let fail := fun (s : State) (c' : Cause) (x : DWord) => (moveOn (startAop s g h (.post c) (.error c' x) none [] []).2 g e S, Fate.loud)
  if !ownReadsDone s g then (stallEnt s g.gid e 0 .ownLoads, .stay)
  else match listRead s g e.mask (BitVec.ofNat 64 (bitsOf w0 0 48)) ((n + 3) / 4), listRead s g e.mask (BitVec.ofNat 64 (bitsOf cmap 0 48)) 1 with
  | .error (.held x, _), _ => (stallWalk s g.gid e x, .stay)
  | _, .error (.held x, _) => (stallWalk s g.gid e x, .stay)
  | .error (.fault x, a), _ => fail s x a
  | _, .error (.fault x, a) => fail s x a
  | .error (.ok _, a), _ => fail s 0x042 a
  | _, .error (.ok _, a) => fail s 0x042 a
  | .ok (ms, sm, pm), .ok (h0, _, _) =>
    match listRead s g e.mask (BitVec.ofNat 64 (bitsOf cmap 0 48)) (1 + min 4096 (bitsOf (h0.getD 0 0) 16 16)) with
    | .error (.held x, _) => (stallWalk s g.gid e x, .stay)
    | .error (.fault x, a) => fail s x a
    | .error (.ok _, a) => fail s 0x042 a
    | .ok (cs, sc, pc) =>
      let s := readLeaves s g.core (insAll sm sc) (pm ++ pc)
      let ents := memberEntries ms n
      let ranks := sortBy (fun a b : Nat => a < b) ents
      let own := mapGet 0 s.lrank ctx |>.toNat
      if ents.any (fun x => 1024 ≤ x) || (ranks.zip (ranks.drop 1)).any (fun p => p.1 == p.2) || !ranks.contains own then fail s 0x147 0
      else match chunksOf cs (bitsOf w1 0 32) with
        | none => fail s 0x148 0
        | some chunks =>
          if bitsOf buf 52 10 ≠ own then fail s 0x048 buf
          else
            let looks := ranks.map (fun r => (r, if r = own then RankRes.ok (ownPkg s) 0 [] else rankLookup s ctx r 0))
            let bad := looks.filterMap (fun p => match p.2 with
              | .fault x => some x
              | _ => none)
            let held := looks.any (fun p => p.2 == .held)
            match bad with
            | x :: _ => fail s x 0
            | [] =>
              if held then
                let t := looks.foldl (fun s p => if p.2 == .held then askRank s ctx p.1 else s) s
                (stallEnt t g.gid e 0 (.walk (rankPtrAddr s ctx / 64)), .stay)
              else
                let ptr := ctlWord64 s (rankPtrAddr s ctx)
                let mine := if ptr.getLsbD 63 then [(bitsOf ptr 6 42 * 64 + 8 * own) / 64] else []
                let pins := looks.foldl (fun ss p => match p.2 with
                  | .ok _ _ tt => insAll tt ss
                  | _ => ss) (insAll mine [rankPtrAddr s ctx / 64])
                let s := looks.foldl (fun s p => match p.2 with
                  | .ok _ q tt => if tt.isEmpty then s else fillT s (.port q) tt
                  | _ => s) s
                let (id, s) := startAop (ownMark s 6 288 g.ctxid) g h (.post c) .pending none [] []
                let b : Bind := {
                  ctx := ctx, c := c, st := .open_, kind := bitsOf w0 56 2, slot := slotOf s g (bitsOf w0 52 3), buf := buf,
                  auto := (cs.getD 0 0).getLsbD 0,
                  ranks := looks.map (fun p => (p.1, match p.2 with
                    | .ok k _ _ => k
                    | _ => 0)),
                  pos := (ranks.findIdx? (· == own)).getD 0, chunks := chunks, post := id, agrees := [], progress := [], reported := false,
                  cancelOwed := [], cancelling := false, owe := (match bindOf s ctx c with
                    | some b => b.owe
                    | none => []), committed := false, pins := insAll pins [],
                  grid := ((teamOf s g.team).map (·.grid)).getD 0 }
                let s := sendPins s b.pins true
                let s := { s with binds := s.binds.filter (fun (x : Bind) => !(x.ctx == ctx && x.c == c)) ++ [b] }
                let parts := s.early.filter (fun p => p.ctx == ctx && p.c == c && (match p.body with
                  | .partSum _ => true
                  | _ => false))
                let s := parts.foldl (fun s p => modChunk s ctx c p.chunk (fun k => match p.body with
                  | .partSum ws => { k with part := some ws }
                  | _ => k)) { s with early := s.early.filter (fun p => !parts.contains p) }
                let bads := (parts ++ s.early.filter (fun p => p.ctx == ctx && p.c == c)).any (fun p =>
                  p.nmemb + 1 != b.ranks.length || (b.ranks.getD p.pos (0, 0)).1 != p.rank)
                let s := if bads then failPost s b 0x147 0 else s
                let lost := (b.ranks.map (·.2)).filter (isLost s)
                let s := lost.foldl (fun s p => breakBinds s p 0x149) s
                (collPump (moveOn s g e S), .loud)

/-- The state a member finds: unbound, or its binding's state (R261, R434). -/
inductive Found where
  | unbound
  | closed
  | open_
  | failed (c : Cause) (agreed : Option Nat)
deriving DecidableEq, Repr
/-- The state a member finds. -/
def foundAt (s : State) (g : Group) (c : Nat) : Found :=
  if !(bindWord s g c 0).getLsbD 63 then .unbound
  else match bindOf s (bindCtx s g) c with
    | none => .closed
    | some b => (match b.st with
      | .closed => .closed
      | .open_ => .open_
      | .broken x => .failed x none
      | .agreeing x => .failed x none
      | .agreed r x => .failed x (some r))
/-- The entry stays Stalled until the check at the H-die returns (R261). -/
def collGate (now : Bool) (k : State → Group → Ent → State × Fate) : State → Group → Ent → State × Fate :=
  fun s g e => if s.hdieDelay && !now then (stallEnt s g.gid e 0 .coll, .stay) else k s g e

/-- COLL.POST. -/
def collPostK (S : BitVec 3) (h c : Nat) (s : State) (g : Group) (e : Ent) : State × Fate :=
  match foundAt s g c with
  | .unbound => causeAll s g e 0x140 0
  | .closed => if handleSt s g h == .pending then causeAll s g e 0x0E1 0 else collPostRun S h c s g e
  | _ => causeAll s g e 0x141 0
/-- COLL.POST (R260, R335). -/
def execCollPost (S : BitVec 3) (h : BitVec 4) (c : BitVec 2) (s : State) : Host.Outcome State Fault Refusal :=
  issue (.collPost S h c) s (collGate false (collPostK S h.toNat c.toNat))

/-- What a FIRE awaits (R262): the group's tensor and window accesses, RATOMs and copies. -/
def fireAwaits (s : State) (g : Group) : List Nat := insAll (tcAwaits s g) []
/-- COLL.FIRE. -/
def collFireK (S : BitVec 3) (c : Nat) (a : RegName) (s : State) (g : Group) (e : Ent) : State × Fate :=
  match foundAt s g c with
  | .unbound => causeAll s g e 0x140 0
  | .closed => causeAll s g e 0x141 0
  | .failed x _ => causeAll s g e x 0
  | .open_ =>
    let n := (readReg s g 0 a).toNat
    let ctx := bindCtx s g
    match bindOf s ctx c with
    | none => causeAll s g e 0x141 0
    | some b =>
      match b.chunks[n]? with
      | none => causeAll s g e 0x142 0
      | some ch =>
        if ch.fired then causeAll s g e 0x143 0
        else (collPump (moveOn (fireChunk s ctx c n (fireAwaits s g)) g e S), .loud)
/-- COLL.FIRE (R260, R337). -/
def execCollFire (S : BitVec 3) (c : BitVec 2) (a : RegName) (s : State) : Host.Outcome State Fault Refusal :=
  issue (.collFire S c a) s (collGate false (collFireK S c.toNat a))

/-- COLL.PROG. -/
def collProgK (S : BitVec 3) (d : RegName) (c : Nat) (s : State) (g : Group) (e : Ent) : State × Fate :=
  match foundAt s g c with
  | .unbound => causeAll s g e 0x140 0
  | .closed => causeAll s g e 0x141 0
  | .failed x none => causeAll s g e x 0
  | .failed _ (some r) => board1 S d (fun _ _ _ => BitVec.ofNat 32 r) s g e
  | .open_ => board1 S d (fun _ _ _ => BitVec.ofNat 32 (((bindOf s (bindCtx s g) c).map progOf).getD 0)) s g e
/-- COLL.PROG (R260, R432). -/
def execCollProg (S : BitVec 3) (d : RegName) (c : BitVec 2) (s : State) : Host.Outcome State Fault Refusal :=
  issue (.collProg S d c) s (collGate false (collProgK S d c.toNat))

/-- COLL.AGREE. -/
def collAgreeK (S : BitVec 3) (h c : Nat) (s : State) (g : Group) (e : Ent) : State × Fate :=
  match foundAt s g c with
  | .unbound => causeAll s g e 0x140 0
  | .closed => causeAll s g e 0x141 0
  | .open_ => causeAll s g e 0x141 0
  | .failed _ agreed =>
    if handleSt s g h == .pending then causeAll s g e 0x0E1 0
    else
      let ctx := bindCtx s g
      match bindOf s ctx c with
      | none => causeAll s g e 0x141 0
      | some b =>
        match agreed, b.st with
        | some _, _ => (moveOn (startAop s g h (.agree c) .done none [] []).2 g e S, .loud)
        | none, .broken code =>
          let (id, s) := startAop s g h (.agree c) .pending none [] []
          let others := otherMembers s b
          let s := modBind s ctx c (fun b => { b with st := .agreeing code, agrees := b.agrees ++ [id] })
          let s := others.foldl (fun s k => sendPlain s ctx 0 (.agreeStart (b.ranks.getD k (0, 0)).2 ctx c)) s
          (moveOn (agreeReport s ctx c) g e S, .loud)
        | none, _ =>
          let (id, s) := startAop s g h (.agree c) .pending none [] []
          (moveOn (modBind s ctx c (fun b => { b with agrees := b.agrees ++ [id] })) g e S, .loud)
/-- COLL.AGREE (R435). -/
def execCollAgree (S : BitVec 3) (h : BitVec 4) (c : BitVec 2) (s : State) : Host.Outcome State Fault Refusal :=
  issue (.collAgree S h c) s (collGate false (collAgreeK S h.toNat c.toNat))

/-! ## HCANCEL (R237, R285, R436) -/

/-- HCANCEL of a POST handle. -/
def cancelPost (s : State) (o : AOp) : State :=
  match s.binds.find? (fun b => b.post == o.id) with
  | none => endAop s o.id .idle
  | some b =>
    (match b.st with
      | .agreed _ _ => endAop (shutBind s b.ctx b.c) o.id .idle
      | _ =>
        if b.cancelling then s
        else
          let others := otherMembers s b
          let s := sendCancels s b
          let s := b.agrees.foldl (fun s i => endAop s i (.error 0x14A 0)) (dropRetries (dropEarly s b.ctx b.c) b.ctx b.c)
          let owed := others.map (fun k => (b.ranks.getD k (0, 0)).1)
          let s := modBind s b.ctx b.c (fun b => { b with cancelling := true, agrees := [], cancelOwed := owed })
          if others.isEmpty then endAop (shutBind s b.ctx b.c) o.id .idle else s)
/-- Cancel an operation in progress. -/
def cancelAop (s : State) (o : AOp) : State :=
  match o.kind with
  | .copy _ _ =>
    if o.flight.isEmpty && o.held.isEmpty && o.got.isEmpty then endAop (setAop s { o with cancelled := true }) o.id .idle
    else setAop s { o with cancelled := true }
  | .tiles _ _ _ =>
    if o.held.isEmpty then
      settleCore (endAop (modCore (setAop s { o with cancelled := true }) o.core (fun c => { c with moves := delNat o.id c.moves })) o.id .idle) o.core
    else setAop s { o with cancelled := true }
  | .post _ => cancelPost s o
  | .agree _ => endAop { s with binds := s.binds.map (fun b => { b with agrees := delNat o.id b.agrees }) } o.id .idle
  | _ => endAop s o.id .idle
/-- HCANCEL (R237). -/
def execHcancel (S : BitVec 3) (h : BitVec 4) (s : State) : Host.Outcome State Fault Refusal :=
  issue (.hcancel S h) s (fun s g e =>
    let t := match aopOf s (readH g h.toNat) with
      | none => s
      | some o => if o.st == .pending then cancelAop s o else modGroup s g.gid (fun g => writeH g h.toNat 0)
    (moveOn t g e S, .loud))

end Sys2Proof.Machine
end

