-- ==== Sys2Proof/Machine/Work.lean ====
section
/-! DEFINITION. Work intake (11 R263-R268, 14 R307-R309): the hardware work queues, DEQ, ENQ, LAUNCH and WFETCH. -/

namespace Sys2Proof.Machine

/-- WQCFG of queue q (R307). -/
def wqCfg (s : State) (q : Nat) : DWord := apWord s (0x2000 + 8 * q)
/-- Replace the items of a queue; WQSTAT counts them (R307). -/
def setItems (s : State) (q : Nat) (items : List Item) : State :=
  apSet (setWq s q { wqOf s q with items := items }) (0x2200 + 8 * q) (BitVec.ofNat 64 items.length)
/-- The checks of R263 and R307; `kind` is the kind a member needs. -/
def wqDenied (s : State) (g : Group) (q : Nat) (kind : Option Nat) : Option Cause :=
  let c := wqCfg s q
  if !c.getLsbD 31 || bitsOf c 24 4 ≠ trapTenant s g then some 0x0D0
  else match kind with
    | some k => if bitsOf c 0 1 = k then none else some 0x0D1
    | none => none

/-- DEQ delivers an item (R264): the pair, the enqueuer's accesses first, and no old L1 line. -/
def deqGive (s : State) (g : Group) (d : RegName) (x : Item) : State :=
  let s := writeNow s g.gid ⟨dstOf g d 0, lowMask 64, [(0, (loWord x.val).setWidth 64)], none, 0⟩
  let s := writeNow s g.gid ⟨dstOf g d 1, lowMask 64, [(0, (hiWord x.val).setWidth 64)], none, 0⟩
  modCore (addDeps s g.gid (lowMask 64) (x.before.filter (fun i => s.ops.any (·.id == i))) false) g.core (fun c => { c with l1 := [] })
/-- The entry of a group parked at DEQ on queue q that parked first. -/
def deqEnt (g : Group) (q : Nat) : Option (Ent × RegName) :=
  (sortBy (fun a b : Nat × Ent × RegName => a.1 < b.1) (g.ents.filterMap (fun e => match e.st with
    | .parked p => (match p.i with
      | .deq _ d _ => if p.mem == BitVec.ofNat 64 q then some (p.num, e, d) else none
      | _ => none)
    | _ => none))).head?.map (·.2)
/-- Serve the parked DEQs of a queue, in the order in which they parked (R264). -/
def wqServeN : Nat → State → Nat → State
  | 0, s, _ => s
  | n + 1, s, q =>
    let w := wqOf s q
    match w.parked, w.items with
    | p :: ps, x :: xs =>
      let s1 := setWq s q { w with parked := ps }
      (match groupOf s1 p with
        | none => wqServeN n s1 q
        | some g => match deqEnt g q with
          | none => wqServeN n s1 q
          | some (e, d) => wqServeN n (settleOf (unpark (deqGive (setItems s1 q xs) g d x) g.gid e) g.gid) q)
    | _, _ => s
/-- Serve as many as can be served. -/
def wqServe (s : State) (q : Nat) : State := wqServeN ((wqOf s q).parked.length + 1) s q
/-- An item reaches a queue (R265, R308). -/
def wqAppend (s : State) (q : Nat) (x : Item) : State := wqServe (setItems s q ((wqOf s q).items ++ [x])) q

/-- DEQ at issue. -/
def deqIssue (d a : RegName) (i : Instr) (s : State) (g : Group) (e : Ent) : State × Fate :=
  let q := (readK g (kNum a)).toNat % 64
  match wqDenied s g q (some 0) with
  | some c => causeAll s g e c 0
  | none =>
    let w := wqOf s q
    match w.items, w.parked with
    | x :: xs, [] => (moveOn (deqGive (setItems s q xs) g d x) g e 0, .loud)
    | _, _ => parkNow (setWq s q { w with parked := w.parked ++ [g.gid] }) g e i (BitVec.ofNat 64 q) []
/-- DEQ (R264). -/
def execDeq (S : BitVec 3) (d a : RegName) (s : State) : Host.Outcome State Fault Refusal :=
  issue (.deq S d a) s (deqIssue d a (.deq S d a))

/-- ENQ at issue (R265). -/
def enqIssue (S : BitVec 3) (d a : RegName) (s : State) (g : Group) (e : Ent) : State × Fate :=
  let q := (readK g (kNum a)).toNat % 64
  match wqDenied s g q none with
  | some c => causeAll s g e c 0
  | none =>
    if 512 ≤ (wqOf s q).items.length then (stallEnt s g.gid e 0 (.workQueue q), .stay)
    else
      let s := markRegs s g.gid e.mask
      (moveOn (wqAppend s q ⟨readPair s g 0 d, g.ctxid, undone s g.gid e.mask, none, false⟩) g e S, .loud)
/-- ENQ (R265). -/
def execEnq (S : BitVec 3) (d a : RegName) (s : State) : Host.Outcome State Fault Refusal :=
  issue (.enq S d a) s (enqIssue S d a)

/-- LAUNCH at issue (R266). -/
def launchIssue (S : BitVec 3) (h : BitVec 4) (a : RegName) (s : State) (g : Group) (e : Ent) : State × Fate :=
  let q := (readK g (kNum a + 2)).toNat % 64
  match wqDenied s g q (some 1) with
  | some c => causeAll s g e c 0
  | none =>
    if handleSt s g h.toNat == .pending then causeAll s g e 0x0E1 0
    else if 512 ≤ (wqOf s q).items.length then (stallEnt s g.gid e 0 (.workQueue q), .stay)
    else
      let val := readPair s g 0 a
      let s := markRegs s g.gid e.mask
      let before := undone s g.gid e.mask
      let (id, s) := startAop s g h.toNat .launch .pending none [] []
      (moveOn (wqAppend s q ⟨val, g.ctxid, before, some id, false⟩) g e S, .loud)
/-- LAUNCH (R266). -/
def execLaunch (S : BitVec 3) (h : BitVec 4) (a : RegName) (s : State) : Host.Outcome State Fault Refusal :=
  issue (.launch S h a) s (launchIssue S h a)

/-- GX × GY × GZ of a grid (R107). -/
def gridTeams (d : Grid) : Nat :=
  let w := d.rec_.getD 3 0
  bitsOf w 0 16 * bitsOf w 16 16 * bitsOf w 32 16
/-- The next team of a grid that is neither placed nor withdrawn (R309). -/
def nextTeam (d : Grid) : Option Nat :=
  match ((List.range (d.withdrawn.length + 1)).map (· + d.next)).find? (fun l => !d.withdrawn.contains l) with
  | some l => if l < gridTeams d then some l else none
  | none => none
/-- WFETCH at issue (R267). -/
def wfetchIssue (S : BitVec 3) (d a : RegName) (s : State) (g : Group) (e : Ent) : State × Fate :=
  let off := (readK g (kNum a)).toNat
  if off % 16 ≠ 0 then causeAll s g e 0x04C (BitVec.ofNat 64 off)
  else if spBytesOf s g < off + 16 then causeAll s g e 0x04E (BitVec.ofNat 64 off)
  else match teamOf s g.team with
    | none => board1 S d (fun _ _ _ => 1) s g e
    | some t =>
      if t.wfetch.isSome then board1 S d (fun _ _ _ => 2) s g e
      else if ((gridOf s t.grid).bind nextTeam).isNone then board1 S d (fun _ _ _ => 1) s g e
      else board1 S d (fun _ _ _ => 0) (modTeam s g.team (fun t => { t with wfetch := some off })) g e
/-- WFETCH (R267). -/
def execWfetch (S : BitVec 3) (d a : RegName) (s : State) : Host.Outcome State Fault Refusal :=
  issue (.wfetch S d a) s (wfetchIssue S d a)

end Sys2Proof.Machine
end

