-- ==== Sys2Proof/Machine/System.lean ====
section
/-! DEFINITION. System registers, traps and return, code writes, the translation probe, waiting, stopping and accumulator
moves (12 R275-R285, 05 R113, R114, R446), and what a word with no instruction does (07 R145). -/

namespace Sys2Proof.Machine

/-! ## System registers (R113, R114, R275, R276) -/

/-- Cores a scope register can name (R103): those of the partition of the context's tenant, and the control cores. -/
def scopeMask (s : State) (ctx : BitVec 16) : BitVec 512 :=
  let part := match tenantOf s ctx with
    | some t => (List.range 288).foldl (fun (m : Nat) n => if inPartition s t n then m + 2 ^ n else m) 0
    | none => 0
  BitVec.ofNat 512 (part + 65535 * 2 ^ 288)
/-- Scope register n of a context, as read. -/
def scopeReg (s : State) (ctx : BitVec 16) (n : Nat) : BitVec 512 := mapGet 0 s.scope (ctx.toNat * 8 + n) &&& scopeMask s ctx
/-- The value SRD reads. -/
def srRead (s : State) (g : Group) (n : Nat) : DWord :=
  let c := coreOf s g.core
  let t := teamOf s g.team
  if n = 0x00 then BitVec.ofNat 64 g.vwb
  else if n = 0x01 then g.srcnt.setWidth 64
  else if n = 0x02 then (if schkOn s g then 1 else 0)
  else if n = 0x03 then (shadowOf s g).setWidth 64
  else if n = 0x04 then (mapGet 0 s.lrank g.ctxid.toNat).setWidth 64
  else if n = 0x05 then g.ctxid.setWidth 64
  else if n = 0x06 then s.ctxtab.setWidth 64
  else if n = 0x07 then c.aown.setWidth 64
  else if n = 0x08 then c.cycle
  else if n = 0x09 then c.ptmo.setWidth 64
  else if n = 0x0A then BitVec.ofNat 64 g.path.length
  else if n = 0x0B then (match t with
    | some t => BitVec.ofNat 64 (bitsOf t.lrAddr 0 48)
    | none => 0)
  else if n = 0x0C then (match t with
    | some t => BitVec.ofNat 64 (t.z * 2 ^ 32 + t.y * 2 ^ 16 + t.x)
    | none => 0)
  else if n = 0x0D then BitVec.ofNat 64 (teamLin s g)
  else if n = 0x10 then g.xpc
  else if n = 0x11 then g.xcause.setWidth 64
  else if n = 0x12 then g.xlmask
  else (scopeReg s g.ctxid ((n - 0x40) / 8)).extractLsb' (64 * (n % 8)) 64
/-- SRD (R275): scoreboarded. -/
def execSrd (S : BitVec 3) (r : BitVec 8) (d : RegName) (s : State) : Host.Outcome State Fault Refusal :=
  issue (.srd S r d) s
    (if srWide r.toNat then board2 S d (fun s g _ => srRead s g r.toNat)
     else board1 S d (fun s g _ => loWord (srRead s g r.toNat)))

/-- Registers whose User column is RO or that no level writes: the write is ignored (R6, R272). -/
def srIgnored (kernel : Bool) (n : Nat) : Bool :=
  n == 0x08 || (0x0A ≤ n && n ≤ 0x0D) || (!kernel && (n ≤ 0x01 || n == 0x04 || n == 0x05 || n == 0x07 || 0x40 ≤ n))
/-- Group-scope registers that SWR writes. -/
def srGroup (n : Nat) : Bool := n ≤ 0x01 || n == 0x05 || (0x10 ≤ n && n ≤ 0x12)
/-- SWR to a group-scope register (R114, R276, R446). -/
def swrGroup (g : Group) (n : Nat) (v : DWord) : Group :=
  if n = 0x00 then { g with vwb := bitsOf v 3 5 * 8 }
  else if n = 0x01 then { g with srcnt := loWord v }
  else if n = 0x05 then { g with ctxid := v.extractLsb' 0 16 }
  else if n = 0x10 then { g with xpc := v }
  else if n = 0x11 then { g with xcause := v.extractLsb' 0 9 }
  else { g with xlmask := v }
/-- SWR to a register of another scope (R103, R114). -/
def swrShared (s : State) (g : Group) (n : Nat) (v : DWord) : State :=
  if n = 0x02 then { s with schk := mapSet false s.schk g.ctxid.toNat (v.getLsbD 0) }
  else if n = 0x03 then { s with shadow := mapSet 0 s.shadow g.ctxid.toNat (v.extractLsb' 0 2) }
  else if n = 0x04 then { s with lrank := mapSet 0 s.lrank g.ctxid.toNat (v.extractLsb' 0 10) }
  else if n = 0x06 then { s with ctxtab := v.extractLsb' 0 48 }
  else if n = 0x07 then modCore s g.core (fun c => { c with aown := v.extractLsb' 0 17 })
  else if n = 0x09 then modCore s g.core (fun c => { c with ptmo := loWord v })
  else
    let k := g.ctxid.toNat * 8 + (n - 0x40) / 8
    let sh := 64 * (n % 8)
    let old := mapGet 0 s.scope k
    let new := (old &&& ~~~(BitVec.ofNat 512 ((2 ^ 64 - 1) * 2 ^ sh))) ||| BitVec.ofNat 512 (v.toNat * 2 ^ sh)
    { s with scope := mapSet 0 s.scope k (new &&& scopeMask s g.ctxid) }
/-- Earlier control-space stores of these lanes are still to be performed (R68, R276). -/
def ctlStoresLeft (s : State) (g : Group) (m : Mask) : Bool :=
  s.ops.any (fun o => o.gid == g.gid && o.mask &&& m != 0 && !isLoadKind o.kind && !isRatomKind o.kind &&
    o.accs.any (fun a => !a.done && isCtl a.at_)) ||
  g.tcDeps.any (fun i => s.ops.any (·.id == i) || s.aops.any (fun o => o.id == i && o.st == .pending))
/-- SWR at issue. -/
def swrIssue (S : BitVec 3) (n : Nat) (a : RegName) (s : State) (g : Group) (e : Ent) : State × Fate :=
  let v := if srWide n then groupPair s g e.mask a else (groupVal s g e.mask a).setWidth 64
  if srIgnored g.kernel n then (moveOn s g e S, .quiet)
  else if n = 0x00 ∧ g.budget < bitsOf v 3 5 * 8 + 8 then causeAll s g e 0x088 0
  else if srGroup n then (moveOn (modGroup s g.gid (fun g => swrGroup g n v)) g e S, .quiet)
  else if !ownReadsDone s g then (stallEnt s g.gid e 0 .ownLoads, .stay)
  else if ctlStoresLeft s g e.mask then (stallEnt s g.gid e 0 .ownStores, .stay)
  else if n = 0x07 ∧ !(coreOf s g.core).stream.isEmpty then (stallEnt s g.gid e 0 .aown, .stay)
  else (moveOn (swrShared s g n v) g e S, .loud)
/-- SWR (R275, R276). -/
def execSwr (S : BitVec 3) (r : BitVec 8) (a : RegName) (s : State) : Host.Outcome State Fault Refusal :=
  issue (.swr S r a) s (swrIssue S r.toNat a)

/-! ## Traps and return (R277, R278) -/

/-- TRAP (R277): kind "after". -/
def execTrap (S : BitVec 3) (n : BitVec 4) (s : State) : Host.Outcome State Fault Refusal :=
  issue (.trap S n) s (fun s g e =>
    (raiseAfter (moveOn s g e S) g.gid e.mask (BitVec.ofNat 9 (0x1E0 + n.toNat)) 0, .loud))
/-- ERET (R278, R378). -/
def execEret (S : BitVec 3) (s : State) : Host.Outcome State Fault Refusal :=
  issue (.eret S) s (fun s g e => match g.ltrap with
    | none => causeAll s g e 0x1C1 0
    | some l => if bitsOf g.xpc 0 2 ≠ 0 || minus (g.xlmask &&& g.live) l.lanes != 0 then causeAll s g e 0x001 0
      else (returnTrap s g l S.toNat, .loud))
/-- KSET (R279): the integer class. -/
def execKset (S : BitVec 3) (k : BitVec 5) (a : RegName) (s : State) : Host.Outcome State Fault Refusal :=
  issue (.kset S k a) s (fun s g e =>
    (moveOn (pushWrite s g.gid
      ⟨.k k.toNat, e.mask, [(lowest e.mask, (groupVal s g e.mask a).setWidth 64)], some (g.opp + 3), 0⟩) g e S, .quiet))

/-! ## Code writes (R280, R281) -/

/-- A held word lies in the range an ICINV names, under its context. -/
def inRange (w : IWord) (ctx start len : Nat) : Bool :=
  w.ctx.toNat == ctx && start ≤ w.va.toNat && w.va.toNat < start + len
/-- Cores whose instruction caches a scope code covers (R280, R297). -/
def icCores (s : State) (g : Group) (code : Nat) : List Nat :=
  if code ≤ 3 then [g.core]
  else if 12 ≤ code then List.range Config.nCores
  else
    let sm := scopeReg s g.ctxid (code - 4)
    (List.range Config.nCores).filter (fun n => n == g.core || sm.getLsbD n)
/-- A held word lies in a 64-byte line that holds a word of the range. -/
def inLines (w : IWord) (ctx start len : Nat) : Bool :=
  w.ctx.toNat == ctx && start < w.va.toNat / 64 * 64 + 64 && w.va.toNat / 64 * 64 < start + len
/-- Every instruction cache in scope drops the range, with the lines that hold its words; a loop buffer that holds a word of it becomes stale. -/
def icDrop (s : State) (cores : List Nat) (ctx start len : Nat) : State :=
  let s := cores.foldl (fun s n => modCore s n (fun c => { c with icache := c.icache.filter (fun w => !inLines w ctx start len) })) s
  { s with groups := s.groups.map (fun g =>
      if cores.contains g.core && g.loop.any (fun w => inRange w ctx start len) then { g with loopStale := true } else g) }
/-- The other packages that an ICINV of a scope covers (R297): at domain scope those of the paddock that are not lost. -/
def icPkgs (s : State) (code : Nat) : List Nat :=
  if code = 13 then natsWhere 768 (fun p => p != ownPkg s && inPaddock s p && !isLost s p) else []
/-- An ICINV goes to other packages, which are to answer it by its number. -/
def icSend (s : State) (num : Nat) (ps : List Nat) (ctx start len : Nat) : State :=
  ps.foldl (fun s p => send s (.icinv p num (BitVec.ofNat 16 ctx) start len)) { s with icinvOwed := s.icinvOwed ++ ps.map (fun p => (num, p)) }
/-- ICINV (R280): Stalled until every cache in scope has dropped the range (ICINV_COMPLETE). -/
def execIcinv (S : BitVec 3) (c : BitVec 7) (a : RegName) (s : State) : Host.Outcome State Fault Refusal :=
  issue (.icinv S c a) s (fun s g e =>
    let start := (readPair s g 0 a).toNat
    let len := (readRegAt s g 0 a 2).toNat
    if len = 0 then (moveOn s g e S, .quiet)
    else (stallIssued s g.gid e S.toNat (.icinv g.ctxid.toNat c.toNat start len 0), .stay))
/-- ISYNC (R281, R304). -/
def execIsync (S : BitVec 3) (s : State) : Host.Outcome State Fault Refusal :=
  issue (.isync S) s (fun s g e =>
    if !ownReadsDone s g then (stallEnt s g.gid e 0 .ownLoads, .stay)
    else (moveOn (modGroup s g.gid (fun g => { g with loop := [], loopStale := false })) g e S, .quiet))

/-! ## XLATE (R282) -/

/-- A lane's walk. -/
def xlateWalk (s : State) (g : Group) (va : DWord) : XRes := translate s (.core g.core) g.ctxid true .probe va 1
/-- The report of a finished walk. -/
def xlateReport (s : State) (va : DWord) : XRes → DWord
  | .fault c => BitVec.ofNat 64 (2 ^ 63 + c.toNat)
  | .held _ => 0
  | .ok x =>
    let size := if x.level = 0 then (if x.leaf.getLsbD 6 then 1 else 0) else x.level + 1
    let head := size * 2 ^ 56 + bitsOf x.leaf 2 7 * 2 ^ 49
    match x.at_ with
    | .ctl a => BitVec.ofNat 64 (head + a)
    | .ten a => BitVec.ofNat 64 (head + a)
    | .ap off => BitVec.ofNat 64 (head + (ownPkg s * 2 ^ 33 + 0x1FFFE0000 + off))
    | _ => BitVec.ofNat 64 (bitsOf va 0 48)
/-- A lane's report as an access on its way: completion points of the sectors walked wait for it (R81, R85). -/
def xlateAcc (p : Nat × DWord × Xlat) : Acc := ⟨p.1, p.2.1, .spad 0, 0, 0, 0, false, false, p.2.2.sectors, [], false⟩
/-- XLATE (R282): scoreboarded; its walks come after the writes that a load there would follow (R85), and merge no Blend sector. -/
def xlateIssue (S : BitVec 3) (d a : RegName) (s : State) (g : Group) (e : Ent) : State × Fate :=
  let ws : List LaneWalk := (lanesOf e.mask).map (fun l => (l, laneAddr0 s g l a, xlateWalk s g (laneAddr0 s g l a)))
  match heldAt ws with
  | some x => (stallWalk s g.gid e x, .stay)
  | none =>
    let load : MemSpec := ⟨.load false, 1, fun l => (laneAddr0 s g l a, xlateWalk s g (laneAddr0 s g l a)), false, noData, noWrites,
      fun _ => false⟩
    let loads := (passOf ws).map (accOf s g load)
    let late := ptWrites s loads (afterOf s g e.mask (.load false) loads)
    if !late.isEmpty then (stallEnt s g.gid e 0 (.order late), .stay)
    else
      let rep := fun l => xlateReport s (laneAddr0 s g l a) (xlateWalk s g (laneAddr0 s g l a))
      let t := ws.foldl (fun s w => match w.2.2 with
        | .fault 0x180 => (walkWords s (.core g.core) g.ctxid w.2.1).foldl markCtl s
        | _ => s) s
      let t := installT t (.core g.core) ((passOf ws).foldl (fun xs p => insAll p.2.2.sectors xs) [])
      let (tok, t) := fresh t
      let t := { t with ops := t.ops ++ [{ resultOp g e.mask tok with accs := (passOf ws).map xlateAcc }] }
      (moveOn (pushAll t g.gid
        [boardWrite g d 0 e.mask tok (fun l => (loWord (rep l)).setWidth 64),
         boardWrite g d 1 e.mask tok (fun l => (hiWord (rep l)).setWidth 64)]) g e S, .quiet)
/-- XLATE (R282). -/
def execXlate (S : BitVec 3) (d a : RegName) (s : State) : Host.Outcome State Fault Refusal :=
  issue (.xlate S d a) s (xlateIssue S d a)

/-! ## Waiting and stopping (R283, R284) -/

/-- SLEEP (R283). -/
def execSleep (S : BitVec 3) (a : RegName) (s : State) : Host.Outcome State Fault Refusal :=
  issue (.sleep S a) s (fun s g e =>
    let n := (groupVal s g e.mask a).toNat
    let due := (coreOf s g.core).cycle.toNat + n
    if g.core < Config.nCompute then
      if n = 0 then (moveOn s g e S, .quiet) else (stallIssued s g.gid e S.toNat (.sleep (some due) false), .stay)
    else (stallIssued s g.gid e S.toNat (.sleep (if n = 0 then none else some due) true), .stay))
/-- HALT (R284): GONE is set on every channel whose HCORE names the core. -/
def execHalt (S : BitVec 3) (s : State) : Host.Outcome State Fault Refusal :=
  issue (.halt S) s (fun s g e =>
    let t := (List.range 4).foldl (fun s c =>
      let d := dbgWord s c 0
      if d.getLsbD 0 && bitsOf d 48 9 == g.core then apPut s (0x10018 + 0x20 * c) 63 1 1 else s) s
    (modCore (moveOn t g e S) g.core (fun c => { c with halted := true }), .loud))

/-! ## CTXSAVE and CTXLOAD (R285) -/

/-- An accumulator move at issue. -/
def tilesIssue (S : BitVec 3) (save : Bool) (h : Nat) (a : RegName) (s : State) (g : Group) (e : Ent) : State × Fate :=
  if handleSt s g h == .pending then causeAll s g e 0x0E1 0
  else
    let addr := readPair s g 0 a
    let sel := (readRegAt s g 0 a 2).toNat % 256
    if sel = 0 then (moveOn (startAop s g h (.tiles save addr 0) .done none [] []).2 g e S, .loud)
    else if addr.toNat % 64 ≠ 0 then (moveOn (startAop s g h (.tiles save addr sel) (.error 0x04C addr) none [] []).2 g e S, .loud)
    else
      let first := ((List.range 8).filter sel.testBit).map (tileWrites s g.core)
      let (id, s) := startAop s g h (.tiles save addr sel) .pending none [] (insAll first.flatten [])
      (moveOn (modCore s g.core (fun c => { c with moves := c.moves ++ [id] })) g e S, .loud)
/-- CTXSAVE (R285). -/
def execCtxsave (S : BitVec 3) (h : BitVec 4) (a : RegName) (s : State) : Host.Outcome State Fault Refusal :=
  issue (.ctxsave S h a) s (tilesIssue S true h.toNat a)
/-- CTXLOAD (R285). -/
def execCtxload (S : BitVec 3) (h : BitVec 4) (a : RegName) (s : State) : Host.Outcome State Fault Refusal :=
  issue (.ctxload S h a) s (tilesIssue S false h.toNat a)

/-! ## A word that is no instruction (R145) -/

/-- A debug break, then illegal-opcode in every lane of the entry (R145, R147, R289). -/
def execIllegalOpcodeWord (_w : Word) (s : State) : Host.Outcome State Fault Refusal :=
  match selected s with
  | none => .next s
  | some (g, e) =>
    match breakHit s g e with
    | some c => .next (settle (breakAt s g e c) g.team)
    | none => .next (settle (raiseAll s g e 0x000 0) g.team)
/-- A word whose fields are illegal: the earlier checks of R147, then illegal-operand (R142). -/
def illegalOperands (i : Instr) (s : State) : Host.Outcome State Fault Refusal :=
  match precheck i false s with
  | .stop => .next s
  | .trap t gid => .next (settleOf t gid)
  | .go t _ _ _ => .next t
/-- A fetch that faults: its cause in every lane, before issue (R70, R413); XINFO is the PC. -/
def fetchFault (c : Cause) (s : State) : Host.Outcome State Fault Refusal :=
  match selected s with
  | none => .next s
  | some (g, e) =>
    match breakHit s g e with
    | some ch => .next (settle (breakAt s g e ch) g.team)
    | none => .next (settle (raiseAll (fetchLeaves s g e.pc) g e c e.pc) g.team)

end Sys2Proof.Machine
end

