-- ==== Sys2Proof/Machine/Sched.lean ====
section
/-! DEFINITION. Choosing what issues (02 R24-R33): the two front ends and their bundles, the entry each group chooses, stall
counts and deferrals, and one cycle of a core. -/

namespace Sys2Proof.Machine

/-! ## Leaving Stalled and Deferred (R25, R29, R283) -/

/-- Entries whose wait is over become Ready, their stall counts kept (R25). -/
def wakeStalled (s : State) (g : Group) : Group :=
  { g with ents := g.ents.map (fun e => match e.st with
      | .stalled w => if stallOver s g w then { e with st := .ready } else e
      | _ => e) }
/-- STALL_COUNT_EXPIRY (R25): the group's entries whose count has run out and whose wait is over are Ready. -/
def execStallCountExpiry (core gid : Nat) (s : State) : Host.Outcome State Fault Refusal :=
  match groupOf s gid with
  | none => .next s
  | some g => .next (if g.core == core then setGroup s (wakeStalled s g) else s)
/-- Release a deferral that is over (R29). -/
def releaseDefer (s : State) (g : Group) (pc : DWord) (prio : Byte) : State :=
  match g.ents.find? (fun e => e.pc == pc && e.prio == prio && deferOver s g e) with
  | none => s
  | some e => setGroup s { g with ents := replFirst (fun x => x == e) { e with st := .ready } g.ents }
/-- DEFERRED_RELEASE (R29). -/
def execDeferredRelease (core gid : Nat) (pc : DWord) (prio : Byte) (s : State) : Host.Outcome State Fault Refusal :=
  match groupOf s gid with
  | none => .next s
  | some g => .next (if g.core == core then releaseDefer s g pc prio else s)
/-- A Stalled entry's instruction completes: its lanes go to PC + 4. -/
def wakeEnt (s : State) (gid : Nat) (e : Ent) : State := settleOf (unpark s gid e) gid
/-- A SLEEP whose count has run out, or which an interrupt ended (R283). -/
def sleepOver (s : State) (g : Group) (e : Ent) : Bool := match e.st with
  | .stalled (.sleep (some due) _) => decide (due ≤ (coreOf s g.core).cycle.toNat)
  | _ => false
/-- SLEEP_COUNT_EXPIRY (R283). -/
def execSleepCountExpiry (core gid : Nat) (pc : DWord) (prio : Byte) (s : State) : Host.Outcome State Fault Refusal :=
  match groupOf s gid with
  | none => .next s
  | some g =>
    match g.ents.find? (fun e => e.pc == pc && e.prio == prio && sleepOver s g e) with
    | some e => .next (if g.core == core then wakeEnt s gid e else s)
    | none => .next s
/-- What a FENCE put before the ICINV of an entry has been performed (R303): stores of the words it is to drop. -/
def fencedDone (s : State) (g : Group) (e : Ent) : Bool := g.deps.all (fun d => d.1 &&& e.mask == 0 || gone s d.2.1)
/-- The entry's ICINV goes to other packages: it is Stalled under the number they will answer. -/
def icAsk (s : State) (g : Group) (e : Ent) (ctx scope start len : Nat) : State :=
  let (num, s) := fresh s
  icSend (setGroup s { g with ents := g.ents.map (fun x => if x == e then { x with st := .stalled (.icinv ctx scope start len num) } else x) })
    num (icPkgs s scope) ctx start len
/-- ICINV_COMPLETE (R280): every cache in scope has dropped the range, in other packages (R297) before the last one here. -/
def execIcinvComplete (core gid : Nat) (pc : DWord) (prio : Byte) (s : State) : Host.Outcome State Fault Refusal :=
  match groupOf s gid with
  | none => .next s
  | some g =>
    match g.ents.find? (fun e => e.pc == pc && e.prio == prio && (match e.st with
      | .stalled (.icinv _ _ _ _ _) => true
      | _ => false)) with
    | some e => (match e.st with
      | .stalled (.icinv ctx scope start len num) =>
        .next (if g.core != core || !fencedDone s g e || s.icinvOwed.any (fun k => k.1 == num) then s
          else if num = 0 && !(icPkgs s scope).isEmpty then icAsk s g e ctx scope start len
          else wakeEnt (icDrop s (icCores s g scope) ctx start len) gid e)
      | _ => .next s)
    | none => .next s

/-! ## Choosing (R26, R32) -/

/-- The group may issue at all: not halted for a save, its scratchpad zeroed (R311, R314). -/
def mayIssue (s : State) (g : Group) : Bool :=
  !g.halted && (match teamOf s g.team with
    | some t => !t.zeroing
    | none => false)
/-- The entries Choose considers: handler entries while a local trap is open (R376); of those, while one holds a stepped lane
and is not Parked or held, those that hold one alone (R288). DESIGN CHOICE (log entry 66): two channels that step lanes of two
entries of one group let either entry issue. -/
def candidates (s : State) (g : Group) : List Ent :=
  let es := match g.ltrap with
    | some l => g.ents.filter (fun e => minus e.mask l.lanes == 0)
    | none => g.ents
  let hits := stepHits s g g.live
  let stepped := es.filter (fun e => unparked e && hits.any (fun h => bitAt e.mask h.2))
  if stepped.isEmpty then es else stepped
/-- Choose (R26): the highest priority, then the lowest PC. -/
def choose (s : State) (g : Group) : Option Ent :=
  if !mayIssue s g then none
  else (sortBy (fun a b : Ent => b.prio < a.prio || (a.prio == b.prio && a.pc < b.pc))
    ((candidates s g).filter (readyEnt s g))).head?
/-- The groups of a bundle in the bundle's group order (R52). -/
def bundleGroups (s : State) (core : Nat) (b : Bundle) : List Group :=
  sortBy (fun a c : Group => lexLt a.ord c.ord)
    (s.groups.filter (fun g => g.core == core && b.members.any (fun m => m.2 == g.gslot)))
/-- Eligible (R32). -/
def eligible (s : State) (core : Nat) (b : Bundle) : Bool :=
  (bundleGroups s core b).any (fun g => (choose s g).isSome || (mayIssue s g && g.ents.any (fun e => e.stall != 0 && unparked e)))
/-- The next bundle of a front end after the last one, in placement order, that is eligible and not yet selected. -/
def nextBundle (s : State) (core : Nat) (consumer : Bool) (last : Nat) (used : List Nat) : Option Bundle :=
  let bs := (coreOf s core).bundles.filter (fun b => b.consumer == consumer && !used.contains b.bid && eligible s core b)
  match bs.find? (fun b => last < b.bid) with
  | some b => some b
  | none => bs.head?
/-- The lead group: the next after the last leader that has a Ready entry. DESIGN CHOICE (log entry 87): after a caller group whose
place its sub-team groups hold by now, these come next. -/
def leadGroup (s : State) (core : Nat) (b : Bundle) : Option (Group × Ent) :=
  let gs := (bundleGroups s core b).filterMap (fun g => (choose s g).map (fun e => (g, e)))
  match gs.find? (fun p => lexLt b.lastLead p.1.ord) with
  | some p => some p
  | none => gs.head?

/-- An issue opportunity of a group (R25, R29, R149): deferrals that are over are released, counts run down, and due writes
take effect. -/
def opportunity (s : State) (gid : Nat) : State :=
  let s := modGroup s gid (fun g => { g with
    opp := g.opp + 1,
    ents := g.ents.map (fun e => { e with stall := e.stall - 1, st := (match e.st with
      | .deferred n w => .deferred (n - 1) w
      | x => x) }) })
  applyDue s gid false
/-- The order in which the issues of one cycle are made (R35, R244, R264): team, then group. -/
def pickKey (s : State) (gid : Nat) : List Nat := match groupOf s gid with
  | some g => [g.team, g.gslot] ++ g.ord.drop 1
  | none => []

/-- Serve one slot (R32): the front end's bundle, or the other's. -/
def serveSlot (s : State) (core : Nat) (slot : Nat) (used : List Nat) (picks : List Sel) : State × List Nat × List Sel :=
  let own := slot != 0
  let c := coreOf s core
  let lastOf := fun (k : Bool) => if k then c.lastBundleC else c.lastBundle
  let got := match nextBundle s core own (lastOf own) used with
    | some b => some b
    | none => nextBundle s core (!own) (lastOf (!own)) used
  match got with
  | none => (s, used, picks)
  | some b =>
    let lead := leadGroup s core b
    let gs := bundleGroups s core b
    let chosen := match lead with
      | none => []
      | some (_, e) => gs.filterMap (fun g => match choose s g with
          | some x => if x.pc == e.pc && x.prio == e.prio then some (g, x) else none
          | none => none)
    let active := chosen.foldl (fun m p => m ||| maskWhere (fun c => (lanesOf p.2.mask).any (fun l => regLane p.1 l == c))) 0
    let lastLead := match lead with
      | some (g, _) => g.ord
      | none => b.lastLead
    let bundles := c.bundles.map (fun x => if x.bid == b.bid then { x with lastLead := lastLead } else x)
    let s0 := s
    let s := setCore s core (if b.consumer then { c with lastBundleC := b.bid, bundles := bundles }
      else { c with lastBundle := b.bid, bundles := bundles })
    let s := gs.foldl (fun s g => opportunity s g.gid) s
    (s, b.bid :: used, picks ++ chosen.map (fun p => ⟨p.1.gid, p.2.pc, p.2.prio, active, readyKeys s0 p.1 p.2⟩))

/-- Words that can be fetched by now (R24), sleeps whose counts have run out, and deferrals that are over. -/
def cycleStart (s : State) (core : Nat) : State :=
  let s := (s.groups.filter (fun g => g.core == core)).foldl payWords s
  let s := (s.groups.filter (fun g => g.core == core)).foldl (fun s g =>
    (g.ents.filter (sleepOver s g)).foldl (fun s e => wakeEnt s g.gid e) s) s
  (s.groups.filter (fun g => g.core == core)).foldl (fun s g =>
    g.ents.foldl (fun s e => match groupOf s g.gid with
      | some h => releaseDefer s h e.pc e.prio
      | none => s) s) s

/-- No core issues: a trip, or this package's own loss (R424, R429); or this one is held or halted (R284, R349). -/
def coreStopped (s : State) (core : Nat) : Bool :=
  s.tripped || s.lost || (coreOf s core).held || (coreOf s core).halted

/-- Begin a cycle of a core: CYCLE advances, a save's timeout runs down unless the core is halted or tripped (R401, R424),
and the issues of its four slots are chosen. -/
def beginCycle (s : State) (core : Nat) : State :=
  let s := modCore s core (fun c => { c with cycle := c.cycle + 1 })
  if coreStopped s core then s
  else
    let s := { s with preempts := s.preempts.map (fun p => if p.core == core then { p with tmo := p.tmo - 1 } else p) }
    let s := cycleStart s core
    let r := [0, 1, 2, 3].foldl (fun (acc : State × List Nat × List Sel) slot => serveSlot acc.1 core slot acc.2.1 acc.2.2) (s, [], [])
    modCore r.1 core (fun c => { c with issueq := sortBy (fun a b : Sel => lexLt (pickKey r.1 a.gid) (pickKey r.1 b.gid)) r.2.2 })

/-- The next issue of a core's cycle becomes the issue in progress. -/
def takePick (s : State) (core : Nat) : Option State :=
  match (coreOf s core).issueq with
  | [] => none
  | p :: ps => some { modCore s core (fun c => { c with issueq := ps }) with sel := some p }

end Sys2Proof.Machine
end

