-- ==== Sys2Proof/Machine/Access.lean ====
section
/-! DEFINITION. Performing writes (04 R81-R90, 23 R409-R413, 24 R438): who holds a control sector, writes that wait for a
completion point, the device's own writes, and one write to each kind of place. -/

namespace Sys2Proof.Machine

/-! ## Writes to a control sector (R81-R89) -/

/-- A pin of R438 stands on a sector: of a binding here, or of a package that is not lost. -/
def pinnedSector (s : State) (x : Nat) : Bool :=
  s.binds.any (fun b => b.pins.contains x) || s.pinsAway.any (fun p => p.2 == x && !isLost s p.1)
/-- A pin stands on the sector, and the write would change a byte. -/
def pinHolds (s : State) (a : Nat) (bs : List Byte) : Bool := pinnedSector s (a / 64) && ctlBytes s a bs.length != bs
/-- The home of a sector has given its data to a request to write them, and holds that request back (R438): a write that changes no byte
is made without it. -/
def heldBack (s : State) (x : Nat) : Bool :=
  writeAway s x && (holdOf s x).isSome && s.out.contains (.home (homeOf s x) x 2) && marksOf s x == 0

/-- The write of a lane or an element is one of those that wait on the sector itself. -/
def heldOn (s : State) (x : Nat) (w : Writer) : Bool := s.heldWrites.any (fun h => h.sector == x && h.writer == w)
/-- Who is invalidated before a write (R82, R87): the sector's T holders, and every package in the region's set; a package that asks
to write it itself keeps what it has. -/
def holders (s : State) (x : Nat) (w : Writer) : List Agent :=
  let ts := tHolders s x
  let all := ts ++ (match w with
    | .called _ _ => []
    | _ => (regionPkgs s x).filter (fun a => !ts.contains a))
  match w with
  | .remote (.readOwned p _) => all.filter (fun a => a != .pkg p)
  | _ => all
/-- A write starts to wait for its completion point (R82): the holders are invalidated. -/
def startHeld (s : State) (x : Nat) (w : Writer) : State :=
  if heldOn s x w then s
  else
    let hs := holders s x w
    callBack { s with heldWrites := s.heldWrites ++ [⟨x, w, hs, [], !(tHolders s x).isEmpty⟩] } x hs
/-- Whether a write to a sector held or homed here may be performed now: no T holder, no earlier write waiting, and no copy elsewhere:
this package's caches hold it alone, or it lies in Blend, or no other package may hold a sector of its region. -/
def writeFree (s : State) (x : Nat) : Bool :=
  (tHolders s x).isEmpty && !s.heldWrites.any (fun h => h.sector == x) &&
  (!isOurs s x || holdsAlone s x || (dirOf s x).blend.isSome || (regionPkgs s x).isEmpty)
/-- What keeps a write to a control sector from being made now: a home under rebuild (R417), a pin (R438), data elsewhere (R86), or
copies and T holders, which are then invalidated (R82, R87): the state in which it waits; none when it may be made. `same` says that
it changes no byte. -/
def writeGate (s : State) (x : Nat) (same : Bool) (w : Writer) : Option State :=
  if pkgHome s (x / 2 ^ 27) == .rebuilding || heldOn s x w || (pinnedSector s x && !same) then some s
  else if writeAway s x then (if same && heldBack s x then none else some (ask s x 2))
  else if writeFree s x then none
  else some (startHeld s x w)
/-- Everyone has acknowledged the write at the head of a sector's waiting writes. -/
def ackedHeld (s : State) (x : Nat) : Option HeldWrite :=
  match s.heldWrites.find? (fun h => h.sector == x) with
  | some h => if (h.invalidate ++ h.owed).all (agentLost s) then some h else none
  | none => none
/-- It has reached its completion point: the data are here as well. -/
def headHeld (s : State) (x : Nat) : Option HeldWrite :=
  match ackedHeld s x with
  | some h => (match h.writer with
    | .called _ _ => some h
    | _ => if writeAway s x || pkgHome s (x / 2 ^ 27) == .rebuilding then none else some h)
  | none => none
/-- A waiting write is over. -/
def dropHeld (s : State) (h : HeldWrite) : State := { s with heldWrites := s.heldWrites.filter (fun k => k != h) }

/-! ## One write to a place -/

/-- Bytes of physical control memory, one write within a sector (R90, R409, R412). -/
def ctlPut (s : State) (a : Nat) (bs : List Byte) : State :=
  let s := mergeBlend s (a / 64)
  let r := coverRange s.ctlBad s.ctlPoison a bs.length
  { s with ctl := memSetBytes s.ctl a bs, ctlBad := r.1, ctlPoison := r.2 }
/-- An agent of this package writes a sector: its caches hold it in M from then on (R86), with DL set at the mirror first (R416). Of
the own home this is kept only where another package is concerned. -/
def takeM (s : State) (x : Nat) : State :=
  if !isOurs s x then setHold s x (some .m)
  else if holdOf s x == some .m then s
  else if hasMirror s x then setHold (mirrorMark s x) x (some .m)
  else if (regionPkgs s x).isEmpty then s
  else setHold s x (some .m)
/-- Dirty data of the own home are written back, at the home and at its mirror (R88): the caches keep them clean. -/
def writeBack (s : State) (x : Nat) : State :=
  if isOurs s x && holdOf s x == some .m then
    setLines (setHold (mirrorSend s x) x none) x ((linesOf s x).map (fun k => (k.1, if k.2 == .m || k.2 == .e then .e else .s)))
  else s
/-- A write made at the home itself, or, of a sector homed elsewhere, in this package's caches; `poison` says that its bytes are
poisoned (R411). -/
def homePut (s : State) (a : Nat) (bs : List Byte) (poison : Bool) : State :=
  let x := a / 64
  if heldBack s x then s
  else
  let put := fun (s : State) =>
    let t := ctlPut (setLines s x []) a bs
    if poison then { t with ctlPoison := insAll (wordsAt a bs.length) t.ctlPoison } else t
  if isOurs s x then mirrorSend (put (writeBack s x)) x else put (takeM s x)
/-- A core's write to a control sector: its cache holds it in M from then on (R86). -/
def corePut (s : State) (core a : Nat) (bs : List Byte) : State :=
  if heldBack s (a / 64) then s
  else makeRoom (ctlPut (setLines (takeM s (a / 64)) (a / 64) [(cacheOf core, .m)]) a bs) (cacheOf core) (a / 64)
/-- Bytes of physical tensor memory; the writing core's own L1 line takes them too, and loses the poison of the words they
cover. -/
def tenPut (s : State) (core : Nat) (ctx : BitVec 16) (a : Nat) (bs : List Byte) : State :=
  let r := coverRange s.tenBad s.tenPoison a bs.length
  let s := l2Touch { s with ten := memSetBytes s.ten a bs, tenBad := r.1, tenPoison := r.2 } a bs.length true (tagOf s ctx)
  modCore s core (fun c => { c with l1 := c.l1.map (fun l => if l.line == a / 64 then
    { l with bytes := (l.bytes.take (a % 64) ++ bs ++ l.bytes.drop (a % 64 + bs.length)).take 64,
             bad := (coverRange l.bad l.poison a bs.length).1, poison := (coverRange l.bad l.poison a bs.length).2 } else l) })
/-- Bytes of a window region (R104, R105): a register row held by no bundle discards them; a register written loses its
poison (R411), an accumulator element written whole its bad parity. -/
def winPut (s : State) (core region off : Nat) (bs : List Byte) : State :=
  if region = 1 then spadWrite s core off bs
  else
    let t := ((List.range bs.length).zip bs).foldl (fun s p => winSetByte s core region (off + p.1) p.2) s
    let cells := wordsAt (off * 8) (bs.length * 8)
    modCore t core (fun c =>
      if region = 0 then (if rowHeld c (off / 256) then { c with rfPoison := c.rfPoison.filter (fun n => !cells.contains n) } else c)
      else { c with accBad := c.accBad.filter (fun n => !(cells.contains n && decide (off ≤ 4 * n) && decide (4 * n + 4 ≤ off + bs.length))) })
/-- Bytes of a place of a core, written under a context. The aperture's words are written by their own rules (Aperture.lean). -/
def placePut (s : State) (core : Nat) (ctx : BitVec 16) (p : Place) (bs : List Byte) : State :=
  match canonPlace core p with
  | .ctl a => corePut s core a bs
  | .ten a => tenPut s core ctx a bs
  | .win c r off => let t := winPut s c r off bs; if c == core then t else dropStale t c
  | _ => s
/-- The word of a place that a byte lies in, as its poison mark is kept (R411). -/
def placeWord (core : Nat) (p : Place) : Place :=
  match canonPlace core p with
  | .ctl a => .ctl (a / 32)
  | .ten a => .ten (a / 32)
  | .win c r off => .win c r (off / 32)
  | q => q
/-- Clear or set the marks of the word that holds a place. -/
def markWord (s : State) (core : Nat) (p : Place) (poison : Bool) : State :=
  let f := fun (n : Nat) (xs : List Nat) => if poison then insNat n xs else delNat n xs
  match canonPlace core p with
  | .ctl a => { s with ctlBad := delNat (a / 32) s.ctlBad, ctlPoison := f (a / 32) s.ctlPoison }
  | .ten a =>
    modCore { s with tenBad := delNat (a / 32) s.tenBad, tenPoison := f (a / 32) s.tenPoison } core (fun c =>
      { c with l1 := c.l1.map (fun l => if l.line == a / 64 then { l with poison := f (a / 32) l.poison, bad := delNat (a / 32) l.bad } else l) })
  | .win c 1 off => modCore s c (fun k => { k with spadBad := delNat (off / 32) k.spadBad, spadPoison := f (off / 32) k.spadPoison })
  | _ => s
/-- The lanes of one instruction cover a whole 32-byte word (R412). -/
def opCovers (o : MemOp) (core : Nat) (w : Place) : Bool :=
  let offs := (o.accs.filter (fun a => placeWord core a.at_ == w)).map (fun a =>
    (match canonPlace core a.at_ with
      | .ctl p => p % 32
      | .ten p => p % 32
      | .win _ _ p => p % 32
      | _ => 0, a.size))
  (List.range 32).all (fun i => offs.any (fun p => p.1 ≤ i && i < p.1 + p.2))

/-! ## The device's own writes (R82) -/

/-- A device write is done: the end of a report (R351), or the vector it raises (R321). -/
def devOver (s : State) (w : DevWrite) : State :=
  let s := if w.report then apPut s 0x120 62 1 0 else s
  match w.vector with
  | some (t, v) => raiseVector s t v
  | none => s
/-- A device write is performed: it is done at once, or once the mirror home has it too (R88). DESIGN CHOICE (log entry 89): one to the
own aperture changes no register. -/
def devDone (s : State) (w : DevWrite) : State :=
  if apSector (w.addr / 64) then devOver s w
  else
    let s := homePut s w.addr w.bytes w.poison
    if mirrorWaits s (w.addr / 64) then { s with devMade := some w } else devOver s w
/-- Perform the device's writes in order, as far as no completion point must be waited for. -/
def drainDev : Nat → State → State
  | 0, s => s
  | n + 1, s =>
    match s.devWrites with
    | [] => s
    | w :: ws =>
      let x := w.addr / 64
      if s.devMade.isSome || s.heldWrites.any (fun h => h.writer == .device) then s
      else match writeGate s x (!w.poison && ctlBytes s w.addr w.bytes.length == w.bytes) .device with
        | none => drainDev n (devDone { s with devWrites := ws } w)
        | some t => t
/-- The device writes: each entry lies in one sector. -/
def devWrite (s : State) (ws : List DevWrite) : State :=
  drainDev (s.devWrites.length + ws.length + 1) { s with devWrites := s.devWrites ++ ws }
/-- Bytes cut at sector ends. -/
def cutSectors : Nat → Nat → List Byte → List DevWrite
  | 0, _, _ => []
  | n + 1, a, bs =>
    if bs.isEmpty then [] else ⟨a, bs.take (64 - a % 64), none, false, false, []⟩ :: cutSectors n (a + (64 - a % 64)) (bs.drop (64 - a % 64))
/-- 64-bit words at a control address, as device writes of one sector each. -/
def devWords (a : Nat) (ws : List DWord) : List DevWrite :=
  cutSectors (ws.length + 1) a ((ws.map (fun w => leBytes 8 w.toNat)).flatten)

/-! ## Accesses that end -/

/-- Lines of tensor memory an access touches. -/
def opLines (o : MemOp) : List Nat := o.accs.filterMap (fun a => match a.at_ with
  | .ten p => some (p / 64)
  | _ => none)
/-- An access is over: cores whose later accesses follow it hold no old copy of its lines (R294, R295), its team's waits
that depended on it are looked at again, and the collective engine goes on. -/
def removeOp (s : State) (o : MemOp) : State :=
  let cores := (s.groups.filter (fun g => g.deps.any (fun d => d.2.1 == o.id))).map (·.core)
  let lines := opLines o
  let s := { s with ops := s.ops.filter (fun p => p.id != o.id) }
  let s := if lines.isEmpty then s else
    cores.foldl (fun s n => modCore s n (fun c => { c with l1 := c.l1.filter (fun l => !lines.contains l.line) })) s
  let s := settle s o.team
  if s.binds.isEmpty then s else collPump s
/-- One lane of an access is performed; the access is over with its last lane, unless it still has a result to deliver. -/
def laneDone (s : State) (o : MemOp) (a : Acc) : State :=
  let o' : MemOp := { o with accs := o.accs.map (fun b => if b.lane == a.lane then { a with done := true } else b) }
  let returns := match o.kind with
    | .store => false
    | .stsp => false
    | .cadd _ => false
    | _ => true
  if !returns && o'.accs.all (·.done) then removeOp (setOp s o') o' else setOp s o'

end Sys2Proof.Machine
end

