-- ==== Sys2Proof/Machine/Drover.lean ====
section
/-! DEFINITION. The Drover (14 R306-R312, 05 R106-R112, 11 R263-R268): partitions and work-queue configuration, the host's
submissions, the check of a launch record, placing teams, the mailbox, and the release of a team. -/

namespace Sys2Proof.Machine

/-! ## Configuration words (R306-R308) -/

/-- A SIZE of R306. -/
def sizeOk (n : Nat) : Bool := n == 1 || n == 2 || n == 3 || n == 4 || n == 6 || n == 12
/-- Slices of one partition meet those of another. -/
def slicesMeet (f z f' z' : Nat) : Bool := f < f' + z' && f' < f + z
/-- A team of the tenant is resident or saved. -/
def tenantHasTeam (s : State) (t : Nat) : Bool :=
  s.teams.any (fun x => x.tenant == t) || s.saved.any (fun v => v.teams.any (fun x => x.tenant == t))
/-- A write to tenant t's partition word (R306). -/
def partitionWrite (s : State) (t : Nat) (v : DWord) : State :=
  let o := 0x1000 + 8 * t
  let old := apWord s o
  let f := bitsOf v 0 4
  let z := bitsOf v 8 4
  let on := v.getLsbD 15
  if 12 ≤ t || bitsOf v 16 48 ≠ 0 || bitsOf v 12 3 ≠ 0 || bitsOf v 4 4 ≠ 0 then s
  else if old.getLsbD 15 && (on || tenantHasTeam s t) then s
  else if on && (!sizeOk z || f % z ≠ 0 || 12 < f + z ||
      (List.range 12).any (fun u => u != t && (match partition s u with
        | some (f', z') => slicesMeet f z f' z'
        | none => false))) then s
  else apSet s o v
/-- A write to WQCFG of queue q (R307). -/
def wqcfgPut (s : State) (q : Nat) (v : DWord) : State :=
  let o := 0x2000 + 8 * q
  let old := apWord s o
  if 64 ≤ q || bitsOf v 32 32 ≠ 0 || v.getLsbD 28 || bitsOf v 19 5 ≠ 0 || bitsOf v 1 15 ≠ 0 || 11 < bitsOf v 24 4 then s
  else if old.getLsbD 31 then apSet s o (putBits (putBits old 31 1 (bitsOf v 31 1)) 16 3 (bitsOf v 16 3))
  else apSet s o v
/-- A write to ITEM of queue q (R308). -/
def hostItem (s : State) (q : Nat) (v : DWord) : State :=
  let w1 := 0x2408 + 16 * q
  if 64 ≤ q then s
  else if !(wqCfg s q).getLsbD 31 || 512 ≤ (wqOf s q).items.length then apSet s w1 (apWord s w1 ||| BitVec.ofNat 64 (2 ^ 63))
  else wqAppend s q ⟨v, BitVec.ofNat 16 (bitsOf (apWord s w1) 0 16), [], none, true⟩
/-- A write to the second host word of queue q (R308). -/
def hostWord1 (s : State) (q : Nat) (v : DWord) : State :=
  let w1 := 0x2408 + 16 * q
  if bitsOf v 16 47 ≠ 0 then s
  else
    let old := apWord s w1
    apSet s w1 (putBits (putBits old 0 16 (bitsOf v 0 16)) 63 1 (if v.getLsbD 63 then 0 else bitsOf old 63 1))
/-- TENANT_PARTITION_WRITE (R306). -/
def execTenantPartitionWrite (t : Nat) (v : DWord) (s : State) : Host.Outcome State Fault Refusal := .next (partitionWrite s t v)
/-- WQCFG_WRITE (R307). -/
def execWqcfgWrite (q : Nat) (v : DWord) (s : State) : Host.Outcome State Fault Refusal := .next (wqcfgPut s q v)
/-- HOST_ITEM_APPEND (R308): the write arrives once the posted writes before it are visible. -/
def execHostItemAppend (q : Nat) (v : DWord) (s : State) : Host.Outcome State Fault Refusal :=
  .next (if s.devWrites.isEmpty then hostItem s q v else s)

/-! ## The check of a launch record (R106-R112) -/

/-- Group width of a code (R108). -/
def widthOf (c : Nat) : Nat := if c = 0 then 1 else 4 * 2 ^ c
/-- Bytes of the queue area (R110). -/
def queueArea (w : Nat) (qdecl : DWord) : Nat :=
  ((List.range 8).map (fun q => if qdecl.getLsbD (8 * q + 7) then
    (bitsOf qdecl (8 * q) 7 * (w * 4 + 8) + 63) / 64 * 64 else 0)).foldl (· + ·) 0
/-- A collective binding's words pass (R111, R112, R125). DESIGN CHOICE (log entry 92): one with V = 0 passes only when it is zero, as R111
has it, though R112 names no refusal for it. -/
def bindingOk (r : List DWord) (c : Nat) : Bool :=
  let w := fun j => r.getD (32 + 4 * c + j) 0
  let w0 := w 0
  let w1 := w 1
  if !w0.getLsbD 63 then w0 == 0 && w1 == 0 && w 2 == 0 && w 3 == 0
  else
    bitsOf w0 58 5 == 0 && !w0.getLsbD 55 && bitsOf w0 48 4 == 0 && bitsOf w1 42 22 == 0 && bitsOf (w 3) 48 16 == 0 &&
    bitsOf w0 56 2 != 3 && bitsOf w1 0 32 != 0 && bitsOf w0 0 3 == 0 && bitsOf (w 2) 0 6 == 0 && bitsOf (w 3) 0 3 == 0 &&
    bitsOf (w 2) 62 2 == 1 && !slotScale (r.getD (24 + bitsOf w0 52 3) 0)
/-- R112 on the 48 words of a record. -/
def recordOk (control : Bool) (r : List DWord) : Bool :=
  let w := fun j => r.getD j 0
  let hdr := w 0
  let wc := bitsOf hdr 32 3
  let groups := bitsOf hdr 27 5 + bitsOf hdr 22 5
  let budget := fun b => 4 ≤ b && b ≤ 32
  let gx := bitsOf (w 3) 0 16
  let gy := bitsOf (w 3) 16 16
  let gz := bitsOf (w 3) 32 16
  bitsOf hdr 56 8 == 1 && bitsOf hdr 35 21 == 0 && bitsOf hdr 1 9 == 0 &&
  bitsOf (w 1) 48 16 == 0 && bitsOf (w 2) 48 16 == 0 && bitsOf (w 3) 48 16 == 0 && bitsOf (w 4) 32 32 == 0 &&
  bitsOf (w 5) 32 32 == 0 && w 7 == 0 && bitsOf (w 8) 0 32 == 0 &&
  wc < 5 && (wc != 0 || control) && 1 ≤ groups && groups ≤ 16 && budget (bitsOf hdr 16 6) && budget (bitsOf hdr 10 6) &&
  gx != 0 && gy != 0 && gz != 0 && gx * gy * gz ≤ 2 ^ 32 &&
  bitsOf (w 4) 0 6 == 0 && bitsOf (w 4) 0 32 + queueArea (widthOf wc) (w 6) ≤ 524288 &&
  (List.range 8).all (fun q =>
    let d := bitsOf (w 6) (8 * q) 7
    if (w 6).getLsbD (8 * q + 7) then 2 ≤ d && d ≤ 64 else d == 0) &&
  (List.range 8).all (fun f => slotOk (w (24 + f))) && (List.range 4).all (bindingOk r)

/-- The Drover's read of a record: six 64-byte blocks (R106). -/
def recordRead (s : State) (ctx : BitVec 16) (va : DWord) : Except XRes (List DWord × List Nat × List Nat) :=
  (List.range 6).foldl (fun acc j =>
    match acc with
    | .error r => .error r
    | .ok (ws, ss, xs) =>
      match translate s (.port 0) ctx true .load (va + BitVec.ofNat 64 (64 * j)) 64 with
      | .ok x => (match x.at_ with
        | .ctl a =>
          if ownedAway s (a / 64) then .error (.held (a / 64))
          else match placeBad s 288 (.ctl a) 32, placeBad s 288 (.ctl (a + 32)) 32 with
            | some c, _ => .error (.fault c)
            | none, some c => .error (.fault c)
            | none, none => .ok (ws ++ (List.range 8).map (fun i => ctlWord64 s (a + 8 * i)), insAll x.sectors ss, xs ++ [a / 64])
        | _ => .error (.fault 0x04C))
      | r => .error r) (.ok ([], [], []))

/-- A launch is refused (R265, R266, R309, R320). -/
def refuseLaunch (s : State) (q : Nat) (x : Item) (c : Cause) (xinfo : DWord) : State :=
  let t := bitsOf (wqCfg s q) 24 4
  let o := 0x6010 + 32 * t
  let s := setItems s q ((wqOf s q).items.drop 1)
  let s := apSet s o (BitVec.ofNat 64 (2 ^ 63 + bitsOf x.val 0 48))
  let s := raiseVector s t 1
  match x.launch with
  | some id => endAop s id (.error c xinfo)
  | none => s
/-- Cores a launch may be placed on (R309, R310). -/
def coresOf (s : State) (control : Bool) (t : Nat) : List Nat :=
  if control then (List.range 16).map (· + 288)
  else match partition s t with
    | some (f, z) => (List.range (24 * z)).map (· + 24 * f)
    | none => []
/-- A launch is accepted: the record becomes the queue's current grid (R309). -/
def acceptLaunch (s : State) (q : Nat) (x : Item) (r : List DWord) (tenant : Nat) : State :=
  let cfg := wqCfg s q
  let s := setItems s q ((wqOf s q).items.drop 1)
  let (id, s) := fresh s
  let d : Grid := {
    id := id, q := q, control := cfg.getLsbD 29, tenant := tenant, ctx := x.ctx, addr := x.val,
    rec_ := r, next := 0, withdrawn := [], last := (coresOf s (cfg.getLsbD 29) (bitsOf cfg 24 4)).getLastD 0 }
  let s := setWq { s with grids := s.grids ++ [d] } q { wqOf s q with current := some id }
  match x.launch with
  | some n => endAop s n .done
  | none => s
/-- The current grid of a queue still has a team to place. -/
def currentGrid (s : State) (q : Nat) : Option Grid :=
  match (wqOf s q).current.bind (gridOf s) with
  | some d => if (nextTeam d).isSome then some d else none
  | none => none
/-- The head of a launch queue is checked (R309, R112). -/
def checkHead (s : State) (q : Nat) : State :=
  let cfg := wqCfg s q
  match (wqOf s q).items with
  | [] => s
  | x :: _ =>
    if 64 ≤ q || !cfg.getLsbD 31 || !cfg.getLsbD 0 || (currentGrid s q).isSome || !x.before.all (gone s) then s
    else if x.val.toNat % 64 ≠ 0 || bitsOf x.val 62 2 ≠ 0 then refuseLaunch s q x 0x1C8 0
    else if x.host && tenantOf s x.ctx != some (bitsOf cfg 24 4) then refuseLaunch s q x 0x1C8 0
    else match recordRead s x.ctx x.val with
      | .error (.held y) => askBoth s y
      | .error (.fault c) => refuseLaunch s q x c x.val
      | .error (.ok _) => s
      | .ok (r, ss, xs) =>
        let s := xs.foldl mergeBlend (fillT s (.port 0) ss)
        if recordOk (cfg.getLsbD 29) r then
          acceptLaunch s q x r ((tenantOf s x.ctx).getD (bitsOf cfg 24 4))
        else refuseLaunch s q x 0x1C8 0
/-- LAUNCH_CHECK (R309). -/
def execLaunchCheck (q : Nat) (s : State) : Host.Outcome State Fault Refusal := .next (checkHead s q)

/-! ## Placing a team (R310, R311) -/

/-- What placement needs of a record: width, groups of each role, budgets, allocation. -/
structure Need where
  width : Nat
  prod : Nat
  cons : Nat
  pbud : Nat
  cbud : Nat
  alloc : Nat
deriving DecidableEq, Repr
/-- The needs of a grid's teams. -/
def needOf (d : Grid) : Need :=
  let hdr := d.rec_.getD 0 0
  let w := widthOf (bitsOf hdr 32 3)
  ⟨w, bitsOf hdr 27 5, bitsOf hdr 22 5, 8 * bitsOf hdr 16 6, 8 * bitsOf hdr 10 6,
    bitsOf (d.rec_.getD 4 0) 0 32 + queueArea w (d.rec_.getD 6 0)⟩
/-- The lowest multiple of 64 at which n scratchpad bytes are free. -/
def spadFree (s : State) (core n : Nat) : Option Nat :=
  let used := (s.teams.filter (fun t => t.core == core)).map (fun t => (t.spBase, t.alloc))
  let ok := fun b => b + n ≤ Config.spadBytes core && used.all (fun u => b + n ≤ u.1 || u.1 + u.2 ≤ b || u.2 == 0 || n == 0)
  ((insAll (used.map (fun u => (u.1 + u.2 + 63) / 64 * 64)) [0]).find? ok)
/-- The lowest RBASE with n rows free. -/
def rowsFree (core : Nat) (bs : List Bundle) (n : Nat) : Option Nat :=
  let ok := fun r => r + n ≤ Config.regRows core && bs.all (fun b => r + n ≤ b.rbase || b.rbase + b.budget ≤ r)
  (insAll (bs.map (fun b => b.rbase + b.budget)) [0]).find? ok
/-- The lowest free position of a bundle. -/
def freePos (b : Bundle) : Option Nat :=
  (List.range (64 / b.width)).find? (fun p => !b.members.any (fun m => m.1 == p))
/-- Bundle (R311): the bundles with a group of GSLOT `gs` added, where it stands, and whether its rows are new. -/
def bundleIn (core : Nat) (bs : List Bundle) (ctx : BitVec 16) (consumer : Bool) (w budget gs bid : Nat) :
    Option (List Bundle × Nat × Nat × Bool) :=
  let fit := sortBy (fun a b : Bundle => a.rbase < b.rbase) (bs.filter (fun b =>
    w < 64 && b.ctx == ctx && b.consumer == consumer && b.width == w && b.budget == budget && (freePos b).isSome))
  match fit with
  | b :: _ =>
    let p := (freePos b).getD 0
    some (replFirst (fun x => x.bid == b.bid) { b with members := b.members ++ [(p, gs)] } bs, b.rbase, p, false)
  | [] =>
    match rowsFree core bs budget with
    | some r => some (bs ++ [⟨bid, consumer, w, budget, ctx, r, [(0, gs)], []⟩], r, 0, true)
    | none => none
/-- The role and budget of each group of a team, in group order: producers first. -/
def groupRoles (n : Need) : List (Bool × Nat) := List.replicate n.prod (false, n.pbud) ++ List.replicate n.cons (true, n.cbud)
/-- GSLOTs in use on a core (R374). -/
def usedSlots (s : State) (core : Nat) : List Nat :=
  (((coreOf s core).bundles.map (fun b => b.members.map (·.2))).flatten) ++
  ((s.saved.filter (fun v => v.core == core)).map (fun v => (v.bundles.map (fun b => b.members.map (·.2))).flatten)).flatten
/-- The n lowest free GSLOTs. -/
def newSlots (s : State) (core n : Nat) : List Nat := (natsWhere 1024 (fun k => !(usedSlots s core).contains k)).take n
/-- Bundle every group in order: the bundles, and RBASE, position and newness for each. -/
def bundleAll (core : Nat) (ctx : BitVec 16) (w : Nat) :
    Nat → List Bundle → List (Bool × Nat) → List Nat → Option (List Bundle × List (Nat × Nat × Bool))
  | _, bs, [], _ => some (bs, [])
  | bid, bs, (c, b) :: rs, gs =>
    match bundleIn core bs ctx c w b (gs.headD 0) bid with
    | none => none
    | some (bs', r, p, new) =>
      match bundleAll core ctx w (bid + 1) bs' rs (gs.drop 1) with
      | none => none
      | some (bs'', xs) => some (bs'', (r, p, new) :: xs)
/-- Lanes that bundles hold. -/
def bundleLanes (bs : List Bundle) : Nat := (bs.map (fun b => b.members.length * b.width)).foldl (· + ·) 0
/-- A core has room for so many more lanes: a compute core holds up to 2,048 (R12). -/
def lanesFit (s : State) (core n : Nat) : Bool := 288 ≤ core || bundleLanes (coreOf s core).bundles + n ≤ 2048
/-- Fits (R311). -/
def fits (s : State) (d : Grid) (core : Nat) : Bool :=
  let n := needOf d
  lanesFit s core ((groupRoles n).length * n.width) &&
  (s.teams.filter (fun t => t.core == core)).length < Config.maxTeams core && (spadFree s core n.alloc).isSome &&
  (bundleAll core d.ctx n.width s.nextId (coreOf s core).bundles (groupRoles n) []).isSome
/-- Octets of a group (R31, R52, R98). -/
def octetsFor (w rbase pos num : Nat) : List Octet :=
  if w = 1 then [⟨0, rbase, pos, num, num⟩]
  else (List.range (w / 8)).map (fun i => ⟨8 * i, rbase, pos * w + 8 * i, num * w + 8 * i, num * w + 8 * i⟩)
/-- Register cells of columns [col, col + w) of rows [rbase, rbase + n) become zero (R95, R109). -/
def zeroCells (c : Core) (rbase n col w : Nat) : Core :=
  let inn := fun k => rbase ≤ k / 64 && k / 64 < rbase + n && col ≤ k % 64 && k % 64 < col + w
  { c with rf := c.rf.filter (fun p => !inn p.1), rfPoison := c.rfPoison.filter (fun k => !inn k) }
/-- Constants of the record (R109). -/
def constK (r : List DWord) : SMap Word :=
  (List.range 31).foldl (fun m i =>
    let j := i + 1
    let w := r.getD (8 + j / 2) 0
    mapSet 0 m j (if j % 2 = 0 then loWord w else hiWord w)) []
/-- The level of the groups placed from a queue: what its PRIV bit says when they are placed (R271, R307, R311). -/
def queuePriv (s : State) (q : Nat) : Bool := (wqCfg s q).getLsbD 30
/-- A group at its start (R22, R109, R271). -/
def startGroup (s : State) (d : Grid) (tid core gid gslot num : Nat) (consumer : Bool) (w budget rbase pos : Nat) : Group :=
  let entry := BitVec.ofNat 64 (bitsOf (d.rec_.getD (if consumer then 2 else 1) 0) 0 48 * 4)
  let g : Group := {
    gid := gid, core := core, team := tid, gslot := gslot, num := num, consumer := consumer, width := w, budget := budget,
    octets := octetsFor w rbase pos num, ord := [pos], path := [], k := constK d.rec_, m := [], h := [], vwb := 0, srcnt := 0,
    ctxid := d.ctx, xpc := 0, xcause := 0, xlmask := 0, kernel := queuePriv s d.q, live := lowMask w, ents := [], pend := [], opp := 0,
    deps := [], near := [], tcDeps := [], qJoins := [], ltrap := none, loop := [], loopStale := false, halted := false, forced := false,
    engineWait := false, brkSkip := [], nrReplay := [], srReplay := [], srcnt0 := 0, deferred := [], ahead := [],
    owes := [], stepOwed := [] }
  { g with ents := [⟨entry, prioAt s g entry 0, lowMask w, 0, .ready⟩], owes := owesWord s g [] (entry, lowMask w) }
/-- Place team `lin` of a grid on a core (R311). -/
def placeOn (s : State) (d : Grid) (lin core : Nat) : State :=
  let n := needOf d
  let roles := groupRoles n
  let slots := newSlots s core roles.length
  match spadFree s core n.alloc, bundleAll core d.ctx n.width s.nextId (coreOf s core).bundles roles slots with
  | some sp, some (bs, at_) =>
    let tid := s.nextId + roles.length
    let gx := bitsOf (d.rec_.getD 3 0) 0 16
    let gy := bitsOf (d.rec_.getD 3 0) 16 16
    let qd := d.rec_.getD 6 0
    let t : Team := {
      tid := tid, core := core, grid := d.id, tenant := d.tenant, ctx := d.ctx, kernel := queuePriv s d.q, x := lin % gx,
      y := lin / gx % gy, z := lin / gx / gy, lin := lin, lrAddr := d.addr, spBase := sp,
      spBytes := bitsOf (d.rec_.getD 4 0) 0 32, alloc := n.alloc, producers := n.prod, width := n.width,
      twbar := loWord (d.rec_.getD 5 0), bars := [],
      queues := (natsWhere 8 (fun q => qd.getLsbD (8 * q + 7))).map (fun q => (q, bitsOf qd (8 * q) 7, [])), frames := [],
      zeroing := true, wfetch := none, fetched := [], ops := [], named := [] }
    let parts := (List.range roles.length).zip (roles.zip (at_.zip slots))
    let c := parts.foldl (fun (c : Core) p =>
      let b := p.2.1.2
      let r := p.2.2.1.1
      if p.2.2.1.2.2 then zeroCells c r b 0 64 else zeroCells c r b (p.2.2.1.2.1 * n.width) n.width) { coreOf s core with bundles := bs }
    let s1 := dropStale (setCore { s with teams := s.teams ++ [t], nextId := tid + 1 + roles.length } core c) core
    let gs := parts.map (fun p => startGroup s1 d tid core (tid + 1 + p.1) p.2.2.2 p.1 p.2.1.1 n.width p.2.1.2 p.2.2.1.1 p.2.2.1.2.1)
    { s1 with groups := s1.groups ++ gs,
              grids := replFirst (fun x => x.id == d.id) { d with next := lin + 1, last := core } s1.grids }
  | _, _ => s
/-- Cores of P in ascending number, starting after Last(grid), wrapping. -/
def coreOrder (cs : List Nat) (last : Nat) : List Nat := cs.filter (fun c => last < c) ++ cs.filter (fun c => c ≤ last)
/-- The grid of queue q whose next team fits, for partition `part` (12: the control cores). -/
def placeable (s : State) (part q : Nat) : Option (Grid × Nat × Nat) :=
  let cfg := wqCfg s q
  let control := part == 12
  if !cfg.getLsbD 31 || !cfg.getLsbD 0 || cfg.getLsbD 29 != control || (!control && bitsOf cfg 24 4 != part) then none
  else match currentGrid s q with
    | none => none
    | some d =>
      match nextTeam d, (coreOrder (coresOf s control part) d.last).find? (fits s d) with
      | some l, some c => some (d, l, c)
      | _, _ => none
/-- PlaceStep (R310). -/
def placeStep (s : State) (part : Nat) : State :=
  let qs := (List.range 64).filterMap (fun q => (placeable s part q).map (fun x => (q, x)))
  let p := qs.foldl (fun m q => max m (bitsOf (wqCfg s q.1) 16 3)) 0
  let top := qs.filter (fun q => bitsOf (wqCfg s q.1) 16 3 == p)
  let last := mapGet 63 s.lastWin (part * 8 + p)
  match top.filter (fun q => last < q.1) ++ top.filter (fun q => q.1 ≤ last) with
  | [] => s
  | (q, d, l, c) :: _ => placeOn { s with lastWin := mapSet 63 s.lastWin (part * 8 + p) q } d l c
/-- PLACE_STEP (R310). -/
def execPlaceStep (part : Nat) (s : State) : Host.Outcome State Fault Refusal := .next (placeStep s part)
/-- The scratchpad allocation of a team is zero (R311). -/
def zeroTeam (s : State) (core tid : Nat) : State :=
  match teamOf s tid with
  | none => s
  | some t =>
    if t.core ≠ core || !t.zeroing then s
    else
      let s := modCore s core (fun c => { c with
        spad := c.spad.filter (fun p => p.1 < t.spBase || t.spBase + t.alloc ≤ p.1),
        spadPoison := c.spadPoison.filter (fun w => 32 * w < t.spBase || t.spBase + t.alloc ≤ 32 * w),
        spadBad := c.spadBad.filter (fun w => 32 * w < t.spBase || t.spBase + t.alloc ≤ 32 * w) })
      modTeam s tid (fun t => { t with zeroing := false })
/-- SCRATCHPAD_ZEROING_COMPLETE (R311). -/
def execScratchpadZeroingComplete (core team : Nat) (s : State) : Host.Outcome State Fault Refusal := .next (zeroTeam s core team)

/-! ## The mailbox and the release (R267, R268, R238) -/

/-- The Drover writes a team's mailbox (R267, R268). -/
def mailbox (s : State) (core tid : Nat) : State :=
  match teamOf s tid with
  | none => s
  | some t =>
    match t.wfetch with
    | none => s
    | some off =>
      if t.core ≠ core then s
      else
        let s1 := modTeam s tid (fun t => { t with wfetch := none })
        let put := fun (s : State) (w0 w1 w2 w3 : Nat) =>
          spadWrite s core (t.spBase + off) (leBytes 4 w0 ++ leBytes 4 w1 ++ leBytes 4 w2 ++ leBytes 4 w3)
        match gridOf s t.grid with
        | none => put s1 0 0 0 3
        | some d =>
          match nextTeam d with
          | none => put s1 0 0 0 3
          | some l =>
            let gx := bitsOf (d.rec_.getD 3 0) 0 16
            let gy := bitsOf (d.rec_.getD 3 0) 16 16
            let s1 := modTeam s1 tid (fun t => { t with fetched := t.fetched ++ [l] })
            let s1 := { s1 with grids := replFirst (fun x => x.id == d.id) { d with withdrawn := insNat l d.withdrawn } s1.grids }
            put s1 (l / gx % gy * 65536 + l % gx) (l / gx / gy) l 1
/-- MAILBOX_WRITE (R267). -/
def execMailboxWrite (core team : Nat) (s : State) : Host.Outcome State Fault Refusal := .next (mailbox s core team)
/-- A team whose groups have ended and whose operations have left Pending gives up its place, scratchpad, barriers and queues
(R43, R197, R238); with the last team of a context on a core, the operations it exported are given up (R239). -/
def releaseTeam (s : State) (core tid : Nat) : State :=
  match teamOf s tid with
  | none => s
  | some t =>
    let named := t.named.any (fun i => s.aops.any (fun o => o.id == i && o.st == .pending))
    if t.core ≠ core || s.groups.any (fun g => g.team == tid) || !t.ops.isEmpty || named || t.zeroing then s
    else
      let s := { s with teams := s.teams.filter (fun x => x.tid != tid) }
      let lastOne := !s.teams.any (fun x => x.core == core && x.ctx == t.ctx) &&
        !s.saved.any (fun v => v.core == core && v.ctx == t.ctx)
      let s := if lastOne then
          { s with aops := s.aops.map (fun o => if o.core == core && o.exported == some t.ctx.toNat then { o with exported := none } else o) }
        else s
      let used := s.teams.any (fun x => x.grid == t.grid) || s.saved.any (fun v => v.teams.any (fun x => x.grid == t.grid)) ||
        (match gridOf s t.grid with
          | some d => (nextTeam d).isSome
          | none => false)
      if used then s else { s with grids := s.grids.filter (fun d => d.id != t.grid) }
/-- TEAM_RELEASE (R238). -/
def execTeamRelease (core team : Nat) (s : State) : Host.Outcome State Fault Refusal := .next (releaseTeam s core team)

end Sys2Proof.Machine
end

