-- ==== Sys2Proof/Machine/Preempt.lean ====
section
/-! DEFINITION. Pre-emption (14 R313-R317, 22 R401, R402, 21 R385, 12 R290): the PRECTL words, halting a group, the forced save,
saving a team, and the restore. -/

namespace Sys2Proof.Machine

/-- Offset of PRECTL word 0 of core n (R313). -/
def preOff (n : Nat) : Nat := 0x4000 + 16 * n
/-- The teams of a context on a core: those placed in it (R446). -/
def ctxTeams (s : State) (core : Nat) (ctx : BitVec 16) : List Team := s.teams.filter (fun t => t.core == core && t.ctx == ctx)
/-- The groups of a context on a core, in order. -/
def ctxGroups (s : State) (core : Nat) (ctx : BitVec 16) : List Group :=
  s.groups.filter (fun g => g.core == core && (ctxTeams s core ctx).any (fun t => t.tid == g.team))
/-- A request is over: DONE, and vector 2 of the context's tenant (R320). -/
def preDone (s : State) (core : Nat) (ctx : BitVec 16) (err : Bool) (tenant : Nat) : State :=
  let s := { s with preempts := s.preempts.filter (fun p => p.core != core) }
  let w := putBits (putBits (apWord s (preOff core)) 62 2 1) 60 1 (if err then 1 else bitsOf (apWord s (preOff core)) 60 1)
  raiseVector (apSet s (preOff core) w) ((tenantOf s ctx).getD tenant) 2

/-- Parked instructions that a save undoes, to be issued again (R314, R315). -/
def undoable : Instr → Bool
  | .deq _ _ _ => true
  | .macq _ => true
  | .qpush _ _ _ => true
  | .qpop _ _ _ _ => true
  | .hwait _ _ => true
  | _ => false
/-- R314's conditions for the light save (R385, R402). -/
def lightOk (g : Group) : Bool :=
  g.path.isEmpty && g.ltrap.isNone && g.pend.all (fun w => w.tok == 0) &&
  (match g.ents with
    | [e] => (match e.st with
      | .parked p => undoable p.i
      | .held _ => false
      | .heldRet _ => false
      | .pending _ => false
      | _ => true)
    | _ => false)
/-- A saved group leaves what it waits for: its DEQs are taken off their queues, and it gives up the engine or its place in
the FIFO (R245, R264). -/
def leaveWaits (s : State) (g : Group) : State :=
  let c := coreOf s g.core
  let owner := (match c.owner with
    | some w => w.gid == g.gid && !c.released
    | none => false)
  let s := { s with wqs := s.wqs.map (fun p => (p.1, { p.2 with parked := p.2.parked.filter (· != g.gid) })) }
  let s := leaveEngine s g.core g.gid
  if owner then modGroup s g.gid (fun g => { g with engineWait := true }) else s
/-- The callers of a team's open frames give up the engine too when the team is saved, or the place in which a restored one waits for
it (R245). -/
def leaveCallers (s : State) (t : Team) : State :=
  let c := coreOf s t.core
  let mine := fun (g : Group) => !c.released && (match c.owner with
    | some w => w.gid == g.gid
    | none => false)
  let callers := (t.frames.map (·.callers)).flatten
  let s := callers.foldl (fun s g => leaveEngine s t.core g.gid) s
  if callers.any mine then
    modTeam s t.tid (fun t => { t with
      frames := t.frames.map (fun f => { f with callers := f.callers.map (fun g => if mine g then { g with engineWait := true } else g) }) })
  else s
/-- The entry of a light-saved group: Ready at its PC and priority, its count dropped; a cause just raised stays pending
(R385). -/
def lightEnt (e : Ent) : Ent := match e.st with
  | .pending _ => { e with stall := 0 }
  | _ => { e with stall := 0, st := .ready }
/-- An entry of a force-saved group: undone instructions are issued again (R315), an ICINV not yet sent too (R290). -/
def forcedEnt (e : Ent) : Ent := match e.st with
  | .parked p => if undoable p.i then { e with st := .undone } else e
  | .stalled (.icinv _ _ _ _ _) => { e with st := .ready }
  | _ => e
/-- A pre-empted SLEEP is complete (R283): its lanes go to PC + 4. -/
def endSleeps (s : State) (g : Group) : State :=
  (g.ents.filter (fun e => match e.st with
    | .stalled (.sleep _ _) => true
    | _ => false)).foldl (fun s e => unpark s g.gid e) s
/-- A group halts for a save (R314, R315). -/
def haltGroup (s : State) (g0 : Group) (forced : Bool) : State :=
  let s := applyDue (endSleeps (leaveWaits s g0) g0) g0.gid true
  let s := modGroup s g0.gid (fun g => { g with
    halted := true, forced := forced, ahead := [], ents := g.ents.map (if forced then forcedEnt else lightEnt) })
  let s := if forced then apPut s (preOff g0.core) 61 1 1 else s
  modCore s g0.core (fun c => { c with issueq := c.issueq.filter (fun p => p.gid != g0.gid) })
/-- The save in progress on a core. -/
def saveOn (s : State) (core : Nat) : Option Preempt := s.preempts.find? (fun p => p.core == core && !p.restore)
/-- A group of the saved context halts, if it may; none does on a core that is stopped as under HALT (R284, R424). -/
def tryHalt (s : State) (core gid : Nat) : State :=
  match saveOn s core, groupOf s gid with
  | some p, some g =>
    if !g.halted && !coreStopped s core && lightOk g && (ctxGroups s core p.ctx).any (fun h => h.gid == gid) then
      settleCore (haltGroup s g false) core else s
  | _, _ => s
/-- The timeout: every group that has not halted takes the forced save, or the light one where it may (R315); none on a core that
is stopped as under HALT (R284, R424). -/
def forceSave (s : State) (core : Nat) : State :=
  match saveOn s core with
  | none => s
  | some p =>
    if p.tmo ≠ 0 || coreStopped s core then s
    else
      let s := (ctxTeams s core p.ctx).foldl (fun s t => if s.groups.any (fun g => g.team == t.tid && !g.halted) then leaveCallers s t else s) s
      settleCore ((ctxGroups s core p.ctx).foldl (fun s h => match groupOf s h.gid with
        | some g => if g.halted then s else haltGroup s g (!lightOk g)
        | none => s) s) core

/-- What must be over before a team's scratchpad is saved (R316, R259). -/
def teamQuiet (s : State) (t : Team) : Bool :=
  t.wfetch.isNone && !t.zeroing &&
  !s.aops.any (fun o => o.team == t.tid && o.st == .pending && (match o.kind with
    | .matrix => true
    | .copy _ w => bitsOf (w.getD 1 0) 62 2 == 2 && bitsOf (w.getD 1 0) 39 9 == t.core
    | _ => false)) &&
  !s.ops.any (fun o => o.team == t.tid && o.accs.any (fun a => !a.done && (match canonPlace o.core a.at_ with
    | .win c _ _ => c == t.core
    | _ => false)))
/-- A cell of the register file lies in a bundle of the context. -/
def inBundles (bs : List Bundle) (cell : Nat) : Bool := bs.any (fun b => b.rbase ≤ cell / 64 && cell / 64 < b.rbase + b.budget)
/-- A scratchpad byte lies in a team's allocation. -/
def inTeams (ts : List Team) (a : Nat) : Bool := ts.any (fun t => t.spBase ≤ a && a < t.spBase + t.alloc)
/-- Bytes of a save area (R313). -/
def areaBytes : Nat := 1114112
/-- A 32-byte word lies in a save area. -/
def inArea (area w : Nat) : Bool := area ≤ 32 * w && 32 * w < area + areaBytes
/-- Two saves of one context on a core as one. -/
def joinSaved (a b : Saved) : Saved :=
  { a with teams := a.teams ++ b.teams, groups := a.groups ++ b.groups, bundles := a.bundles ++ b.bundles,
           rf := b.rf.foldl (fun m x => mapSet 0 m x.1 x.2) a.rf, rfPoison := insAll b.rfPoison a.rfPoison,
           spad := b.spad.foldl (fun m x => mapSet memDefault m x.1 x.2) a.spad, spadPoison := insAll b.spadPoison a.spadPoison,
           spadBad := insAll b.spadBad a.spadBad }
/-- Every team of the context is saved, or has ended and waits for its operations: the saved ones' rows, scratchpad and places are freed, and DONE is set (R316, R403). The
area is written with fresh checks. -/
def saveAll (s : State) (p : Preempt) : State :=
  let c := coreOf s p.core
  let ts := (ctxTeams s p.core p.ctx).filter (fun t => p.saved.contains t.tid)
  let gs := ctxGroups s p.core p.ctx
  let bs := c.bundles.filter (fun b => b.ctx == p.ctx)
  let v : Saved := {
    core := p.core, ctx := p.ctx, area := p.area, teams := ts, groups := gs, bundles := bs,
    rf := c.rf.filter (fun x => inBundles bs x.1), rfPoison := c.rfPoison.filter (inBundles bs),
    spad := c.spad.filter (fun x => inTeams ts x.1), spadPoison := c.spadPoison.filter (fun w => inTeams ts (32 * w)),
    spadBad := c.spadBad.filter (fun w => inTeams ts (32 * w)) }
  let s := setCore s p.core { c with bundles := c.bundles.filter (fun b => b.ctx != p.ctx) }
  let s := { s with teams := s.teams.filter (fun t => !ts.any (fun x => x.tid == t.tid)),
                    groups := s.groups.filter (fun g => !gs.any (fun x => x.gid == g.gid)), saved := if ts.isEmpty then s.saved else s.saved ++ [v],
                    ctlBad := s.ctlBad.filter (fun w => !inArea p.area w), ctlPoison := s.ctlPoison.filter (fun w => !inArea p.area w) }
  preDone s p.core p.ctx false ((ts.map (·.tenant)).headD 0)
/-- A save is done once every group of the context is saved or has ended (R403). -/
def saveOver (s : State) (core : Nat) : State := match saveOn s core with
  | some p => if (ctxTeams s core p.ctx).all (fun t => p.saved.contains t.tid || !s.groups.any (fun g => g.team == t.tid)) then saveAll s p else s
  | none => s
/-- One team is saved; with the last one the save is done. -/
def saveTeam (s : State) (core tid : Nat) : State :=
  match saveOn s core, teamOf s tid with
  | some p, some t =>
    if t.core ≠ core || t.ctx != p.ctx || p.saved.contains tid || s.groups.any (fun g => g.team == tid && !g.halted) || !teamQuiet s t then s
    else
      let p' := { p with saved := p.saved ++ [tid] }
      saveOver { s with preempts := s.preempts.map (fun x => if x.core == core && !x.restore then p' else x) } core
  | _, _ => s

/-! ## Restore (R317) -/

/-- Every result owed to the saved state has arrived; one whose fault R222 defers is raised after the restore (R315). -/
def owedDone (v : Saved) : Bool := v.groups.all (fun g => g.pend.all (fun w =>
  w.due.isSome || minus w.lanes ((g.deferred.filter (fun d => d.1 == w.tok)).foldl (fun m d => m ||| d.2.1) 0) == 0))
/-- Everything saved of a context on a core (R317), each area in turn. -/
def savedAll (s : State) (core : Nat) (ctx : BitVec 16) : Option Saved :=
  (s.saved.filter (fun v => v.core == core && v.ctx == ctx)).foldl (fun a v => match a with
    | none => some v
    | some a => some (joinSaved a v)) none
/-- Some 32 bytes of a saved context's areas fail their check (R317). -/
def areaBad (s : State) (core : Nat) (ctx : BitVec 16) : Bool :=
  (s.saved.filter (fun v => v.core == core && v.ctx == ctx)).any (fun v =>
    s.ctlBad.any (inArea v.area) || s.ctlPoison.any (inArea v.area) || homeState s v.area == some (.fault 0x183))
/-- The home of an area is being rebuilt: its reads are held (R417). -/
def areaHeld (s : State) (core : Nat) (ctx : BitVec 16) : Bool :=
  (s.saved.filter (fun v => v.core == core && v.ctx == ctx)).any (fun v => homeState s v.area == some (.held (v.area / 64)))
/-- The places a saved context held are free. -/
def roomFor (s : State) (v : Saved) : Bool :=
  let c := coreOf s v.core
  let here := s.teams.filter (fun t => t.core == v.core)
  v.bundles.all (fun b => c.bundles.all (fun x => b.rbase + b.budget ≤ x.rbase || x.rbase + x.budget ≤ b.rbase)) &&
  v.teams.all (fun t => here.all (fun x => t.alloc == 0 || x.alloc == 0 || t.spBase + t.alloc ≤ x.spBase || x.spBase + x.alloc ≤ t.spBase)) &&
  here.length + v.teams.length ≤ Config.maxTeams v.core && lanesFit s v.core (bundleLanes v.bundles)
/-- Put a saved context back. -/
def putBack (s : State) (v : Saved) : State :=
  let n := v.bundles.length
  let bs := ((List.range n).zip v.bundles).map (fun p => { p.2 with bid := s.nextId + p.1 })
  let gs := v.groups.map (fun g => { g with halted := false, forced := false, loop := [], loopStale := false })
  let s := { s with nextId := s.nextId + n, saved := s.saved.filter (fun x => !(x.core == v.core && x.ctx == v.ctx)),
                    teams := s.teams ++ v.teams, groups := s.groups ++ gs }
  let s := modCore s v.core (fun c => { c with
    bundles := c.bundles ++ bs,
    rf := v.rf.foldl (fun m x => mapSet 0 m x.1 x.2) (c.rf.filter (fun x => !inBundles bs x.1)),
    rfPoison := insAll v.rfPoison (c.rfPoison.filter (fun x => !inBundles bs x)),
    spad := v.spad.foldl (fun m x => mapSet memDefault m x.1 x.2) (c.spad.filter (fun x => !inTeams v.teams x.1)),
    spadPoison := insAll v.spadPoison (c.spadPoison.filter (fun w => !inTeams v.teams (32 * w))),
    spadBad := insAll v.spadBad (c.spadBad.filter (fun w => !inTeams v.teams (32 * w))),
    fifo := ((gs ++ (v.teams.map (fun t => (t.frames.map (·.callers)).flatten)).flatten).filter (·.engineWait)).map
      (fun g => ⟨g.gid, g.team⟩) ++ c.fifo })
  let s := dropStale s v.core
  settleCore (gs.foldl (fun s g => applyDue s g.gid true) s) v.core
/-- A restore in progress goes through, when it can: every saved team of the context (R317). `damaged` is a check that fails with
no mark of this model; so is an AREA in which nothing of the context was saved. -/
def resumeRestore (s : State) (core : Nat) (damaged : Bool) : State :=
  match s.preempts.find? (fun p => p.core == core && p.restore) with
  | none => s
  | some p =>
    match savedAll s core p.ctx with
    | none => preDone s core p.ctx true 0
    | some v =>
      let t := (v.teams.map (·.tenant)).headD 0
      if areaHeld s core p.ctx then s
      else if damaged || areaBad s core p.ctx || !s.saved.any (fun v => v.core == core && v.ctx == p.ctx && v.area == p.area) then preDone s core p.ctx true t
      else if !owedDone v || !roomFor s v then s
      else preDone (putBack s v) core p.ctx false t

/-! ## The PRECTL words (R313) -/

/-- A save request. -/
def startSave (s : State) (core : Nat) (ctx : BitVec 16) : State :=
  let area := bitsOf (apWord s (preOff core + 8)) 6 42 * 64
  let s := apPut s (preOff core) 61 1 0
  if (ctxTeams s core ctx).isEmpty then preDone s core ctx false 0
  else
    let tmo := (coreOf s core).ptmo.toNat
    let s := apPut { s with preempts := s.preempts ++ [⟨core, ctx, false, area, tmo, []⟩] } (preOff core) 63 1 1
    if tmo = 0 then forceSave s core else s
/-- A restore request. -/
def startRestore (s : State) (core : Nat) (ctx : BitVec 16) : State :=
  let area := bitsOf (apWord s (preOff core + 8)) 6 42 * 64
  let s := apPut s (preOff core) 60 1 0
  if !s.saved.any (fun v => v.core == core && v.ctx == ctx) then preDone s core ctx false 0
  else apPut { s with preempts := s.preempts ++ [⟨core, ctx, true, area, 0, []⟩] } (preOff core) 63 1 1
/-- A write to PRECTL word 0 of a core (R313). -/
def preWrite (s : State) (core : Nat) (v : DWord) : State :=
  if 304 ≤ core then s
  else
    let old := apWord s (preOff core)
    let w := putBits (putBits old 0 16 (bitsOf v 0 16)) 62 1 (if v.getLsbD 62 then 0 else bitsOf old 62 1)
    let s := apSet s (preOff core) w
    let ctx := v.extractLsb' 0 16
    if old.getLsbD 63 then s
    else if bitsOf v 16 2 = 1 then startSave s core ctx
    else if bitsOf v 16 2 = 2 then startRestore s core ctx
    else s
/-- A write to PRECTL word 1. -/
def preArea (s : State) (core : Nat) (v : DWord) : State := apSet s (preOff core + 8) (BitVec.ofNat 64 (bitsOf v 6 42 * 64))

/-- PREEMPT_SAVE (R313): a write to PRECTL whose OP is 1. -/
def execPreemptSave (core : Nat) (v : DWord) (s : State) : Host.Outcome State Fault Refusal :=
  .next (preWrite s core (putBits v 16 2 1))
/-- GROUP_HALT (R314). -/
def execGroupHalt (core gid : Nat) (s : State) : Host.Outcome State Fault Refusal := .next (tryHalt s core gid)
/-- FORCED_SAVE (R315). -/
def execForcedSave (core : Nat) (s : State) : Host.Outcome State Fault Refusal := .next (forceSave s core)
/-- TEAM_STATE_SAVE (R316). -/
def execTeamStateSave (core team : Nat) (s : State) : Host.Outcome State Fault Refusal := .next (saveTeam s core team)
/-- PREEMPT_RESTORE (R317): a write to PRECTL whose OP is 2. -/
def execPreemptRestore (core : Nat) (v : DWord) (s : State) : Host.Outcome State Fault Refusal :=
  .next (preWrite s core (putBits v 16 2 2))
/-- RESTORE_RESUME (R317). -/
def execRestoreResume (core : Nat) (damaged : Bool) (s : State) : Host.Outcome State Fault Refusal := .next (resumeRestore s core damaged)

end Sys2Proof.Machine
end

