-- ==== Sys2Proof/Machine/TrapEvents.lean ====
section
/-! DEFINITION. What follows a trap (21 R369-R387) and what kills (R380): pending traps, records, the TRAPBASE, XRES and
KILLCTL words, and the debug channels' control word (12 R284, R287). -/

namespace Sys2Proof.Machine

/-! ## Pending traps (R369) -/

/-- The group's next pending trap is taken; a trap table that another package holds is asked for (R372). -/
def releasePending (s : State) (gid : Nat) : State :=
  match groupOf s gid with
  | none => s
  | some g => match takeable s g with
    | none => (match nextPending g with
      | some r => (match trapHeld s g r.code with
        | some x => askData s x
        | none => s)
      | none => s)
    | some r => settle (takeTrap (pendingReady s gid r) gid r) g.team
/-- PENDING_TRAP_RELEASE (R369). -/
def execPendingTrapRelease (core gid : Nat) (s : State) : Host.Outcome State Fault Refusal :=
  .next (match groupOf s gid with
    | some g => if g.core == core then releasePending s gid else s
    | none => s)

/-! ## The trap block (R371-R374) -/

/-- TRAPBASE of a tenant. -/
def trapBase (s : State) (t : Nat) : DWord := apWord s (0xD000 + 8 * t)
/-- Address of the trap ring. -/
def trapRing (s : State) (t : Nat) : Nat := bitsOf (trapBase s t) 13 35 * 8192 + 0x1000
/-- The control word at an address cannot be read as it stands now: its home is lost or held, another package owns it, or the
word is poisoned. -/
def ctlUnread (s : State) (a : Nat) : Bool :=
  (homeState s a).isSome || ownedAway s (a / 64) || s.ctlBad.contains (a / 32) || s.ctlPoison.contains (a / 32)
/-- The control word at an address has to be waited for: its home is being rebuilt, or another package holds its data. -/
def ctlAway (s : State) (a : Nat) : Bool := homeState s a == some (.held (a / 64)) || ownedAway s (a / 64)
/-- Post the oldest waiting record of a tenant (R373): the record, then TAIL, then vector 3 (R387). HEAD and TAIL that another
package holds are asked for. DESIGN CHOICE (log entry 70): RSV bytes of the ring are never looked at. -/
def postRecord (s : State) (t : Nat) : State :=
  match s.trapWait.find? (fun r => r.tenant == t) with
  | none => s
  | some r =>
    let ring := trapRing s t
    if !(trapBase s t).getLsbD 63 || !s.devWrites.isEmpty then s
    else if ctlUnread s ring || ctlUnread s (ring + 8) then askData s (ring / 64)
    else
      let s := mergeBlend s (ring / 64)
      let head := ctlWord64 s ring
      let tail := ctlWord64 s (ring + 8)
      if (tail - head).toNat = 63 then s
      else
        let ws := r.words ++ List.replicate (8 - r.words.length) 0
        let s := { s with trapWait := replFirst (fun x => x == r) ⟨12, 0, []⟩ s.trapWait }
        let s := { s with trapWait := s.trapWait.filter (fun x => x.tenant < 12) }
        let s := if r.trap = 0 then s else { s with openRecs := s.openRecs ++ [⟨t, tail.toNat, r.trap⟩] }
        devWrite s (devWords (ring + 0x40 + 64 * (tail.toNat % 63)) ws ++ [⟨ring + 8, leBytes 8 (tail + 1).toNat, some (t, 3), false, false, []⟩])
/-- TRAP_RECORD_POST (R373). -/
def execTrapRecordPost (tenant : Nat) (s : State) : Host.Outcome State Fault Refusal := .next (postRecord s tenant)
/-- The lanes held at a routed trap, group by group. -/
def heldAtTrap (s : State) (trap : Nat) : List (Nat × Nat × Mask) :=
  s.groups.filterMap (fun g =>
    let m := (g.ents.filter (fun e => e.st == .held trap || e.st == .heldRet trap)).foldl (fun m e => m ||| e.mask) 0
    if m == 0 then none else some (g.gid, g.team, m))
/-- Kill every lane held at a routed trap. -/
def killTrap (s : State) (trap : Nat) : State :=
  (heldAtTrap s trap).foldl (fun s p => settle (endLanes s p.1 p.2.2) p.2.1) s
/-- A write to TRAPBASE of tenant t (R371). -/
def trapbaseWrite (s : State) (t : Nat) (v : DWord) : State :=
  if 12 ≤ t || bitsOf v 48 14 ≠ 0 || bitsOf v 0 13 ≠ 0 then s
  else
    let old := trapBase s t
    let new := putBits (putBits v 62 1 (if v.getLsbD 62 then 0 else bitsOf old 62 1)) 0 13 0
    let s := apSet s (0xD000 + 8 * t) new
    let waiting := s.trapWait.filter (fun r => r.tenant == t)
    if v.getLsbD 63 || waiting.isEmpty then s
    else
      let s := { s with trapWait := s.trapWait.filter (fun r => r.tenant != t) }
      let s := if waiting.any (fun r => r.trap != 0) then apPut s (0xD000 + 8 * t) 62 1 1 else s
      waiting.foldl (fun s r => if r.trap = 0 then s else killTrap s r.trap) s
/-- TRAPBASE_WRITE (R371). -/
def execTrapbaseWrite (t : Nat) (v : DWord) (s : State) : Host.Outcome State Fault Refusal := .next (trapbaseWrite s t v)

/-! ## XRES (R379) -/

/-- ERR of XRES. -/
def xresErr (s : State) (e : Bool) : State := apPut s 0xE000 61 1 (if e then 1 else 0)
/-- The open routed trap that CORE, GSLOT and REC name, with the group that holds its entries; none once the group is saved. -/
def xresFind (s : State) (core gslot rec_ : Nat) : Option (OpenRec × Nat × Nat × Mask) :=
  (s.openRecs.filterMap (fun r =>
    let tail := ctlWord64 s (trapRing s r.tenant + 8)
    if r.n % 65536 ≠ rec_ || tail.toNat ≤ r.n || r.n + 63 < tail.toNat then none
    else (heldAtTrap s r.trap).find? (fun p => match groupOf s p.1 with
        | some g => g.core == core && g.gslot == gslot && !g.halted
        | none => false) |>.map (fun p => (r, p)))).head?
/-- The lanes W of a routed trap leave for XPC, with the priorities they were held at, and the group's words fetched ahead and
loop buffer go, as at ERET (R278); the rest stay held (R379). -/
def resumeLanes (s : State) (gid : Nat) (trap : Nat) (xpc : DWord) (w : Mask) : State :=
  match groupOf s gid with
  | none => s
  | some g =>
    let ps := lanePrios g w
    let stay := (dropLanes g.ents w).map (fun e => if e.st == .held trap then { e with st := .heldRet trap } else e)
    setGroup s (leaveSkips { g with ents := placeByPrio s g stay xpc w ps 0, loop := [], loopStale := false,
                                    owes := owesWord s g g.owes (xpc, w) } w xpc)
/-- The request of a write to XRES with GO is carried out (R379); while TAIL or its record cannot be read yet it stays in progress.
DESIGN CHOICE (log entry 71): a record that is poisoned or whose homes are lost sets ERR. -/
def xresRun (s : State) (v : DWord) : State :=
  let s := { s with xresBusy := none }
  match s.openRecs.find? (fun r => ctlAway s (trapRing s r.tenant + 8) && r.n % 65536 == bitsOf v 0 16) with
  | some r => askData { s with xresBusy := some v } ((trapRing s r.tenant + 8) / 64)
  | none =>
    match xresFind s (bitsOf v 39 9) (bitsOf v 29 10) (bitsOf v 0 16) with
    | none => xresErr s true
    | some (r, gid, team, m) =>
      let closed := { s with openRecs := s.openRecs.filter (fun x => x != r) }
      if bitsOf v 48 2 = 2 then settle (endLanes (xresErr closed false) gid m) team
      else
        let a := trapRing s r.tenant + 0x40 + 64 * (r.n % 63)
        if ctlAway s a then askData { s with xresBusy := some v } (a / 64)
        else
          let s := mergeBlend s (a / 64)
          let closed := mergeBlend closed (a / 64)
          let xpc := ctlWord64 s (a + 8)
          let xl := ctlWord64 s (a + 16)
          if ctlUnread s a || minus xl m != 0 || bitsOf xpc 0 2 ≠ 0 then xresErr s true
          else settle (resumeLanes (xresErr (if minus m xl == 0 then closed else s) false) gid r.trap xpc (xl &&& m)) team
/-- A write to XRES (R379); a GO written while BUSY = 1 is ignored. -/
def xresWrite (s : State) (v : DWord) : State :=
  let act := bitsOf v 48 2
  let s := apSet s 0xE000 (putBits (v &&& 0x0000FFFFE000FFFF) 61 1 (bitsOf (apWord s 0xE000) 61 1))
  if !v.getLsbD 63 || (act ≠ 1 && act ≠ 2) || s.xresBusy.isSome then s else xresRun s v
/-- A request in progress is tried again. -/
def xresRetry (s : State) : State := match s.xresBusy with
  | some v => xresRun s v
  | none => s
/-- XRES as read. -/
def xresRead (s : State) : DWord := putBits (apWord s 0xE000) 62 1 (if s.xresBusy.isSome then 1 else 0)
/-- TRAP_RESUME (R379): a write to XRES whose ACT is 1. -/
def execTrapResume (v : DWord) (s : State) : Host.Outcome State Fault Refusal := .next (xresWrite s (putBits v 48 2 1))
/-- TRAP_KILL (R379): a write to XRES whose ACT is 2. -/
def execTrapKill (v : DWord) (s : State) : Host.Outcome State Fault Refusal := .next (xresWrite s (putBits v 48 2 2))

/-! ## KILLCTL (R380) -/

/-- The groups of a context on a core that a kill acts on: those not halted for a save (R380, R403). -/
def killGroups (s : State) (core : Nat) (ctx : BitVec 16) : List Group := (ctxGroups s core ctx).filter (fun g => !g.halted)
/-- Kill lanes of the resident groups of a context on a core: those a predicate gives of each group. -/
def killLanes (s : State) (core : Nat) (ctx : BitVec 16) (m : Group → Mask) : State :=
  settleCore ((killGroups s core ctx).foldl (fun s h => match groupOf s h.gid with
    | some g => endLanes s g.gid (m g &&& g.live)
    | none => s) s) core
/-- The held lanes that an ERET or a resume left. -/
def leftHeld (g : Group) : Mask := (g.ents.filter (fun e => match e.st with
  | .heldRet _ => true
  | _ => false)).foldl (fun m e => m ||| e.mask) 0
/-- The groups of the context that halt for a save in this cycle do so before the kill (R403). -/
def haltFirst (s : State) (core : Nat) (ctx : BitVec 16) : State := match saveOn s core with
  | some p => if p.ctx == ctx then forceSave ((ctxGroups s core ctx).foldl (fun s g => tryHalt s core g.gid) s) core else s
  | none => s
/-- A group that loses lanes, and the callers whose lanes these are. -/
def withCallers (s : State) (g : Group) : List Group := g :: (match teamOf s g.team with
  | some t => ((t.frames.filter (fun f => g.path.any (fun p => p.1 == f.fid))).map (·.callers)).flatten
  | none => [])
/-- A kill starts on a core: its end awaits the operations of every group that loses a lane: those it issued, names, or has exported
(R197, R238, R380). -/
def startKill (s0 : State) (core : Nat) (ctx : BitVec 16) (all : Bool) : State :=
  let s := haltFirst s0 core ctx
  let hit := (killGroups s core ctx).filter (fun g => (if all then g.live else leftHeld g) != 0)
  let theirs := (hit.map (withCallers s)).flatten
  let s := killLanes s core ctx (fun g => if all then g.live else leftHeld g)
  let ops := (s.aops.filter (fun o => o.st == .pending && (hit.any (fun g => g.gid == o.gid) || theirs.any (fun g =>
    g.h.any (fun p => p.2 == o.id) || (o.exported.isSome && o.exporter == g.gid))))).map (·.id)
  apPut { s with kills := s.kills ++ [⟨core, ctx, ops⟩] } (0xC000 + 8 * core) 63 1 1
/-- A write to KILLCTL of a core (R380). -/
def killWrite (s : State) (core : Nat) (v : DWord) : State :=
  if 304 ≤ core then s
  else
    let o := 0xC000 + 8 * core
    let old := apWord s o
    let s := apSet s o (putBits (putBits old 0 16 (bitsOf v 0 16)) 62 1 (if v.getLsbD 62 then 0 else bitsOf old 62 1))
    if old.getLsbD 63 then s
    else if bitsOf v 16 2 = 1 then startKill s core (v.extractLsb' 0 16) false
    else if bitsOf v 16 2 = 2 then startKill s core (v.extractLsb' 0 16) true
    else s
/-- A kill whose lanes' operations are over sets DONE and raises vector 4 (R380, R387). -/
def killOver (s : State) (core : Nat) : State :=
  match s.kills.find? (fun k => k.core == core) with
  | none => s
  | some k =>
    if k.ops.any (fun i => !gone s i) then s
    else
      let s := { s with kills := s.kills.filter (fun x => x.core != core) }
      raiseVector (apPut s (0xC000 + 8 * core) 62 2 1) ((tenantOf s k.ctx).getD 0) 4
/-- KILL_HELD (R380): a write to KILLCTL whose OP is 1. -/
def execKillHeld (core : Nat) (v : DWord) (s : State) : Host.Outcome State Fault Refusal := .next (killWrite s core (putBits v 16 2 1))
/-- KILL_CONTEXT (R380): a write to KILLCTL whose OP is 2. -/
def execKillContext (core : Nat) (v : DWord) (s : State) : Host.Outcome State Fault Refusal := .next (killWrite s core (putBits v 16 2 2))
/-- KILL_DONE (R380). -/
def execKillDone (core : Nat) (s : State) : Host.Outcome State Fault Refusal := .next (killOver s core)

/-! ## Debug channels (R284, R287) -/

/-- A write to DCTL of a channel (R287): REL releases core HCORE if a HALT has stopped it. -/
def dctlWrite (s : State) (c : Nat) (v : DWord) : State :=
  if 4 ≤ c then s
  else
    let s := apSet s (0x10000 + 0x20 * c) (BitVec.ofNat 64 (bitsOf v 48 9 * 2 ^ 48 + bitsOf v 0 3))
    if v.getLsbD 3 && bitsOf v 48 9 < Config.nCores then modCore s (bitsOf v 48 9) (fun k => { k with halted := false }) else s
/-- DEBUG_RELEASE (R284): a write to DCTL with REL. -/
def execDebugRelease (ch : Nat) (v : DWord) (s : State) : Host.Outcome State Fault Refusal := .next (dctlWrite s ch (putBits v 3 1 1))
/-- DSTAT of a channel as read (R287): RES and CORE follow the selected lane. -/
def dstatRead (s : State) (c : Nat) : DWord :=
  let w := dbgWord s c 3
  match s.groups.find? (fun g => (dbgLane s g c).isSome) with
  | some g => putBits (putBits w 62 1 1) 48 9 g.core
  | none => putBits (putBits w 62 1 0) 48 9 0

end Sys2Proof.Machine
end

