-- ==== Sys2Proof/Machine/CollEvents.lean ====
section
/-! DEFINITION. What reaches a collective from outside its group (15 R333-R341, 24 R432-R439, 11 R261): packets, retries,
acknowledgements and commits, agreements, cancels, and the return of a member's check. -/

namespace Sys2Proof.Machine

/-! ## Packets (R338, R340, R341) -/

/-- The share of the early-arrival store of a context's tenant (R340). -/
def earlyShare (s : State) (ctx : Nat) : Nat :=
  match (tenantOf s (BitVec.ofNat 16 ctx)).bind (partition s) with
  | some (_, z) => 4194304 * z / 12 / 64 * 64
  | none => 0
/-- Bytes that a context's tenant has parked: packets whose binding is Closed here. -/
def earlyUsed (s : State) (ctx : Nat) : Nat :=
  ((s.early.filter (fun p => isClosed s p.ctx p.c && tenantOf s (BitVec.ofNat 16 p.ctx) == tenantOf s (BitVec.ofNat 16 ctx))).map
    (fun p => (pktBytes p).length)).foldl (· + ·) 0
/-- A packet of this member is acknowledged by a package (R339): the oldest of the chunk that is on its way there. -/
def ackIn (s : State) (p : CollPkt) : State :=
  let mine := fun (k : CollSent) => k.ctx == p.ctx && k.c == p.c && k.chunk == p.chunk && k.way.pkg == p.pkg
  match s.collSent.find? mine with
  | none => s
  | some k =>
    let s := { s with collSent := s.collSent.erase k }
    modBind s p.ctx p.c (fun b => if b.post != k.post then b else markAcked { b with
      chunks := ((List.range b.chunks.length).zip b.chunks).map (fun q =>
        if q.1 == k.chunk then { q.2 with acks := q.2.acks.filter (· != k.way.idx) } else q.2) })
/-- A packet is taken in by an Open binding. -/
def takePacket (s : State) (b : Bind) (p : CollPkt) : State :=
  if p.nmemb + 1 ≠ b.ranks.length || (b.ranks.getD p.pos (0, 0)).1 ≠ p.rank then failPost s b 0x147 0
  else
    let s := send s (.collAck p.pkg p)
    match p.body with
    | .partSum ws => collPump (modChunk s b.ctx b.c p.chunk (fun k => { k with part := some ws }))
    | _ => collPump { s with early := s.early ++ [p] }
/-- A packet, or the acknowledgement of one, arrives. -/
def packetIn (s : State) (p : CollPkt) : State :=
  if p.body == .ack then ackIn s p
  else
  let park :=
    let used := earlyUsed s p.ctx
    if earlyShare s p.ctx < used + (pktBytes p).length then sendPlain s p.ctx 0 (.retryAfter p.pkg (min 63 (1 + used / 65536)) p)
    else send (ownMark { s with early := s.early ++ [p] } 5 288 (BitVec.ofNat 16 p.ctx)) (.collAck p.pkg p)
  match bindOf s p.ctx p.c with
  | none => park
  | some b => (match b.st with
    | .closed => park
    | .open_ => if b.cancelling then send s (.collAck p.pkg p) else takePacket s b p
    | _ => send s (.collAck p.pkg p))
/-- COLL_PACKET_ARRIVAL (R338). -/
def execCollPacketArrival (p : CollPkt) (s : State) : Host.Outcome State Fault Refusal := .next (packetIn s p)
/-- A sender goes on retrying only while its binding is Open (R439). -/
def retriesOn (s : State) (p : CollPkt) : Bool := match bindOf s p.ctx p.c with
  | some b => b.st == .open_ && !b.cancelling
  | none => false
/-- The clock that retries are measured by: that of core 288. -/
def hubClock (s : State) : Nat := (coreOf s 288).cycle.toNat
/-- A packet has been refused by a package (R341): it is on its way no more, and waits to be sent again. -/
def refusedIn (s : State) (p : CollPkt) (us : Nat) : State :=
  match s.collSent.find? (fun k => k.ctx == p.ctx && k.c == p.c && k.chunk == p.chunk && k.way.pkg == p.pkg) with
  | none => s
  | some k =>
    let s := { s with collSent := s.collSent.erase k }
    if retriesOn s p then { s with retries := s.retries ++ [(p, hubClock s + 2100 * us)] } else s
/-- RETRY_AFTER (R341): `p` is the refused packet, its `pkg` the package that refused it. -/
def execRetryAfter (p : CollPkt) (us : Nat) (s : State) : Host.Outcome State Fault Refusal := .next (refusedIn s p us)
/-- The n-th refused packet is sent again once its time has come, or given up. -/
def resend (s : State) (n : Nat) : State :=
  match s.retries[n]? with
  | none => s
  | some (p, due) =>
    let rest := s.retries.take n ++ s.retries.drop (n + 1)
    if !retriesOn s p then { s with retries := rest }
    else if hubClock s < due then s
    else match bindOf s p.ctx p.c with
      | none => s
      | some b =>
        let k := (b.ranks.findIdx? (fun r => r.2 == p.pkg)).getD 0
        (match lookAll s b p.chunk [k] with
          | .ok _ _ _ => sendPacket (registerAll { s with retries := rest } b p.chunk [k]) b k { p with pkg := ownPkg s }
          | .held => askRank s b.ctx (b.ranks.getD k (0, 0)).1
          | .fault x => failPost { s with retries := rest } b x 0)
/-- RETRY_RESEND (R341). -/
def execRetryResend (n : Nat) (s : State) : Host.Outcome State Fault Refusal := .next (resend s n)

/-! ## Acknowledgements and commits (R339, R436) -/

/-- Packets of a binding to a package that are still to be acknowledged. -/
def owesTo (s : State) (ctx c pkg : Nat) : Bool :=
  s.collSent.any (fun k => k.ctx == ctx && k.c == c && k.way.pkg == pkg) ||
  s.retries.any (fun r => r.1.ctx == ctx && r.1.c == c && r.1.pkg == pkg)
/-- Cancels whose senders are owed nothing more are acknowledged (R436). -/
def payCancels (s : State) (ctx c : Nat) : State :=
  match bindOf s ctx c with
  | none => s
  | some b =>
    let ready := b.owe.filter (fun p => !owesTo s ctx c p)
    let s := ready.foldl (fun s p => sendPlain s ctx 0 (.cancelAck p ctx c)) s
    modBind s ctx c (fun b => { b with owe := b.owe.filter (fun p => !ready.contains p) })
/-- The engine's next step on a binding: the member commits once every chunk is final here and every packet it sent has been
acknowledged (R339). -/
def commitStep (s : State) (ctx c : Nat) : State :=
  let s := collPump s
  match bindOf s ctx c with
  | none => s
  | some b =>
    if b.st == .open_ && !b.cancelling && b.chunks.all (fun q => q.final && q.acks.isEmpty) then
      endAop (modBind (shutBind s ctx c) ctx c (fun b => { b with committed := true })) b.post .done
    else payCancels s ctx c
/-- COLL_COMMIT (R339). -/
def execCollCommit (ctx c : Nat) (s : State) : Host.Outcome State Fault Refusal := .next (commitStep s ctx c)

/-! ## Agreement (R435) -/

/-- A package that never opened the binding fails an agreement of it (R435). DESIGN CHOICE (log entry 39): knowing no members, it says so
to every package of the paddock. -/
def agreeRefuse (s : State) (ctx c : Nat) : State :=
  ((List.range 768).filter (fun p => p != ownPkg s && !memberGone s p)).foldl (fun s p => sendPlain s ctx 0 (.agreeResult p ctx c none)) s
/-- An agreement start arrives. -/
def agreeStartIn (s : State) (ctx c : Nat) : State :=
  match bindOf s ctx c with
  | none => agreeRefuse s ctx c
  | some b => (match b.st with
    | .open_ => if b.cancelling then s else
        agreeReport (wakePost (dropRetries (modBind s ctx c (fun b => { b with st := .agreeing 0x149 })) ctx c) ctx c) ctx c
    | .broken x => agreeReport (modBind s ctx c (fun b => { b with st := .agreeing x })) ctx c
    | .closed => agreeReport (modBind s ctx c (fun b => { b with reported := true })) ctx c
    | _ => s)
/-- AGREEMENT_START (R435). -/
def execAgreementStart (ctx c : Nat) (s : State) : Host.Outcome State Fault Refusal := .next (agreeStartIn s ctx c)
/-- A member's progress value arrives; the leader may have them all then. It is kept also where this member does not know yet that it
leads. -/
def agreeProgressIn (s : State) (ctx c rank : Nat) (value : Option Nat) : State :=
  match bindOf s ctx c with
  | none => s
  | some b =>
    if !b.ranks.any (fun r => r.1 == rank) then s
    else agreeTry (modBind s ctx c (fun b => { b with progress := b.progress.filter (fun p => p.1 != rank) ++ [(rank, value)] })) ctx c
/-- AGREE_PROGRESS (R435). -/
def execAgreeProgress (ctx c rank : Nat) (value : Option Nat) (s : State) : Host.Outcome State Fault Refusal :=
  .next (agreeProgressIn s ctx c rank value)
/-- AGREE_RESULT (R435). -/
def execAgreeResult (ctx c : Nat) (value : Option Nat) (s : State) : Host.Outcome State Fault Refusal := .next (agreeEnd s ctx c value)

/-! ## Cancels (R436) -/

/-- A cancel arrives from a package. -/
def cancelIn (s : State) (ctx c pkg : Nat) : State :=
  let gave := (s.retries.filter (fun r => r.1.ctx == ctx && r.1.c == c)).map (fun r => (r.1.chunk, r.1.pkg))
  let s := dropRetries (dropEarly s ctx c) ctx c
  match bindOf s ctx c with
  | none => sendPlain s ctx 0 (.cancelAck pkg ctx c)
  | some b =>
    let s := modBind s ctx c (fun b => { b with
      owe := b.owe ++ [pkg],
      chunks := ((List.range b.chunks.length).zip b.chunks).map (fun q =>
        { q.2 with acks := q.2.acks.filter (fun k => !gave.contains (q.1, (b.ranks.getD k (0, 0)).2)) }) })
    let s := if b.st == .closed then s else
      b.agrees.foldl (fun s o => endAop s o (.error 0x14A 0)) (endAop (shutBind s ctx c) b.post (.error 0x14A 0))
    payCancels s ctx c
/-- COLL_CANCEL (R436). -/
def execCollCancel (ctx c pkg : Nat) (s : State) : Host.Outcome State Fault Refusal := .next (cancelIn s ctx c pkg)
/-- A cancel of ours is acknowledged; with the last one the handle becomes Idle and the binding Closed. -/
def cancelAckIn (s : State) (ctx c rank : Nat) : State :=
  match bindOf s ctx c with
  | none => s
  | some b =>
    if !b.cancelling then s
    else
      let left := b.cancelOwed.filter (· != rank)
      if left.isEmpty then endAop (shutBind s ctx c) b.post .idle
      else modBind s ctx c (fun b => { b with cancelOwed := left })
/-- CANCEL_ACK (R436). -/
def execCancelAck (ctx c rank : Nat) (s : State) : Host.Outcome State Fault Refusal := .next (cancelAckIn s ctx c rank)

/-! ## The check of a member at the H-die (R261) -/

/-- The entry of a group that waits for its member's check, the first in choosing order. -/
def checkedEnt (g : Group) : Option Ent :=
  (sortBy (fun a b : Ent => b.prio < a.prio || (a.prio == b.prio && a.pc < b.pc)) (g.ents.filter (fun e => e.st == .stalled .coll))).head?
/-- The member an entry's word holds runs its check's outcome (R261, R434). -/
def checkReturn (s : State) (g : Group) (e : Ent) : Host.Outcome State Fault Refusal :=
  let s := modGroup { s with sel := some ⟨g.gid, e.pc, e.prio, 0, []⟩ } g.gid (fun g => { g with
    ents := g.ents.map (fun x => if x == e then { x with st := .ready } else x) })
  match (peekWord s g e.pc).bind (fun w => decodeFields (splitWord w)) with
  | some (.collPost S h c) => issue (.collPost S h c) s (collGate true (collPostK S h.toNat c.toNat))
  | some (.collFire S c a) => issue (.collFire S c a) s (collGate true (collFireK S c.toNat a))
  | some (.collProg S d c) => issue (.collProg S d c) s (collGate true (collProgK S d c.toNat))
  | some (.collAgree S h c) => issue (.collAgree S h c) s (collGate true (collAgreeK S h.toNat c.toNat))
  | _ => .next s
/-- COLL_CHECK_RETURN (R261). -/
def execCollCheckReturn (core gid : Nat) (s : State) : Host.Outcome State Fault Refusal :=
  match groupOf s gid with
  | none => .next s
  | some g =>
    match checkedEnt g with
    | some e => if g.core == core && !g.halted && !(coreOf s core).halted && !s.tripped && !s.lost then checkReturn s g e else .next s
    | none => .next s

end Sys2Proof.Machine
end

