-- ==== Sys2Proof/Machine/Remote.lean ====
section
/-! DEFINITION. What leaves over the fabric and comes back (15 R324, R332, 10 R222, R235): the geometry of a copy's elements,
the route of a remote access, results that arrive for a token, RATOM lanes, and accesses that are abandoned (R420, R431). -/

namespace Sys2Proof.Machine

/-! ## The elements of a copy (R235) -/

/-- Elements of a copy. -/
def copyCount (w : List DWord) : Nat := descN w 0 * descN w 1 * descN w 2 * descN w 3
/-- The number of the element at a window index. -/
def elemNo (w : List DWord) (i0 i1 i2 i3 : Nat) : Nat := ((i3 * descN w 2 + i2) * descN w 1 + i1) * descN w 0 + i0
/-- Window index j of element n. -/
def winIdx (w : List DWord) (n j : Nat) : Nat :=
  if j = 0 then n % descN w 0
  else if j = 1 then n / descN w 0 % descN w 1
  else if j = 2 then n / (descN w 0 * descN w 1) % descN w 2
  else n / (descN w 0 * descN w 1 * descN w 2)
/-- Bank interleave (R235). -/
def ilv (a : DWord) (k : Nat) : DWord := a ^^^ BitVec.ofNat 64 (a.toNat / 1024 % 2 ^ k * 8)
/-- Source coordinate j of element n. -/
def srcCoord (w : List DWord) (n j : Nat) : Int := descO w j + winIdx w n j
/-- The source coordinates lie in the source. -/
def srcIn (w : List DWord) (n : Nat) : Bool := (List.range 4).all (fun j => 0 ≤ srcCoord w n j && srcCoord w n j < descE w j)
/-- The source address of element n; `none` for an element that is filled. -/
def srcAddr (w : List DWord) (n : Nat) : Option DWord :=
  if !srcIn w n && descFill w != 2 then none
  else
    let off := (List.range 4).foldl (fun x j => x + clampInt (srcCoord w n j) 0 (descE w j - 1) * descSS w j) 0
    some (ilv (w.getD 0 0 + BitVec.ofInt 64 off) (bitsOf (w.getD 8 0) 4 3))
/-- The bytes of a filled element. -/
def fillBytes (w : List DWord) : List Byte := leBytes (descES w) (if descFill w = 1 then bitsOf (w.getD 9 0) 0 32 else 0)
/-- The destination address of element n. -/
def dstAddr (w : List DWord) (n : Nat) : DWord :=
  let off := (List.range 4).foldl (fun x j => x + (winIdx w n j : Int) * descDS w j) 0
  ilv (w.getD 1 0 + BitVec.ofInt 64 off) (bitsOf (w.getD 8 0) 7 3)
/-- Elements of a copy that have been read and leave in one packet (R332): those bound for the 4 KiB destination page of element n, it
first, at most 256 bytes of them. -/
def gather (o : AOp) (w : List DWord) (n : Nat) (bs : List Byte) (bad : Bool) : List (Nat × List Byte × Bool) :=
  ((n, bs, bad) :: o.got.filter (fun h => h.1 != n && (dstAddr w h.1).toNat / 4096 == (dstAddr w n).toNat / 4096)).take (max 1 (256 / descES w))
/-- How an element's data stand, of those that a copy has read (R409, R411). -/
def elemMark (o : AOp) (va : DWord) (bad : Bool) : Mark := if bad then .poisoned else if o.unfit.contains (va.toNat / 32) then .unfit else .good
/-- The packet: the page's address, and each element at its offset in it. -/
def packet (o : AOp) (w : List DWord) (els : List (Nat × List Byte × Bool)) : RemoteOp :=
  .write (els.map (fun h => ((dstAddr w h.1).toNat % 4096, h.2.1, elemMark o (dstAddr w h.1) h.2.2)))
/-- Every byte of the 32-byte word that holds a destination address is written by one of the elements listed (R412). -/
def copyCovers (w : List DWord) (done : List Nat) (va : DWord) : Bool :=
  let ds := (done.map (fun n => (dstAddr w n).toNat)).filter (fun a => a / 32 == va.toNat / 32)
  (List.range 32).all (fun i => ds.any (fun a => a ≤ va.toNat / 32 * 32 + i && va.toNat / 32 * 32 + i < a + descES w))

/-! ## Routes (R324, R330, R420) -/

/-- Where a remote access goes: its package and port; a cause, rank-lost when the package is lost; or held, also while the
port's channel 2 is paused and when this package sends nothing more (R429). -/
def route (s : State) (ctx : BitVec 16) (va : DWord) : RankRes :=
  match rankLookup s ctx.toNat (bitsOf va 52 10) (bitsOf va 12 40) with
  | .ok p q ss => if isLost s p then .fault 0x149 else if portPaused s q 2 || s.lost then .held else .ok p q ss
  | r => r

/-! ## Results (R83, R149-R151) -/

/-- A pending write of a token gets its values in the lanes of `ok`: the low or the high word of `f`, unless its values are
known already; the other lanes go on waiting. -/
def fillWrite (tok : Nat) (ok : Mask) (f : Nat → DWord) (w : PWrite) : List PWrite :=
  if w.tok != tok || w.due.isSome then [w]
  else match w.dst with
    | .m _ => [{ w with due := some 0 }]
    | _ =>
      let hi := w.vals == [((64 : Nat), (1 : DWord))]
      let now := w.lanes &&& ok
      let later := minus w.lanes ok
      let vals := if !w.vals.isEmpty && !hi then w.vals
        else (lanesOf now).map (fun l => (l, (if hi then hiWord (f l) else loWord (f l)).setWidth 64))
      (if now == 0 then [] else [{ w with lanes := now, vals := vals, due := some 0 }]) ++
        (if later == 0 then [] else [{ w with lanes := later }])
/-- A group awaits a token in some lane of a mask. -/
def awaitsTok (g : Group) (tok : Nat) (m : Mask) : Bool :=
  g.pend.any (fun w => w.tok == tok && w.due.isNone && ((match w.dst with
    | .m _ => true
    | _ => false) || w.lanes &&& m != 0))
/-- A result arrives for a token: it takes effect in the group that awaits it (R151), or waits with a saved one. -/
def deliver (s : State) (tok : Nat) (ok : Mask) (f : Nat → DWord) : State :=
  let fill := fun (g : Group) => if awaitsTok g tok ok then { g with pend := (g.pend.map (fillWrite tok ok f)).flatten } else g
  let hit := (s.groups.filter (fun g => awaitsTok g tok ok)).map (·.gid)
  let s := { s with groups := s.groups.map fill, saved := s.saved.map (fun v => { v with groups := v.groups.map fill }) }
  hit.foldl (fun s gid => settleOf (applyDue s gid false) gid) s

/-! ## RATOM lanes (R222) -/

/-- A cause that records an address as XINFO (R374). -/
def memCause (c : Cause) : Bool := (0x040 ≤ c.toNat && c.toNat ≤ 0x04E) || (0x180 ≤ c.toNat && c.toNat ≤ 0x183)
/-- XINFO of a cause met at an address. -/
def xinfoOf (c : Cause) (va : DWord) : DWord := if memCause c then va else 0
/-- The fault of a RATOM lane is deferred in the group that awaits it; of a lane that has ended it is discarded. -/
def deferFault (s : State) (tok lane : Nat) (c : Cause) (va : DWord) : State :=
  let put := fun (g : Group) =>
    if !awaitsTok g tok (bit1 lane) then g
    else if bitAt g.live lane then { g with deferred := g.deferred ++ [(tok, bit1 lane, c, xinfoOf c va)] }
    else
      let left := (g.pend.map (fun w => if w.tok == tok then { w with lanes := minus w.lanes (bit1 lane) } else w)).filter (fun w => w.lanes != 0)
      { g with pend := left }
  { s with groups := s.groups.map put, saved := s.saved.map (fun v => { v with groups := v.groups.map put }) }
/-! ## Lanes of an access that cannot be performed (R366, R413, R419) -/

/-- The groups whose lanes an access belongs to: the one that issued it, or those that await its result. -/
def opGroup (o : MemOp) (F : Mask) (g : Group) : Bool := g.core == o.core && (g.gid == o.gid || awaitsTok g o.id F)
/-- Live lanes of F that cannot raise now: they are parked, held or wait with a cause. -/
def lateBusy (g : Group) (F : Mask) : Bool := (lanesOf (F &&& g.live)).any (fun l => !g.ents.any (fun e => unparked e && bitAt e.mask l))
/-- The lanes of F, and those of `back`, leave the entries they have come to: F raises a cause at the PC of the access, the others are there
again (R367), and their registers stay as they were. -/
def lateGroup (s : State) (o : MemOp) (F back : Mask) (c : Cause) (va : DWord) (g : Group) : Group :=
  let F := F &&& g.live
  let back := back &&& g.live
  let all := F ||| back
  let from_ := g.ents.filter (fun e => e.mask &&& all != 0)
  let g1 : Group := { g with
    pend := (g.pend.map (fun w => if w.tok == o.id && (vecOf w.dst).isSome then { w with lanes := minus w.lanes all } else w)).filter (fun w => w.lanes != 0),
    ents := dropLanes g.ents all ++ ((from_.filter (fun e => e.mask &&& F != 0)).map (fun e =>
      (⟨o.pc, e.prio, e.mask &&& F, 0, .pending ⟨F, c, o.pc, va⟩⟩ : Ent))) }
  { g1 with ents := from_.foldl (fun (es : List Ent) (e : Ent) => placePart (handlerLanes g1) es ⟨o.pc, prioAt s g1 o.pc e.prio, e.mask &&& back, 0, .ready⟩) g1.ents }
/-- Lanes F of an access that was issued cannot be performed: they raise a cause at its PC (R366, R367); a lane that has ended is only
given up. A CADD none of whose lanes is performed has no effect in any lane (R240, R366). `none`: some lane cannot raise yet.
DESIGN CHOICE (log entry 72): instructions that the lanes issued after it keep their effects. -/
def lateRaise (s : State) (o : MemOp) (F : Mask) (c : Cause) (va : DWord) : Option State :=
  let back := match o.kind with
    | .cadd _ => if o.accs.any (·.done) then 0 else minus o.mask F
    | _ => 0
  let away := s.saved.any (fun v => v.groups.any (opGroup o F)) || s.teams.any (fun t => t.frames.any (fun f => f.callers.any (opGroup o F)))
  if away || s.groups.any (fun g => opGroup o F g && lateBusy g (F ||| back)) then none
  else
    let gone := F ||| back
    let o' : MemOp := { o with mask := minus o.mask gone, accs := o.accs.filter (fun a => !bitAt gone a.lane) }
    let hit := (s.groups.filter (opGroup o F)).map (·.gid)
    let t := setOp { s with
      groups := s.groups.map (fun g => if opGroup o F g then lateGroup s o F back c va g else g),
      heldWrites := s.heldWrites.filter (fun h => !(lanesOf gone).any (fun l => h.writer == .lane o.id l)),
      out := s.out.filter (fun m => match m with
        | .cadd _ _ _ _ _ i l => !(i == o.id && bitAt gone l)
        | _ => true) } o'
    some (hit.foldl settleOf (if o'.accs.isEmpty then removeOp t o' else t))

/-- Bytes of data that a remote request carries. -/
def requestBytes : RemoteOp → Nat
  | .write parts => (parts.map (fun p => p.2.1.length)).foldl (· + ·) 0
  | _ => 0
/-- A remote access leaves over the fabric (R332). -/
def sendRemote (s : State) (op idx port pkg : Nat) (ctx : BitVec 16) (addr : DWord) (r : RemoteOp) : State :=
  sendData s port 2 ctx (requestBytes r) (.remote op idx port pkg ctx addr r)
/-- A RATOM lane is over; with the last one the access is. -/
def ratomOver (s : State) (o : MemOp) (lane : Nat) : State :=
  let o' : MemOp := { o with accs := o.accs.map (fun a => if a.lane == lane then { a with done := true } else a),
                             flights := o.flights.filter (fun f => f.idx != lane) }
  let s := setOp s o'
  if o'.accs.all (·.done) then removeOp s o' else s
/-- A RATOM lane ends with a fault. -/
def ratomFail (s : State) (o : MemOp) (a : Acc) (c : Cause) : State := ratomOver (deferFault s o.id a.lane c a.va) o a.lane
/-- A RATOM lane ends with the old value. -/
def ratomDone (s : State) (o : MemOp) (a : Acc) (old : DWord) : State := ratomOver (deliver s o.id (bit1 a.lane) (fun _ => old)) o a.lane
/-- The operands of a RATOM lane as they are sent. -/
def operandWords (a : Acc) : List Word := [loWord a.data, hiWord a.data, loWord a.data2, hiWord a.data2]

/-- An atomic on local tensor memory for tenant t (R220): the old value, or the cause of a bad word (R413). -/
def tenAtom (s : State) (t p op size : Nat) (x y : DWord) : Except Cause (DWord × State) :=
  if s.tenBad.contains (p / 32) then .error 0x180
  else if s.tenPoison.contains (p / 32) then .error 0x181
  else
    let old : DWord := BitVec.ofNat 64 (leNat ((List.range size).map (fun i => memByte s.ten (p + i))))
    .ok (old, tenWrite s t p (leBytes size (atomNew op old x y).toNat))

/-! ## Abandoned accesses (R420, R431) -/

/-- Nothing of an operation is under way any more. -/
def quiet (o : AOp) : Bool := o.flight.isEmpty && o.held.isEmpty && o.got.isEmpty
/-- An operation in which an element has failed: Error, or Idle where HCANCEL came first and nothing is under way. -/
def elemFail (s : State) (id : Nat) (c : Cause) (x : DWord) : State :=
  match aopOf s id with
  | none => s
  | some o =>
    if o.st != .pending then s
    else if o.cancelled then (if quiet o then endAop s id .idle else s)
    else endAop s id (.error c x)
/-- Copies with an element on its way to a package lose it. -/
def abandonCopies (s : State) (pkg : Nat) (c : Cause) : State :=
  (s.aops.filter (fun o => o.flight.any (fun f => f.pkg == pkg))).foldl (fun s o =>
    elemFail (setAop s { o with flight := o.flight.filter (fun f => f.pkg != pkg) }) o.id c 0) s
/-- RATOM lanes on their way to a package defer the cause. -/
def abandonRatoms (s : State) (pkg : Nat) (c : Cause) : State :=
  (s.ops.filter (fun o => o.flights.any (fun f => f.pkg == pkg))).foldl (fun s o =>
    (o.flights.filter (fun f => f.pkg == pkg)).foldl (fun s f =>
      match opOf s o.id, o.accs.find? (fun a => a.lane == f.idx) with
      | some o', some a => ratomFail s o' a c
      | _, _ => s) s) s
/-- A packet in a port's queue for a package. -/
def queuedFor (pkg : Nat) (q : Queued) : Bool := match q.msg with
  | .remote _ _ _ p _ _ _ => p == pkg
  | .coll p _ => p == pkg
  | m => (match channelOf m with
    | some (_, p) => p == pkg
    | none => false)
/-- Some traffic of this package is on its way to a package: accesses, packets and cancels that are not acknowledged, and what its ports
have still to send. -/
def onWayTo (s : State) (pkg : Nat) : Bool :=
  s.aops.any (fun o => o.flight.any (fun f => f.pkg == pkg)) || s.ops.any (fun o => o.flights.any (fun f => f.pkg == pkg)) ||
  s.collSent.any (fun k => k.way.pkg == pkg) || s.retries.any (fun r => r.1.pkg == pkg) || s.queue.any (queuedFor pkg) ||
  s.binds.any (fun b => b.cancelling && b.ranks.any (fun r => r.2 == pkg && b.cancelOwed.contains r.1))
/-- Every element and lane on its way to a package is abandoned. -/
def abandonFlights (s0 : State) (pkg : Nat) (c : Cause) : State :=
  let s := { s0 with queue := s0.queue.filter (fun q => !queuedFor pkg q) }
  let s := abandonRatoms (abandonCopies s pkg c) pkg c
  if s.binds.isEmpty then s else collPump s

end Sys2Proof.Machine
end

