-- ==== Sys2Proof/Machine/Fabric.lean ====
section
/-! DEFINITION. The fabric ports and the paddock (15 R326-R331, 24 R426-R431): membership words, circuits, pause and resume,
lane sampling, swaps onto the spare lane, replays and ports out of service. -/

namespace Sys2Proof.Machine

/-! ## The paddock (R326, R431) -/

/-- A write to paddock word w; one that clears the own package's bit is ignored. -/
def paddockWrite (s : State) (w : Nat) (v : DWord) : State :=
  if 12 ≤ w || (ownPkg s / 64 == w && !v.getLsbD (ownPkg s % 64)) then s
  else
    let t := apSet s (0x8000 + 8 * w) v
    (natsWhere 64 (fun b => inPaddock s (64 * w + b) && !v.getLsbD b)).foldl (fun t b => leavesAgreement t (64 * w + b)) t
/-- PADDOCK_WRITE (R326). -/
def execPaddockWrite (w : Nat) (v : DWord) (s : State) : Host.Outcome State Fault Refusal := .next (paddockWrite s w v)
/-- PADSTAT as read (R431): PEND while traffic with a package outside the paddock is unacknowledged. -/
def padstatRead (s : State) : DWord :=
  putBits (apWord s 0x8060) 63 1 (if (List.range 768).any (fun p => !inPaddock s p && onWayTo s p) then 1 else 0)
/-- A write to PADSTAT: ABANDONED is cleared by writing 1. -/
def padstatWrite (s : State) (v : DWord) : State := if v.getLsbD 62 then apPut s 0x8060 62 1 0 else s
/-- The circuit to a removed package is released: what is unacknowledged is abandoned with off-paddock (R431). -/
def circuitRelease (s : State) (pkg : Nat) : State :=
  if inPaddock s pkg || 768 ≤ pkg then s
  else
    let hit := onWayTo s pkg
    let s := breakBinds (abandonFlights s pkg 0x146) pkg 0x146
    if hit then apPut (apPut s 0x8060 62 1 1) 0x8060 0 10 pkg else s
/-- CIRCUIT_RELEASE (R431). -/
def execCircuitRelease (pkg : Nat) (s : State) : Host.Outcome State Fault Refusal := .next (circuitRelease s pkg)

/-! ## Pause and resume (R330) -/

/-- A virtual channel of a port is paused. -/
def pausePort (s : State) (p vc : Nat) : State :=
  if 36 ≤ p || 4 ≤ vc then s else setPort s p { portOf s p with paused := insNat vc (portOf s p).paused }
/-- What waited for a port is sent in order, as far as it can. -/
def sendWaiting (s : State) : State := collPump (s.waitOut.foldl send { s with waitOut := [] })
/-- A virtual channel of a port goes on, and what waited for it leaves in order. -/
def resumePort (s : State) (p vc : Nat) : State :=
  sendWaiting (setPort s p { portOf s p with paused := delNat vc (portOf s p).paused })
/-- PAUSE_FLIT (R330). -/
def execPauseFlit (port vc : Nat) (s : State) : Host.Outcome State Fault Refusal := .next (pausePort s port vc)
/-- RESUME_FLIT (R330). -/
def execResumeFlit (port vc : Nat) (s : State) : Host.Outcome State Fault Refusal := .next (resumePort s port vc)

/-! ## What a port sends (R331) -/

/-- WEIGHT of a tenant. -/
def weightOf (s : State) (t : Nat) : Nat := if t < 12 then bitsOf (apWord s (0x9000 + 8 * t)) 0 8 else 1
/-- The tenant a port serves next: in turn among those that have a packet ready, those of weight 0 only where no other has. -/
def nextServed (s : State) (p : Nat) (ts : List Nat) : Option Nat :=
  let heavy := ts.filter (fun t => weightOf s t != 0)
  let cand := if heavy.isEmpty then ts else heavy
  let last := mapGet 12 s.served p
  (cand.filter (last < ·) ++ cand.filter (· ≤ last)).head?
/-- The packets at the head of a list that so many bytes cover. -/
def covered : Nat → List Queued → List Queued
  | _, [] => []
  | d, q :: qs => if q.bytes ≤ d then q :: covered (d - q.bytes) qs else []
/-- One turn of a port: deficit round robin with a quantum of 256 × WEIGHT bytes; a tenant of weight 0 sends one packet. -/
def servePort (s : State) (p : Nat) : State :=
  let ready := s.queue.filter (fun q => q.port == p && !portPaused s p q.vc && !portDown s p)
  match nextServed s p (insAll (ready.map (·.tenant)) []) with
  | none => s
  | some t =>
    let mine := ready.filter (fun q => q.tenant == t)
    let d := mapGet 0 s.deficit (16 * p + t) + 256 * weightOf s t
    let now := if weightOf s t = 0 then mine.take 1 else covered d mine
    let left := if now.length = mine.length then 0 else d - (now.map (·.bytes)).foldl (· + ·) 0
    { s with queue := now.foldl (fun qs q => qs.erase q) s.queue, out := s.out ++ now.map (·.msg),
             deficit := mapSet 0 s.deficit (16 * p + t) left, served := mapSet 12 s.served p t }
/-- Every port takes a turn. -/
def servePorts (s : State) : State := if s.lost then s else (insAll (s.queue.map (·.port)) []).foldl servePort s

/-! ## Ports out of service (R428) -/

/-- Offset of word 0 of a port. -/
def portOff (p : Nat) : Nat := 0x12000 + 16 * p
/-- The address by which a copy's element was looked up: that of its remote end. -/
def remoteEnd (s : State) (o : AOp) (n : Nat) : DWord := match o.kind with
  | .copy _ w => if isRemote s o.ctx (dstAddr w n) then dstAddr w n else (srcAddr w n).getD 0
  | _ => 0
/-- A flight whose port is DOWN moves to the port the lookup now picks. -/
def moveFlight (s : State) (ctx rank page : Nat) (f : Flight) : Flight :=
  if !portDown s f.port then f
  else match rankLookup s ctx rank page with
    | .ok _ q ss => { f with port := q, sectors := ss }
    | _ => f
/-- The same, by the address it was looked up by. -/
def moveWay (s : State) (ctx : BitVec 16) (va : DWord) (f : Flight) : Flight := moveFlight s ctx.toNat (bitsOf va 52 10) (bitsOf va 12 40) f
/-- The rank that a collective packet goes to. -/
def rankOfSent (s : State) (k : CollSent) : Nat := (((bindOf s k.ctx k.c).bind (fun b => b.ranks[k.way.idx]?)).map (·.1)).getD 0
/-- A packet's message under the port its flight now leaves by. -/
def moveMsg (old : State) (t : State) (m : Msg) : Msg := match m with
  | .remote op idx port pkg ctx addr r =>
    if !portDown old port then m
    else
      let fs := ((aopOf t op).map (fun o => o.flight)).getD [] ++ ((opOf t op).map (fun o => o.flights)).getD []
      (match fs.find? (fun f => f.lead == idx && f.pkg == pkg) with
        | some f => .remote op idx f.port pkg ctx addr r
        | none => m)
  | m => m
/-- The port of a packet in a queue. -/
def queuedPort (t : State) (q : Queued) : Queued := match q.msg with
  | .remote _ _ port _ _ _ _ => { q with port := port }
  | .coll pkg p => (match t.collSent.find? (fun k => k.ctx == p.ctx && k.c == p.c && k.chunk == p.chunk && k.way.pkg == pkg) with
    | some k => { q with port := k.way.port }
    | none => q)
  | m => (match channelOf m with
    | some (_, pkg) => { q with port := plainPort t pkg }
    | none => q)
/-- Everything on its way, with the ports that the lookup picks now for what left by a DOWN one. -/
def waysMoved (s : State) : State := { s with
  aops := s.aops.map (fun o => { o with flight := o.flight.map (fun f => moveWay s o.ctx (remoteEnd s o f.idx) f) }),
  ops := s.ops.map (fun o => { o with flights := o.flights.map (fun f => match o.accs.find? (fun a => a.lane == f.idx) with
    | some a => moveWay s o.ctx a.va f
    | none => f) }),
  collSent := s.collSent.map (fun k => { k with way := moveFlight s k.ctx (rankOfSent s k) k.chunk k.way }) }
/-- The ways of everything that is on its way. -/
def allWays (s : State) : List Flight :=
  (s.aops.map (fun o => o.flight)).flatten ++ (s.ops.map (fun o => o.flights)).flatten ++ s.collSent.map (fun k => k.way)
/-- Whatever a DOWN port has not delivered moves to other ports, which hold the rank-table sectors in T from then on (R325); where the
lookup is held, it moves later. -/
def reroute (s : State) : State :=
  if (allWays s).all (fun f => !portDown s f.port) && s.queue.all (fun q => !portDown s q.port) then s
  else
    let t := waysMoved s
    let t := { t with out := t.out.map (moveMsg s t), queue := t.queue.map (fun q => queuedPort t { q with msg := moveMsg s t q.msg }) }
    (allWays t).foldl (fun u f => if portDown s f.port then u else fillT u (.port f.port) f.sectors) t
/-- A port goes out of service: what it had not delivered moves to other ports. -/
def portGoesDown (s : State) (p : Nat) : State := reroute (apPut s (portOff p) 63 1 1)
/-- One more failure of a flit: its number and how many times in a row. -/
def countFlit (old : Nat × Nat) (seq : Nat) : Nat × Nat := if old.1 == seq && old.2 != 0 then (seq, old.2 + 1) else (seq, 1)
/-- The far end asks for replay from a flit; after sixteen replays that failed the port is DOWN. -/
def replayAsked (s : State) (p seq : Nat) : State :=
  if 36 ≤ p then s
  else
    let n := countFlit (portOf s p).tx seq
    let s := setPort s p { portOf s p with tx := n }
    if 16 < n.2 then portGoesDown s p else s
/-- REPLAY_REQUEST (R428). -/
def execReplayRequest (port seq : Nat) (s : State) : Host.Outcome State Fault Refusal := .next (replayAsked s port seq)
/-- A flit that cannot be corrected is discarded and asked for again. -/
def badFlit (s : State) (p seq : Nat) : State :=
  if 36 ≤ p then s
  else
    let n := countFlit (portOf s p).rx seq
    let s := setPort s p { portOf s p with rx := n }
    if 16 < n.2 then portGoesDown s p else send s (.replay p seq)
/-- UNCORRECTABLE_FLIT (R428). -/
def execUncorrectableFlit (port seq : Nat) (s : State) : Host.Outcome State Fault Refusal := .next (badFlit s port seq)
/-- A physical lane loses lock; with two of them the port is DOWN. -/
def lockLost (s : State) (p lane : Nat) : State :=
  if 36 ≤ p || 5 ≤ lane then s
  else
    let u := insNat lane (portOf s p).unlocked
    let s := setPort s p { portOf s p with unlocked := u }
    if 2 ≤ u.length then portGoesDown s p else s
/-- LANE_LOSS_OF_LOCK (R428). -/
def execLaneLossOfLock (port lane : Nat) (s : State) : Host.Outcome State Fault Refusal := .next (lockLost s port lane)

/-! ## Lane health and the spare lane (R426, R427) -/

/-- Lane 4 carries a logical lane already. -/
def swapped (s : State) (p : Nat) : Bool := (apWord s (portOff p)).getLsbD 62
/-- The port proposes a swap of logical lane i, at a flit number 256 past the last. -/
def proposeSwap (s : State) (p i : Nat) : State :=
  let n := (portOf s p).seq + 256
  send (setPort s p { portOf s p with proposal := some (i, n), seq := n }) (.swap p i n)
/-- A write to word 1 of a port (R426). -/
def portWrite (s : State) (p : Nat) (v : DWord) : State :=
  if 36 ≤ p || bitsOf v 58 4 ≠ 0 || bitsOf v 24 32 ≠ 0 then s
  else
    let s := apSet s (portOff p + 8) (putBits (putBits v 62 1 0) 56 2 0)
    if v.getLsbD 62 && !swapped s p then proposeSwap s p (bitsOf v 56 2) else s
/-- SWAP_REQUEST (R427): a write to word 1 with SWAPREQ. -/
def execSwapRequest (port : Nat) (v : DWord) (s : State) : Host.Outcome State Fault Refusal := .next (portWrite s port (putBits v 62 1 1))
/-- Lane 4 takes over logical lane i. -/
def takeSpare (s : State) (p i : Nat) : State :=
  apPut (apPut (setPort s p { portOf s p with proposal := none }) (portOff p) 62 1 1) (portOff p) 60 2 i
/-- A swap proposal flit: the answer to the own proposal of that number, or a proposal of the far end. -/
def swapFlit (s : State) (p i seq : Nat) (spareWeak : Bool) : State :=
  if 36 ≤ p || 4 ≤ i then s
  else if (portOf s p).proposal == some (i, seq) then (if spareWeak then s else takeSpare s p i)
  else if spareWeak || (portOf s p).weak.contains 4 || swapped s p then send s (.swapAnswer p false)
  else send (takeSpare s p i) (.swapAnswer p true)
/-- SWAP_PROPOSAL (R427). -/
def execSwapProposal (port lane seq : Nat) (spareWeak : Bool) (s : State) : Host.Outcome State Fault Refusal :=
  .next (swapFlit s port lane seq spareWeak)
/-- Physical lanes that a set of samples shows weak, under the port's thresholds. -/
def weakLanes (s : State) (p : Nat) (xs : List LinkSample) : List Nat :=
  natsWhere 5 (fun i => match xs[i]? with
    | some x => bitsOf (apWord s (portOff p + 8)) 0 16 < x.corr || x.margin < bitsOf (apWord s (portOff p + 8)) 16 8
    | none => false)
/-- The logical lane to propose at the end of an interval (R427): a refused one again, else one weak twice in a row. -/
def swapDue (s : State) (p : Nat) (weak : List Nat) : Option Nat :=
  if swapped s p then none
  else match (portOf s p).proposal with
    | some (i, _) => some i
    | none =>
      if (apWord s (portOff p + 8)).getLsbD 63 || weak.contains 4 then none
      else weak.find? (fun i => i < 4 && (portOf s p).weak.contains i)
/-- A sampling interval of a port: the report, a proposal, and training while it is DOWN. -/
def sampleLanes (s : State) (p : Nat) (xs : List LinkSample) (trained : Bool) : State :=
  if 36 ≤ p then s
  else
    let weak := weakLanes s p xs
    let bits := weak.foldl (fun n i => n + 2 ^ i) 0
    let corr := min (2 ^ 32 - 1) (xs.foldl (fun n x => n + x.corr) 0)
    let margin := xs.foldl (fun n x => min n x.margin) 255
    let s1 := apPut (apPut (apPut s (portOff p) 48 5 bits) (portOff p) 40 8 margin) (portOff p) 0 32 corr
    let s2 := match swapDue s p weak with
      | some i => proposeSwap s1 p i
      | none => s1
    let s3 := setPort s2 p { portOf s2 p with weak := weak }
    if trained && portDown s3 p then
      sendWaiting (apPut (setPort s3 p { portOf s3 p with unlocked := [], tx := (0, 0), rx := (0, 0) }) (portOff p) 63 1 0)
    else s3
/-- LANE_SAMPLE_INTERVAL (R426). -/
def execLaneSampleInterval (port : Nat) (samples : List LinkSample) (trained : Bool) (s : State) : Host.Outcome State Fault Refusal :=
  .next (sampleLanes s port samples trained)

end Sys2Proof.Machine
end

