-- ==== Sys2Proof/Machine/Boot.lean ====
section
/-! DEFINITION. Bring-up and attestation (16 R346-R351, 23 R425): BOOTCFG, the two signed images, the boot sequence, the
attestation report, and module reset. -/

namespace Sys2Proof.Machine

/-! ## Identity (R346) -/

/-- The first address of the package's primary control home. -/
def homeBase (s : State) : Nat := ownPkg s * 2 ^ 33
/-- The bytes and marks of one home stand under another number: the home itself is the package's own memory. -/
def moveHome (s : State) (a b : Nat) : State :=
  if a = b then s
  else
    let swap := fun (n unit : Nat) => if n / (2 ^ 33 / unit) == a then n % (2 ^ 33 / unit) + b * (2 ^ 33 / unit) else n
    { s with
      ctl := s.ctl.foldl (fun m c => memSetByte m (swap c.1 1) c.2) [],
      ctlPoison := s.ctlPoison.foldl (fun l n => insNat (swap n 32) l) [],
      ctlBad := s.ctlBad.foldl (fun l n => insNat (swap n 32) l) [] }
/-- A write to BOOTCFG (R346): fixed once LOCK is set; the own paddock bit follows the number. -/
def bootcfgWrite (s : State) (v : DWord) : State :=
  if (apWord s 0).getLsbD 63 || 767 < bitsOf v 0 10 || 767 < bitsOf v 16 10 || bitsOf v 0 10 == bitsOf v 16 10 ||
     bitsOf v 26 37 ≠ 0 || bitsOf v 10 6 ≠ 0 then s
  else
    let old := ownPkg s
    let new := bitsOf v 0 10
    let s := apSet (moveHome s old new) 0 v
    if old = new then s
    else apPut (apPut s (0x8000 + 8 * (old / 64)) (old % 64) 1 0) (0x8000 + 8 * (new / 64)) (new % 64) 1 1
/-- BOOTCFG_WRITE (R346). -/
def execBootcfgWrite (v : DWord) (s : State) : Host.Outcome State Fault Refusal := .next (bootcfgWrite s v)

/-! ## Images (R347, R348, R350) -/

/-- Bytes of a trailer. -/
def trailerLen : Nat := 32 + 64 + 1952 + 3309
/-- A little-endian field of an image at address a. -/
def imgField (s : State) (a off n : Nat) : Nat := leNat (ctlBytes s (a + off) n)
/-- Payload bytes of an image. -/
def imgLen (s : State) (a : Nat) : Nat := imgField s a 0x0C 4
/-- Where the payload goes. -/
def imgLoad (s : State) (a : Nat) : Nat := imgField s a 0x10 8
/-- Check 0x01 of R348 with the areas of R350; `hub` is the load range of the hub firmware already accepted. -/
def imgShape (s : State) (kind a : Nat) (hub : Option (Nat × Nat)) : Bool :=
  let len := imgLen s a
  let load := imgLoad s a
  imgField s a 0 4 == 0x38324C42 && imgField s a 4 2 == kind && imgField s a 6 2 == 0 && imgField s a 0x20 32 == 0 &&
  len != 0 && len % 64 == 0 && load % 64 == 0 && 64 + len + trailerLen ≤ 0x4000000 &&
  homeBase s + 0x8000000 ≤ load && load + len ≤ homeBase s + 0x10000000 &&
  (match hub with
    | some (l, n) => load + len ≤ l || l + n ≤ load
    | none => true)
/-- R348: the code of the first check that fails, 0 when the image is accepted. -/
def imgCheck (s : State) (kind a : Nat) (hub : Option (Nat × Nat)) : Nat :=
  if !imgShape s kind a hub then 0x01
  else
    let len := imgLen s a
    let msg := ctlBytes s a (64 + len)
    let t := a + 64 + len
    let edKey := ctlBytes s t 32
    let edSig := ctlBytes s (t + 32) 64
    let mlKey := ctlBytes s (t + 96) 1952
    let mlSig := ctlBytes s (t + 2048) 3309
    if Config.sha3w256 edKey != Config.fusedEdHash || Config.sha3w256 mlKey != Config.fusedMlHash then 0x02
    else if !Config.ed25519Ok edKey edSig msg then 0x03
    else if !Config.mldsaOk mlKey mlSig msg then 0x04
    else if imgField s a 8 4 < Config.fusedMinSvn kind then 0x05
    else 0
/-- An accepted image: its payload is copied to LOAD, the image is kept for the report (R351), and core 288 enters ENTRY. The mirror has
the boot region by the time of the kernel's (R349), whose payload is written there too (R88). -/
def imgAccept (s : State) (kind a : Nat) : State :=
  let len := imgLen s a
  let img := ctlBytes s a (64 + len + trailerLen)
  let s := (cutSectors (len + 1) (imgLoad s a) (ctlBytes s (a + 64) len)).foldl (fun s w =>
    if kind = 1 then ctlPut s w.addr w.bytes else homePut s w.addr w.bytes false) s
  { s with images := s.images.filter (fun i => i.1 != kind) ++ [(kind, leNat ((img.drop 8).take 4), img)],
           entered := some (leNat ((img.drop 0x18).take 8)) }

/-! ## The sequence (R349, R425) -/

/-- BOOTSTAT.ERR. -/
def bootErr (s : State) : Nat := bitsOf (apWord s 8) 8 8
/-- BOOTSTAT.STAGE. -/
def bootStage (s : State) : Nat := bitsOf (apWord s 8) 0 4
/-- BOOTSTAT.DONE. -/
def bootDone (s : State) : Bool := (apWord s 8).getLsbD 63
/-- The sequence stops at its stage. -/
def bootStop (s : State) (err : Nat) : State := apPut s 8 8 8 err
/-- Stage 1: the ROM waits for LOCK, then verifies the hub image and enters it. -/
def romVerify (s : State) : State :=
  if bootErr s ≠ 0 || 1 < bootStage s then s
  else
    let s := apPut s 8 0 4 1
    if !(apWord s 0).getLsbD 63 then s
    else
      let a := homeBase s
      let err := imgCheck s 1 a none
      if err ≠ 0 then bootStop s err else apPut (imgAccept s 1 a) 8 0 4 2
/-- ROM_HUB_VERIFY (R349). -/
def execRomHubVerify (s : State) : Host.Outcome State Fault Refusal := .next (romVerify s)
/-- The boot region goes to the peer with its marks, which keeps it in its mirror part (R349, R350). -/
def bootOut (s : State) : State :=
  let mine := fun (a : Nat) => a / 2 ^ 33 == ownPkg s && decide (a % 2 ^ 33 < 0x10000000)
  let words := fun (l : List Nat) => (l.filter (fun w => mine (32 * w))).map (fun w => w % 2 ^ 28)
  send s (.bootCopy (peerPkg s) ((s.ctl.filter (fun c => mine c.1)).map (fun c => (c.1 % 2 ^ 33, c.2))) (words s.ctlPoison) (words s.ctlBad))
/-- Both home parts outside the boot region become zero (R349, R350). -/
def zeroHomes (s : State) : State :=
  let keep := fun (a : Nat) => !(a / 2 ^ 33 == ownPkg s && decide (0x10000000 ≤ a % 2 ^ 33))
  { s with ctl := s.ctl.filter (fun c => keep c.1), ctlPoison := s.ctlPoison.filter (fun n => keep (32 * n)),
           ctlBad := s.ctlBad.filter (fun n => keep (32 * n)),
           mirror := s.mirror.filter (fun c => c.1 < 0x10000000), mirrorPoison := s.mirrorPoison.filter (fun n => 32 * n < 0x10000000),
           mirrorBad := s.mirrorBad.filter (fun n => 32 * n < 0x10000000) }
/-- Every core is released. -/
def releaseCores (s : State) : State := (List.range Config.nCores).foldl (fun s n => modCore s n (fun c => { c with held := false })) s
/-- Stage 2: links, identities, the homes and the kernel image; stage 3 releases the cores. -/
def hubVerify (s : State) (peer : PeerInfo) : State :=
  if bootStage s ≠ 2 || bootErr s ≠ 0 then s
  else if !peer.linkUp then bootStop s 0x11
  else if peer.pkgid ≠ peerPkg s || peer.peer ≠ ownPkg s then bootStop s 0x10
  else if !peer.ready then s
  else
    let s := zeroHomes (bootOut s)
    let a := homeBase s + 0x4000000
    let hub := (s.images.find? (fun i => i.1 == 1)).map (fun i => (leNat ((i.2.2.drop 0x10).take 8), leNat ((i.2.2.drop 0x0C).take 4)))
    let err := imgCheck s 2 a hub
    if err ≠ 0 then bootStop s err else apPut (apPut (releaseCores (imgAccept s 2 a)) 8 0 4 3) 8 63 1 1
/-- HUB_KERNEL_VERIFY (R349). -/
def execHubKernelVerify (peer : PeerInfo) (s : State) : Host.Outcome State Fault Refusal := .next (hubVerify s peer)

/-! ## Attestation (R351) -/

/-- The area a report goes to. -/
def reportArea (s : State) : Nat := bitsOf (apWord s 0x120) 12 36 * 4096
/-- BUSY: bytes of a report are still to be performed. -/
def attestBusy (s : State) : Bool := (apWord s 0x120).getLsbD 62
/-- AREQ as read: GO reads zero. -/
def areqRead (s : State) : DWord := putBits (apWord s 0x120) 63 1 0
/-- n bytes, cut or filled with zeros. -/
def fitBytes (n : Nat) (bs : List Byte) : List Byte := (bs ++ List.replicate n 0).take n
/-- An image kept from boot: its security version and bytes. -/
def keptImage (s : State) (kind : Nat) : Nat × List Byte := ((s.images.find? (fun i => i.1 == kind)).map (·.2)).getD (0, [])
/-- The report on the state as it stands. -/
def attestReport (s : State) : List Byte :=
  let hub := keptImage s 1
  let ker := keptImage s 2
  let h1 := fitBytes 48 (Config.sha3w384 hub.2)
  let h2 := fitBytes 48 (Config.sha3w384 ker.2)
  let body := ((List.range 4).map (fun i => leBytes 8 (apWord s (0x100 + 8 * i)).toNat)).flatten ++ leBytes 8 (apWord s 0).toNat ++
    leBytes 4 hub.1 ++ leBytes 4 ker.1 ++ h1 ++ h2 ++
    ((List.range 12).map (fun t => leBytes 8 (apWord s (0x1000 + 8 * t)).toNat)).flatten ++ List.replicate 16 0
  body ++ fitBytes 64 (Config.attestEd (h1 ++ h2) body) ++ fitBytes 3309 (Config.attestMl (h1 ++ h2) body)
/-- Only the last of a report's writes ends it. -/
def markLast : List DevWrite → List DevWrite
  | [] => []
  | [w] => [{ w with report := true }]
  | w :: v :: ws => w :: markLast (v :: ws)
/-- A write to AREQ: GO is ignored while BUSY, and while DONE = 0. DESIGN CHOICE (log entry 79): so is the rest of such a write, and
the address bits read back. -/
def areqWrite (s : State) (v : DWord) : State :=
  if attestBusy s || (v.getLsbD 63 && !bootDone s) then s
  else
    let s := apSet s 0x120 (BitVec.ofNat 64 (bitsOf v 6 42 * 64))
    if !v.getLsbD 63 then s
    else
      let bs := attestReport s
      let s := apPut s 0x120 62 1 1
      devWrite s (markLast (cutSectors (bs.length + 1) (reportArea s) bs))
/-- ATTEST_REQUEST (R351): a write to AREQ with GO. -/
def execAttestRequest (v : DWord) (s : State) : Host.Outcome State Fault Refusal := .next (areqWrite s (putBits v 63 1 1))

/-! ## Module reset (R349, R425) -/

/-- Module reset: everything but the memories, which the boot images stand in, as after power-on. -/
def moduleReset (s : State) : State :=
  let t := moveHome s (ownPkg s) 0
  { State.reset with
    ctl := t.ctl, ctlPoison := t.ctlPoison, ctlBad := t.ctlBad, ten := s.ten, tenPoison := s.tenPoison, tenBad := s.tenBad,
    mirror := s.mirror, mirrorPoison := s.mirrorPoison, mirrorBad := s.mirrorBad,
    powered := s.powered, out := s.out, nextId := s.nextId, agenda := s.agenda }
/-- MODULE_RESET (R349). -/
def execModuleReset (s : State) : Host.Outcome State Fault Refusal := .next (moduleReset s)

end Sys2Proof.Machine
end

