-- ==== Sys2Proof/Machine/Power.lean ====
section
/-! DEFINITION. The power governor and the thermal limits (15 R342, R343, 16 R352, 23 R424). -/

namespace Sys2Proof.Machine

/-! ## Temperatures (R352, R424) -/

/-- Junction temperature of a C-die as THERM reports it. -/
def dieTemp (s : State) (die : Nat) : Nat := bitsOf (apWord s 0xB000) (8 * die) 8
/-- Some die reads at least a temperature. -/
def anyHot (s : State) (t : Nat) : Bool := (List.range 4).any (fun d => t ≤ dieTemp s d)
/-- Every core stops issuing as under HALT, and TRIP is set. -/
def trip (s : State) : State :=
  apPut { s with tripped := true, cores := s.cores.map (fun p => (p.1, { p.2 with issueq := [] })) } 0xB000 63 1 1
/-- A die reads a temperature: 110 °C trips the module, 125 °C removes power. -/
def readTemp (s : State) (die temp : Nat) : State :=
  if 4 ≤ die then s
  else
    let s := apPut s 0xB000 (8 * die) 8 (min temp 255)
    let s := if 110 ≤ temp then trip s else s
    if 125 ≤ temp then { s with powered := false } else s
/-- THERMAL_TRIP (R424). -/
def execThermalTrip (die temp : Nat) (s : State) : Host.Outcome State Fault Refusal := .next (readTemp s die temp)
/-- A write to THERM: TRIP is cleared, and issue resumes, unless a die reads 100 °C or more. -/
def thermWrite (s : State) (v : DWord) : State :=
  if v.getLsbD 63 && !anyHot s 100 then apPut { s with tripped := false } 0xB000 63 1 0 else s
/-- TRIP_CLEAR (R424): a write of 1 to TRIP. -/
def execTripClear (v : DWord) (s : State) : Host.Outcome State Fault Refusal := .next (thermWrite s (putBits v 63 1 1))
/-- POWER_REMOVE (R424). -/
def execPowerRemove (die temp : Nat) (s : State) : Host.Outcome State Fault Refusal := .next (readTemp s die (max temp 125))

/-! ## The governor (R342, R343) -/

/-- MATTOK. -/
def matTok (s : State) : Nat := bitsOf (apWord s 0xA000) 0 16
/-- FABTOK. -/
def fabTok (s : State) : Nat := bitsOf (apWord s 0xA000) 16 16
/-- MATFLOOR. -/
def matFloor (s : State) : Nat := bitsOf (apWord s 0xA008) 0 16
/-- FABFLOOR. -/
def fabFloor (s : State) : Nat := bitsOf (apWord s 0xA008) 16 16
/-- Tokens after a move of at most 40 toward the first pool: those no pool holds first, then the other's above its floor. -/
def moveTokens (gain frm floor : Nat) : Nat × Nat :=
  let free := min 40 (1540 - (gain + frm))
  let take := min (40 - free) (frm - floor)
  (gain + free + take, frm - take)
/-- MAT and FAB after an interval. A pool below its floor comes first; equal demands move nothing. -/
def nextTokens (s : State) (mat fab : Nat) : Nat × Nat :=
  let m := matTok s
  let f := fabTok s
  let toMat := moveTokens m f (fabFloor s)
  let toFab := moveTokens f m (matFloor s)
  if m < matFloor s then toMat
  else if f < fabFloor s || mat < fab then (toFab.2, toFab.1)
  else if fab < mat then toMat
  else (m, f)
/-- Throttling (R352): MAT gives up 40 tokens to no pool, down to its floor. -/
def throttled (s : State) (m : Nat) : Nat := m - min 40 (m - matFloor s)
/-- MAT demand: the operation streams that are not empty. -/
def matDemand (s : State) : Nat := (s.cores.filter (fun p => !p.2.stream.isEmpty)).length
/-- FAB demand: the bytes of VC 2 and VC 3 data queued at the ports. -/
def fabDemand (s : State) : Nat := (s.queue.map (fun q => q.bytes)).sum
/-- A governor interval. DESIGN CHOICE (log entry 80): the event says how much an operation stream and a queued byte weigh against each
other, which the spec leaves open. -/
def governor (s : State) (perStream perByte : Nat) (temps : List Nat) : State :=
  let s := ((List.range temps.length).zip temps).foldl (fun s p => readTemp s p.1 p.2) s
  let hot := anyHot s 100
  let n := (bitsOf (apWord s 0xA000) 32 32 + 1) % 2 ^ 32
  let t := if hot then (throttled s (matTok s), fabTok s) else nextTokens s (perStream * matDemand s) (perByte * fabDemand s)
  let s := apSet s 0xA000 (BitVec.ofNat 64 (n * 2 ^ 32 + t.2 * 65536 + t.1))
  if hot then apPut s 0xB000 32 8 (min 255 (bitsOf (apWord s 0xB000) 32 8 + 1)) else s
/-- GOVERNOR_INTERVAL (R342). -/
def execGovernorInterval (perStream perByte : Nat) (temps : List Nat) (s : State) : Host.Outcome State Fault Refusal :=
  .next (governor s perStream perByte temps)
/-- A write to the floors (R343). -/
def floorWrite (s : State) (v : DWord) : State :=
  if bitsOf v 32 32 ≠ 0 || bitsOf v 16 16 < 100 || 1540 < bitsOf v 16 16 + bitsOf v 0 16 then s else apSet s 0xA008 v
/-- GOVERNOR_FLOOR_WRITE (R343). -/
def execGovernorFloorWrite (v : DWord) (s : State) : Host.Outcome State Fault Refusal := .next (floorWrite s v)

end Sys2Proof.Machine
end

