-- ==== Sys2Proof/Machine/Loss.lean ====
section
/-! DEFINITION. Lost packages and their homes (23 R415-R420, 24 R429), memory errors and structure errors (23 R410, R411, R421,
R422), and tenant reset (23 R423). -/

namespace Sys2Proof.Machine

/-! ## Losing a package (R415, R417, R429) -/

/-- Words of a sector are poisoned. -/
def poisonSector (s : State) (x : Nat) : State :=
  { s with ctlBad := delNat (2 * x) (delNat (2 * x + 1) s.ctlBad), ctlPoison := insNat (2 * x) (insNat (2 * x + 1) s.ctlPoison) }
/-- A lost package's agents leave a sector's entry; what it held dirty or as partials is poisoned (R417). -/
def dropFromDir (s : State) (p x : Nat) : State :=
  let d := dirOf s x
  let dirty := match d.owner with
    | some (.pkg q, st) => q == p && st != .e
    | _ => false
  let mine := match d.blend with
    | some b => b.parts.any (fun t => t.1 == p)
    | none => false
  let owner := match d.owner with
    | some (.pkg q, st) => if q == p then none else some (.pkg q, st)
    | o => o
  let d' : Dir := { owner := owner, shared := d.shared.filter (· != .pkg p), t := d.t.filter (· != .pkg p),
                    blend := d.blend.map (fun b => { b with parts := b.parts.filter (fun t => t.1 != p) }) }
  let s := setDir s x d'
  if dirty || mine then poisonSector s x else s
/-- A message of control-space coherence that waits for an answer of package p. -/
def awaitsPkg (p : Nat) : Msg → Bool
  | .home q _ _ => q == p
  | .cadd q _ _ _ _ _ _ => q == p
  | .invalidate q _ => q == p
  | .callHome q _ => q == p
  | _ => false
/-- A waiting write that a lost package had asked for. -/
def writerOf (p : Nat) : Writer → Bool
  | .remote r => (match r with
    | .readOwned q _ => q == p
    | .store q _ _ => q == p
    | .cadd q _ _ _ _ => q == p
    | _ => false)
  | .called q _ => q == p
  | _ => false
/-- The packages in the paddock that are asked for what they hold of a lost package's lines (R418). -/
def askStates (s : State) (p : Nat) : State :=
  (List.range 768).foldl (fun s q => if q != ownPkg s && q != p && inPaddock s q && !isLost s q then send s (.query q p) else s) s
/-- The lost package owes no acknowledgement: of a mirror write (R88), so that what waited for it goes on, nor of an ICINV (R297). -/
def mirrorLost (s : State) (p : Nat) : State :=
  let s := { s with icinvOwed := s.icinvOwed.filter (fun k => k.2 != p) }
  if p != peerPkg s then s
  else
    let t := s.mirrorThen.foldl (fun s k => send s k.2) { s with mirrorOwed := [], mirrorThen := [], devMade := none }
    match s.devMade with
    | some w => devOver t w
    | none => t
/-- Control-space traffic with a lost package is over: what it owed is taken as received, and its entries and requests go (R417). -/
def lossCoherence (s : State) (p : Nat) : State :=
  let s := mirrorLost ((s.dir.map (·.1)).foldl (fun s x => dropFromDir s p x) s) p
  { s with
    regions := s.regions.foldl (fun m r => mapSet [] m r.1 (delNat p r.2)) [],
    heldWrites := (s.heldWrites.filter (fun h => !writerOf p h.writer)).map (fun h => { h with
      invalidate := h.invalidate.filter (· != .pkg p), owed := h.owed.filter (· != .pkg p) }),
    out := s.out.filter (fun m => !awaitsPkg p m), waitOut := s.waitOut.filter (fun m => !awaitsPkg p m), arrived := s.arrived.filter (fun k => k.1 != p) }
/-- Package p is lost: what this package does in that cycle; its peer begins the rebuild (R418). -/
def lossApply (s : State) (p : Nat) : State :=
  if 767 < p || p == ownPkg s || isLost s p then s
  else
    let s := lossCoherence (apPut s (0xF000 + 8 * (p / 64)) (p % 64) 1 1) p
    let s := { s with early := s.early.filter (fun q => !(q.pkg == p && isClosed s q.ctx q.c)) }
    let s := if p == peerPkg s then askStates (apPut s 0xF068 63 1 1) p else s
    let s := breakBinds (abandonFlights s p 0x149) p 0x149
    let s := drainDev (s.devWrites.length + 1) s
    sendEach s (((List.range 768).filter (· != ownPkg s)).map (fun q => .lossNotice q p))
/-- DECLARE_LOST (R415): a write to LOSTSET with GO. -/
def execDeclareLost (v : DWord) (s : State) : Host.Outcome State Fault Refusal := .next (lossApply s (bitsOf v 0 10))
/-- LOSS_REQUEST_TIMEOUT (R429). -/
def execLossRequestTimeout (pkg : Nat) (s : State) : Host.Outcome State Fault Refusal := .next (lossApply s pkg)
/-- SWITCH_LINKS_DOWN (R429). -/
def execSwitchLinksDown (pkg : Nat) (s : State) : Host.Outcome State Fault Refusal := .next (lossApply s pkg)
/-- This package is named lost: every core stops issuing as under HALT, and nothing more is sent until module reset. -/
def ownLoss (s : State) : State := { s with lost := true, cores := s.cores.map (fun p => (p.1, { p.2 with issueq := [] })) }
/-- LOSS_NOTICE (R429). -/
def execLossNotice (pkg : Nat) (s : State) : Host.Outcome State Fault Refusal :=
  .next (if pkg == ownPkg s then ownLoss s else lossApply s pkg)
/-- Rebuild status as read (R415): NOMIRR while the peer is lost. -/
def rebuildRead (s : State) : DWord := putBits (apWord s 0xF068) 61 1 (if isLost s (peerPkg s) then 1 else 0)
/-- A write to the rebuild status word: DONE is cleared by writing 1. -/
def rebuildWrite (s : State) (v : DWord) : State := if v.getLsbD 62 then apPut s 0xF068 62 1 0 else s
/-- This package's agents drop a sector: its data, and what they derived from it. -/
def dropHere (s : State) (x : Nat) : State :=
  let s := { setLines (setHold s x none) x [] with tlb := s.tlb.filter (fun p => p.2 != x), tHeld := delNat x s.tHeld }
  (s.cores.map (·.1)).foldl (fun s n => dropFetched s n x) s
/-- A surviving copy that is newer than the home (R418). -/
def keepsData (h : Option CState) : Bool := h == some .m || h == some .o
/-- The data of a lost package's lines (R418): a surviving M or O holder's copy, and the mirror value of the rest. -/
def rebuiltData (s : State) (p : Nat) (copies : List HeldCopy) : State :=
  let here := fun (x : Nat) => x / 2 ^ 27 != p || keepsData (holdOf s x)
  let s := { s with
    ctl := s.mirror.foldl (fun m c => let a := p * 2 ^ 33 + c.1; if here (a / 64) then m else memSetByte m a c.2)
      (s.ctl.filter (fun c => here (c.1 / 64))),
    ctlPoison := s.mirrorPoison.foldl (fun l w => let n := p * 2 ^ 28 + w; if here (n / 2) then l else insNat n l)
      (s.ctlPoison.filter (fun n => here (n / 2))),
    ctlBad := s.mirrorBad.foldl (fun l w => let n := p * 2 ^ 28 + w; if here (n / 2) then l else insNat n l)
      (s.ctlBad.filter (fun n => here (n / 2))), mirror := [], mirrorPoison := [], mirrorBad := [] }
  (copies.filter (fun c => keepsData c.state)).foldl (fun s c =>
    setMarks { s with ctl := memSetBytes s.ctl (64 * c.sector) (c.data.take 64) } c.sector c.marks) s
/-- A holder takes its place in the directory of the new home. -/
def rebuiltDir (s : State) (c : HeldCopy) : State :=
  let d := dirOf s c.sector
  let ag := Agent.pkg c.pkg
  let t := if c.t && !d.t.contains ag then d.t ++ [ag] else d.t
  let s := { s with regions := mapSet [] s.regions (c.sector / 32) (insNat c.pkg (mapGet [] s.regions (c.sector / 32))) }
  setDir s c.sector (match c.state with
    | some .s => { d with t := t, shared := d.shared ++ [ag] }
    | some st => { d with t := t, owner := some (ag, st) }
    | none => { d with t := t })
/-- A sector whose last value no one has: poisoned, and every surviving copy invalidated (R418). -/
def rebuiltLost (s : State) (copies : List HeldCopy) (x : Nat) : State :=
  let s := setDir (dropHere (poisonSector s x) x) x ⟨none, [], [], none⟩
  callBack s x ((copies.filter (fun c => c.sector == x)).map (fun c => Agent.pkg c.pkg))
/-- Pins of this package on a lost package's lines are placed at the new home (R438). -/
def movePins (s : State) (p : Nat) : State :=
  (insAll ((s.binds.map (fun b => b.pins.filter (fun x => x / 2 ^ 27 == p))).flatten) []).foldl (fun s x => send s (.pin (homeOf s x) x true)) s
/-- The lines of a lost package are rebuilt at its peer (R418) from what the surviving packages report; the other packages only learn
that its home is now there. -/
def rebuildHome (s : State) (p : Nat) (copies : List HeldCopy) : State :=
  if !isLost s p || s.rebuilt.contains p || isLost s (mirrorOf s p) then s
  else if p != peerPkg s then movePins { s with rebuilt := insNat p s.rebuilt } p
  else
    let copies := copies.filter (fun c => c.sector / 2 ^ 27 == p && c.pkg != ownPkg s && !isLost s c.pkg)
    let gone := s.dl.filter (fun x => x / 2 ^ 27 == p && !keepsData (holdOf s x) && !copies.any (fun c => c.sector == x && keepsData c.state))
    let t := rebuiltData s p copies
    let t := { t with hold := t.hold.filter (fun h => h.1 / 2 ^ 27 != p), tHeld := t.tHeld.filter (fun x => x / 2 ^ 27 != p) }
    let t := (copies.filter (fun c => !gone.contains c.sector)).foldl rebuiltDir t
    let t := gone.foldl (fun t x => rebuiltLost t copies x) t
    let t := { t with dl := t.dl.filter (fun x => x / 2 ^ 27 != p), rebuilt := insNat p t.rebuilt }
    drainDev (t.devWrites.length + 1) (apSet t 0xF068 (BitVec.ofNat 64 (2 ^ 62 + p * 2 ^ 32 + gone.length % 2 ^ 32)))
/-- HOME_REBUILD (R418): requests held at the lost home go on. -/
def execHomeRebuild (pkg : Nat) (copies : List HeldCopy) (s : State) : Host.Outcome State Fault Refusal :=
  .next (rebuildHome s pkg copies)

/-! ## Memory errors (R410, R411) -/

/-- The word or register of a site is marked poisoned. -/
def poisonSite (s : State) : EccSite → State
  | .ctl w => { s with ctlBad := delNat w s.ctlBad, ctlPoison := insNat w s.ctlPoison }
  | .ten w => { s with tenBad := delNat w s.tenBad, tenPoison := insNat w s.tenPoison }
  | .spad c w => modCore s c (fun k => { k with spadBad := delNat w k.spadBad, spadPoison := insNat w k.spadPoison })
  | .reg c i => modCore s c (fun k => { k with rfPoison := insNat i k.rfPoison })
  | .acc c i => modCore s c (fun k => { k with accBad := insNat i k.accBad })
/-- A clean cached copy is dropped and fetched again; a scratchpad, a register or an accumulator element has no other copy. -/
def dropCopy (s : State) : EccSite → State
  | .ctl w => setLines s (w / 2) ((linesOf s (w / 2)).filter (fun k => k.2 == .m || k.2 == .o))
  | .ten w => { s with cores := s.cores.map (fun p => (p.1, { p.2 with l1 := p.2.l1.filter (fun l => l.line != w / 2) })) }
  | site => poisonSite s site
/-- A word's contents change unseen: its sillage no longer fits. -/
def silentSite (s : State) : EccSite → State
  | .ctl w => { s with ctlBad := insNat w s.ctlBad }
  | .ten w => { s with tenBad := insNat w s.tenBad }
  | .spad c w => modCore s c (fun k => { k with spadBad := insNat w k.spadBad })
  | .reg _ _ => s
  | .acc _ _ => s
/-- A saturating counter in 32 bits of ECCCNT. -/
def countEcc (s : State) (lo : Nat) : State := apPut s 0xF300 lo 32 (min (2 ^ 32 - 1) (bitsOf (apWord s 0xF300) lo 32 + 1))
/-- A memory error. -/
def eccError (s : State) : EccEvent → State
  | .corrected => countEcc s 32
  | .clean site => countEcc (dropCopy s site) 0
  | .dirty site => countEcc (poisonSite s site) 0
  | .silent site => silentSite s site
/-- ECC_ERROR (R411). -/
def execEccError (e : EccEvent) (s : State) : Host.Outcome State Fault Refusal := .next (eccError s e)

/-! ## Structure errors (R421, R422) -/

/-- A structure error reaches one tenant: its STRERR word, and a record that holds no lane. -/
def structErr (s : State) (t kind unit effect : Nat) : State :=
  let o := 0xF100 + 8 * t
  let w := apWord s o
  let s := if w.getLsbD 63 then apPut s o 62 1 1
    else apSet s o (BitVec.ofNat 64 (2 ^ 63 + kind % 16 * 2 ^ 40 + unit % 1024 * 2 ^ 30 + effect % 4))
  let core := if kind = 2 || kind = 8 then unit else 288
  let rec_ : TrapRec := ⟨t, 0, [BitVec.ofNat 64 (core * 2 ^ 39 + 0x184 * 2 ^ 20 + 2 ^ 16), 0, 0, 0, 0]⟩
  if (trapBase s t).getLsbD 63 then { s with trapWait := s.trapWait ++ [rec_] } else s
/-- A write to STRERR of tenant t: V and OVER are cleared by writing 1. -/
def strerrWrite (s : State) (t : Nat) (v : DWord) : State :=
  let o := 0xF100 + 8 * t
  let s := if v.getLsbD 63 then apPut s o 63 1 0 else s
  if v.getLsbD 62 then apPut s o 62 1 0 else s
/-- A collective whose packets or work an error has taken fails as a whole (KIND 5 and 6); where it is not open here, at the member
`pkg` whose packet was parked (R436). -/
def failColl (s : State) (ctx c : Nat) (pkg : Option Nat) : State :=
  let away := match pkg with
    | some p => if memberGone s p then s else sendPlain s ctx 0 (.cancel p ctx c)
    | none => s
  match bindOf s ctx c with
  | some b => if b.st == .closed then away else failWhole s b 0x14A 0
  | none => away
/-- The address at which an errored copy failed: the lowest element not yet performed (R404). -/
def copyAddr (o : AOp) : DWord := match o.kind with
  | .copy _ w =>
    let n := ((List.range (min (copyCount w) 65536)).find? (fun n => !o.done.contains n)).getD 0
    (srcAddr w n).getD (dstAddr w n)
  | _ => 0
/-- A line of a memory-side L2 slice fails: it leaves the slice, and a dirty one is written back poisoned. -/
def dropL2Line (s : State) (line : Nat) : State :=
  let b := line % 64
  let hit := s.l2.filter (fun k => k.1 / 16 == line / 64)
  let s := { s with l2 := hit.foldl (fun l k => mapSet (0, 0) l k.1 (minus k.2.1 (bit1 b), minus k.2.2 (bit1 b))) s.l2 }
  if hit.any (fun k => bitAt k.2.2 b) then poisonSite (poisonSite s (.ten (2 * line))) (.ten (2 * line + 1)) else s
/-- A line of the control-core L2 fails: it leaves that cache, a dirty one poisoned. -/
def dropCtlLine (s : State) (x : Nat) : State :=
  let dirty := (linesOf s x).any (fun k => k.1 == 288 && (k.2 == .m || k.2 == .o))
  giveUp (if dirty then poisonSector s x else s) 288 x
/-- The directory has lost the entry of a sector homed here: every copy is invalidated, and its data are poisoned where there may
have been a dirty holder (M, O, E, which becomes M silently, or Blend). -/
def dropDirEntry (s : State) (x : Nat) : State :=
  let d := dirOf s x
  let dirty := d.blend.isSome || d.owner.isSome || (holdOf s x).isSome
  let s := callBack (setDir (dropHere s x) x ⟨none, [], [], none⟩) x (regionPkgs s x)
  if dirty then poisonSector s x else s
/-- What an uncorrectable error leaves behind in a structure (R421): `hit` are the words, sectors or bindings of the failing set. -/
def structEffect (s : State) (kind unit : Nat) (hit : List Nat) : State :=
  if kind = 0 then hit.foldl (fun s w => if sliceOf (32 * w) == unit then dropL2Line s (w / 2) else s) s
  else if kind = 1 then { s with tlb := s.tlb.filter (fun p => p.1 != .slice unit) }
  else if kind = 2 then
    (s.aops.filter (fun o => o.core == unit && o.st == .pending && (match o.kind with
      | .copy _ _ => true
      | _ => false))).foldl (fun s o => elemFail s o.id 0x181 (copyAddr o)) s
  else if kind = 3 then hit.foldl (fun s x => if isOurs s x then dropDirEntry s x else s) s
  else if kind = 4 then hit.foldl (fun s w => dropCtlLine s (w / 2)) s
  else if kind = 5 then
    s.early.foldl (fun s p => failColl s p.ctx p.c (some p.pkg)) { s with early := [] }
  else if kind = 6 then hit.foldl (fun s n => failColl s (n / 4) (n % 4) none) s
  else s
/-- A structure error and its blast set; an L2 translation cache and the early-arrival store are emptied by it, which clears their bits. -/
def structureError (s : State) (kind unit effect : Nat) (hit : List Nat) : State :=
  let blast := mapGet 0 s.owned (kind * 1024 + unit)
  let s := (natsWhere 12 (fun t => blast.testBit t)).foldl (fun s t => structErr s t kind unit effect) (structEffect s kind unit hit)
  if kind = 1 || kind = 5 then { s with owned := mapSet 0 s.owned (kind * 1024 + unit) 0 } else s
/-- STRUCTURE_ERROR (R422). -/
def execStructureError (kind unit effect : Nat) (hit : List Nat) (s : State) : Host.Outcome State Fault Refusal :=
  .next (structureError s kind unit effect hit)

/-! ## Tenant reset (R423) -/

/-- The tenant's cores. -/
def tenantCores (s : State) (t : Nat) : List Nat := natsWhere 288 (inPartition s t)
/-- Steps 1 and 2: queues emptied and placement stopped; every lane on the tenant's cores is killed, and its saved contexts are
discarded. -/
def resetLanes (s : State) (t : Nat) (cores : List Nat) : State :=
  let qs := natsWhere 64 (fun q => bitsOf (wqCfg s q) 24 4 == t && (wqCfg s q).getLsbD 31)
  let s := qs.foldl (fun s q =>
    let s := (wqOf s q).items.foldl (fun s x => match x.launch with
      | some o => endAop s o .idle
      | none => s) s
    setWq (setItems s q []) q { wqOf s q with items := [], current := none }) s
  let s := { s with saved := s.saved.filter (fun v => !cores.contains v.core), preempts := s.preempts.filter (fun p => !cores.contains p.core) }
  (s.groups.filter (fun g => cores.contains g.core)).foldl (fun s g => settle (endLanes s g.gid g.live) g.team) s
/-- Step 4: the tenant's open collectives fail, also at their other members; packets already started are sent and acknowledged, and no
new one starts. -/
def resetColls (s : State) (t : Nat) : State :=
  let mine := fun (ctx : Nat) => tenantOf s (BitVec.ofNat 16 ctx) == some t
  let s := (s.binds.filter (fun b => mine b.ctx && b.st != .closed)).foldl (fun s b => shutBind (sendCancels s b) b.ctx b.c) s
  let left := s.queue.filter (fun q => q.tenant == t)
  { s with
    queue := s.queue.filter (fun q => q.tenant != t),
    collSent := s.collSent.filter (fun k => !left.any (fun q => match q.msg with
      | .coll pkg p => p.ctx == k.ctx && p.c == k.c && p.chunk == k.chunk && pkg == k.way.pkg
      | _ => false)),
    early := s.early.filter (fun p => !mine p.ctx), retries := s.retries.filter (fun r => !mine r.1.ctx) }
/-- Step 3: operations and handles of those teams go, stores already made stay. -/
def resetOps (s : State) (t : Nat) (cores : List Nat) : State :=
  let dead := (s.aops.filter (fun o => cores.contains o.core)).map (·.id)
  let stays := fun (k : OpKind) => match k with
    | .store => true
    | .atom _ => true
    | .cadd _ => true
    | _ => false
  { s with
    aops := s.aops.filter (fun o => !dead.contains o.id),
    ops := (s.ops.filter (fun o => !cores.contains o.core || stays o.kind)).map (fun o =>
      if cores.contains o.core then { o with dropped := true } else o),
    heldWrites := s.heldWrites.filter (fun h => match h.writer with
      | .element o _ => !dead.contains o
      | _ => true),
    teams := (s.teams.filter (fun x => !cores.contains x.core)).map (fun x => { x with ops := x.ops.filter (fun o => !dead.contains o) }),
    groups := s.groups.filter (fun g => !cores.contains g.core),
    grids := s.grids.filter (fun d => d.tenant != t || d.control),
    trapWait := s.trapWait.filter (fun r => r.tenant != t), openRecs := s.openRecs.filter (fun r => r.tenant != t),
    kills := s.kills.filter (fun k => !cores.contains k.core) }
/-- Step 5: a core's arrays and caches are cleared. -/
def clearCore (c : Core) : Core :=
  { c with aown := 0, rf := [], rfPoison := [], spad := [], spadPoison := [], spadBad := [], acc := [], accBad := [], bundles := [],
           issueq := [], icache := [], l1 := [], owner := none, released := false, fifo := [], stream := [], moves := [] }
/-- A core's L1 gives up its lines of control space. -/
def giveUpAll (s : State) (core : Nat) : State :=
  (s.lines.map (·.1)).foldl (fun s x => giveUp s core x) s
/-- Step 5 on the tenant's cores and slices, and step 6. The model's choice (log entry 57): dirty lines of control space in an L1 that is
cleared go home first. -/
def resetCores (s : State) (t : Nat) (cores : List Nat) : State :=
  let s := cores.foldl (fun s n => modCore (giveUpAll s n) n clearCore) s
  let s := { s with
    tlb := s.tlb.filter (fun p => match p.1 with
      | .core n => !cores.contains n
      | .slice k => !cores.contains (24 * k)
      | _ => true),
    l2 := s.l2.filter (fun k => k.1 % 16 != t),
    owned := s.owned.foldl (fun m p => mapSet 0 m p.1 (p.2 - p.2 % 2 ^ (t + 1) / 2 ^ t * 2 ^ t)) [] }
  apPut (apPut (apSet s (0xF100 + 8 * t) 0) (0xD000 + 8 * t) 62 1 0) (0xF200 + 8 * t) 61 1 1
/-- The reset of a tenant, all six steps. -/
def tenantReset (s : State) (t : Nat) : State :=
  if 12 ≤ t || (partition s t).isNone then s
  else
    let cores := tenantCores s t
    resetCores (resetOps (resetColls (resetLanes s t cores) t) t cores) t cores
/-- A write to TRST of tenant t: DONE is cleared by writing 1, and GO starts the reset. -/
def trstWrite (s : State) (t : Nat) (v : DWord) : State :=
  let s := if v.getLsbD 61 then apPut s (0xF200 + 8 * t) 61 1 0 else s
  if v.getLsbD 63 then tenantReset s t else s
/-- TENANT_RESET (R423): a write to TRST with GO. -/
def execTenantReset (t : Nat) (v : DWord) (s : State) : Host.Outcome State Fault Refusal := .next (trstWrite s t (putBits v 63 1 1))

end Sys2Proof.Machine
end

