-- ==== Sys2Proof/Machine/Aperture.lean ====
section
/-! DEFINITION. The management aperture (16 R345): what a read of each word answers and what a write to it does. A read-only
word and an offset that no chapter assigns ignore writes; fields follow the access codes of 00 R6. -/

namespace Sys2Proof.Machine

/-- The value a read of an aperture word returns. -/
def apRead (s : State) (off : Nat) : DWord :=
  if off = 0x8060 then padstatRead s
  else if off = 0x120 then areqRead s
  else if off = 0xE000 then xresRead s
  else if off = 0xF068 then rebuildRead s
  else if 0x10000 ≤ off ∧ off < 0x10080 ∧ off % 32 = 24 then dstatRead s ((off - 0x10000) / 32)
  else apWord s off
/-- A write to a vector word of tenant t (R320): j is the word. -/
def vectorWrite (s : State) (t j : Nat) (v : DWord) : State :=
  let o := 0x6000 + 32 * t + 8 * j
  if j = 0 then apSet s o (BitVec.ofNat 64 (bitsOf v 0 4))
  else if j = 1 then apSet s o (apWord s o &&& ~~~v)
  else if j = 2 then (if v.getLsbD 63 then apPut s o 63 1 0 else s)
  else s
/-- A write to a fabric weight (R331): ignored with a nonzero RSV bit. -/
def weightWrite (s : State) (t : Nat) (v : DWord) : State := if bitsOf v 8 56 ≠ 0 then s else apSet s (0x9000 + 8 * t) v
/-- A write to a word of a debug channel (R287): j is the word. -/
def debugWrite (s : State) (c j : Nat) (v : DWord) : State :=
  let o := 0x10000 + 0x20 * c + 8 * j
  if j = 0 then dctlWrite s c v
  else if j = 1 then apSet s o (BitVec.ofNat 64 (bitsOf v 16 48 * 65536 + bitsOf v 8 4 * 256 + bitsOf v 0 6))
  else if j = 2 then apSet s o (BitVec.ofNat 64 (bitsOf v 2 46 * 4))
  else (if v.getLsbD 63 then apPut s o 63 1 0 else s)
/-- A write to an aperture word. -/
def apWrite (s : State) (off : Nat) (v : DWord) : State :=
  if off % 8 ≠ 0 then s
  else if off = 0 then bootcfgWrite s v
  else if 0x100 ≤ off ∧ off < 0x120 then apSet s off v
  else if off = 0x120 then areqWrite s v
  else if 0x1000 ≤ off ∧ off < 0x1060 then partitionWrite s ((off - 0x1000) / 8) v
  else if 0x2000 ≤ off ∧ off < 0x2200 then wqcfgPut s ((off - 0x2000) / 8) v
  else if 0x2400 ≤ off ∧ off < 0x2800 then
    (if off % 16 = 0 then hostItem s ((off - 0x2400) / 16) v else hostWord1 s ((off - 0x2400) / 16) v)
  else if 0x4000 ≤ off ∧ off < 0x5300 then
    (if off % 16 = 0 then preWrite s ((off - 0x4000) / 16) v else preArea s ((off - 0x4000) / 16) v)
  else if 0x6000 ≤ off ∧ off < 0x6180 then vectorWrite s ((off - 0x6000) / 32) (off % 32 / 8) v
  else if 0x8000 ≤ off ∧ off < 0x8060 then paddockWrite s ((off - 0x8000) / 8) v
  else if off = 0x8060 then padstatWrite s v
  else if 0x9000 ≤ off ∧ off < 0x9060 then weightWrite s ((off - 0x9000) / 8) v
  else if off = 0xA008 then floorWrite s v
  else if off = 0xB000 then thermWrite s v
  else if 0xC000 ≤ off ∧ off < 0xC980 then killWrite s ((off - 0xC000) / 8) v
  else if 0xD000 ≤ off ∧ off < 0xD060 then trapbaseWrite s ((off - 0xD000) / 8) v
  else if off = 0xE000 then xresWrite s v
  else if off = 0xF060 then (if v.getLsbD 63 then lossApply s (bitsOf v 0 10) else s)
  else if off = 0xF068 then rebuildWrite s v
  else if 0xF100 ≤ off ∧ off < 0xF160 then strerrWrite s ((off - 0xF100) / 8) v
  else if 0xF200 ≤ off ∧ off < 0xF260 then trstWrite s ((off - 0xF200) / 8) v
  else if 0x10000 ≤ off ∧ off < 0x10080 then debugWrite s ((off - 0x10000) / 32) (off % 32 / 8) v
  else if 0x12000 ≤ off ∧ off < 0x12240 ∧ off % 16 = 8 then portWrite s ((off - 0x12000) / 16) v
  else s
/-- APERTURE_REGISTER_WRITE (R345). -/
def execApertureRegisterWrite (off : Nat) (v : DWord) (s : State) : Host.Outcome State Fault Refusal := .next (apWrite s off v)

/-- Bytes of a place as they stand, an aperture word as it reads. -/
def placeRead (s : State) (p : Place) (n : Nat) : List Byte := match p with
  | .ap off => leBytes n (apRead s off).toNat
  | _ => placeBytes s p n
/-- A write of bytes to a place, made by a core under a context: an aperture word by its own rules. -/
def placeWrite (s : State) (core : Nat) (ctx : BitVec 16) (p : Place) (bs : List Byte) : State := match p with
  | .ap off => apWrite s off (BitVec.ofNat 64 (leNat bs))
  | _ => placePut s core ctx p bs

end Sys2Proof.Machine
end

