-- ==== Sys2Proof/Machine/Perform.lean ====
section
/-! DEFINITION. When the accesses of lanes are performed (04 R82-R90, 10 R214-R223, 13 R293-R300, 23 R412): LOAD_RESULT,
STORE_PERFORMED, WINDOW_ACCESS_ARRIVAL and RATOM_RESULT. -/

namespace Sys2Proof.Machine

/-! ## Reading (R83, R214, R295) -/

/-- Everything an access follows as a whole has been performed (R294). -/
def followed (s : State) (o : MemOp) : Bool := o.after.all (gone s) && o.near.all (nearOver s)
/-- So has everything that one lane of it follows: the same lane of earlier accesses. -/
def accFollowed (s : State) (o : MemOp) (a : Acc) : Bool :=
  followed s o && a.after.all (fun i => match opOf s i with
    | some b => b.accs.all (fun x => x.done || x.lane != a.lane)
    | none => true)
/-- The bytes a load of a core takes from a place: a line held in L1 may serve it; otherwise memory does (R214). -/
def loadBytes (s : State) (core : Nat) (cg : Bool) (p : Place) (n : Nat) : List Byte :=
  match p, l1Line s core cg p with
  | .ten a, some l => (l.bytes.drop (a % 64)).take n
  | q, _ => placeRead s (canonPlace core q) n
/-- What the read leaves, made under a context: its Blend sector merged, and, when memory answered, no older line in the core's L1, which
a cacheable load fills. -/
def loadLeaves (s : State) (core : Nat) (ctx : BitVec 16) (cg : Bool) (p : Place) : State :=
  if (l1Line s core cg p).isSome then s
  else match p with
    | .ten a => let s := l2Touch s a 1 false (tagOf s ctx); if cg then dropStale s core else fillLine s core (a / 64)
    | .ctl a => let s := dropStale (mergeBlend s (a / 64)) core; if cg then s else fillCtl s core (a / 64)
    | _ => dropStale s core
/-- Stores outside control space that a lane reads before every agent sees them: its own earlier ones, and those that are performed for
its core only. What is ordered after the read is ordered after them (R299). -/
def readsEarly (s : State) (o : MemOp) (a : Acc) : List Nat :=
  if isCtl a.at_ then []
  else (s.ops.filter (fun q => q.core == o.core && isPlainStore q.kind && q.accs.any (fun c => !c.done &&
    ((q.gid == o.gid && c.lane == a.lane && q.id < o.id) || c.reached) && placeMeets q.core c.at_ c.size o.core a.at_ a.size))).map (·.id)
/-- One lane's load: its access with the value and its own earlier stores on top (R295). -/
def loadLane (s : State) (o : MemOp) (cg : Bool) (a : Acc) : Acc :=
  let v := leNat (ownOver s o.core o.gid (bit1 a.lane) o.id a.at_ (coreOver s o.core a.at_ (loadBytes s o.core cg a.at_ a.size)))
  { a with data := BitVec.ofNat 64 v, done := true }
/-- Lanes of one load that read the same address read one value (R217): a store of one of them that only it would see comes
first. -/
def sharedWait (s : State) (o : MemOp) : Bool :=
  o.accs.any (fun a => !a.done && o.accs.any (fun b => b.lane != a.lane && canonPlace o.core b.at_ == canonPlace o.core a.at_ &&
    s.ops.any (fun q => q.gid == o.gid && isPlainStore q.kind && q.id < o.id && q.accs.any (fun c =>
      !c.done && c.lane == b.lane && placeMeets o.core c.at_ c.size o.core a.at_ a.size))))
/-- A control line that another package owns, or whose home is being rebuilt: its read waits (R86, R417). -/
def readWaits (s : State) (a : Acc) : Option Nat := match a.at_ with
  | .ctl p => if ownedAway s (p / 64) || homeState s p == some (.held (p / 64)) then some (p / 64) else none
  | _ => none
/-- The home of a control address is lost for good (R419). -/
def homeGone (s : State) (a : Acc) : Bool := match a.at_ with
  | .ctl p => homeState s p == some (.fault 0x183)
  | _ => false
/-- The lanes of some accesses that meet a cause when they are to be performed, with the code and address of the lowest (R368). -/
def lateFault (as : List Acc) (bad : Acc → Option Cause) : Option (Mask × Cause × DWord) :=
  match (as.filterMap (fun a => (bad a).map (fun c => (a, c)))) with
  | [] => none
  | p :: ps =>
    let low := ps.foldl (fun (q r : Acc × Cause) => if r.1.lane < q.1.lane then r else q) p
    some ((p :: ps).foldl (fun m r => m ||| bit1 r.1.lane) 0, low.2, low.1.va)
/-- What a load meets in a lane: a home that is lost (R419), or a word that is poisoned or fails its check now (R413). -/
def loadMeets (s : State) (o : MemOp) (cg : Bool) (a : Acc) : Option Cause :=
  if a.done then none else if homeGone s a then some 0x183 else loadBad s o.core cg a.at_ a.size

/-! ## Translating again (R81, R85) -/

/-- What a translation of an access is for; LD.NR passes over a non-resident leaf (R91). -/
def useOf (s : State) (o : MemOp) : Use :=
  if !isLoadKind o.kind then .store
  else if s.groups.any (fun g => g.pend.any (fun w => w.tok == o.id && (match w.dst with
    | .m _ => true
    | _ => false))) then .loadNr
  else .load
/-- An access with its new translation; LD.NR's lane reads zero where the leaf is not resident. -/
def renewAcc (s : State) (g : Group) (o : MemOp) (a : Acc) (x : Xlat) : Acc :=
  let b := { a with at_ := x.at_, sectors := x.sectors, stale := false, done := x.nonRes, data := if x.nonRes then 0 else a.data }
  { b with after := insAll (laneAfter { s with ops := s.ops.filter (fun q => q.id < o.id) } g o.kind b) a.after }
/-- The mask bits of LD.NR's lanes that turn out not resident. -/
def renewBits (o : MemOp) (nr : Mask) (g : Group) : Group :=
  { g with pend := g.pend.map (fun w => match w.dst with
      | .m _ => if w.tok == o.id then { w with vals := w.vals.map (fun v => (v.1, v.2 ||| nr)) } else w
      | _ => w) }
/-- Accesses of the lanes m whose translation was dropped while they waited are translated again (R85): the access goes on (`some`); or
the walk waits, or lanes raise its fault (R366). -/
def renew (s : State) (o : MemOp) (m : Mask) : State × Option MemOp :=
  let as := o.accs.filter (fun a => a.stale && !a.done && bitAt m a.lane)
  let look := fun (a : Acc) => translate s (.core o.core) o.ctx o.kernel (useOf s o) a.va a.size
  if as.isEmpty then (s, some o)
  else match as.findSome? (fun a => match look a with
      | .held x => some x
      | _ => none), lateFault as (fun a => match look a with
      | .fault c => some c
      | _ => none) with
    | some x, _ => (askWalk s x, none)
    | none, some (F, c, va) =>
      let t := as.foldl (fun s a => match look a with
        | .fault _ => faultLeaves s (.core o.core) o.ctx a.va a.size
        | _ => s) s
      ((lateRaise t o F c va).getD s, none)
    | none, none =>
      match s.groups.find? (fun g => opGroup o m g) with
      | none => (s, some o)
      | some g =>
        let o' := { o with accs := o.accs.map (fun a => if !(a.stale && !a.done && bitAt m a.lane) then a else match look a with
          | .ok x => renewAcc s g o a x
          | _ => a) }
        let nr := maskOf ((o'.accs.filter (fun a => a.done && as.any (fun b => b.lane == a.lane))).map (·.lane))
        let s := as.foldl (fun t a => match look a with
          | .ok x => fillT t (.core o.core) x.sectors
          | _ => t) s
        let s := if nr == 0 then s else { s with groups := s.groups.map (renewBits o nr) }
        (setOp s o', some o')
/-- A load's lanes are read and the result is delivered; it comes only when every agent sees the stores that were read, so that nothing
that depends on it comes before them (R299). Lanes that meet a cause now raise it, and the rest go on (R366). -/
def loadArrives (s : State) (o : MemOp) (cg : Bool) : State :=
  match lateFault o.accs (loadMeets s o cg), (o.accs.filterMap (fun a => if a.done then none else readWaits s a)).head? with
  | some (F, c, va), _ =>
    let t := (o.accs.filter (fun a => bitAt F a.lane && !homeGone s a)).foldl (fun t a => markLoad t o.core cg a.at_) s
    (lateRaise t o F c va).getD s
  | none, some x => askData s x
  | none, none =>
    if o.accs.any (fun a => !a.done && isWin a.at_) then s
    else
      let accs := o.accs.map (fun a => if a.done then a else loadLane s o cg a)
      let t := (o.accs.filter (fun a => !a.done)).foldl (fun t a => loadLeaves t o.core o.ctx cg a.at_) s
      let early := ((o.accs.filter (fun a => !a.done)).map (readsEarly s o)).flatten
      if !early.isEmpty then setOp t { o with accs := accs, after := insAll early [] }
      else
        let val := fun l => ((accs.find? (fun a => a.lane == l)).map (·.data)).getD 0
        removeOp (deliver t o.id o.mask val) o
/-- A result that is known only travels; an atomic's old values are there once all its lanes are performed. -/
def resultArrives (s : State) (o : MemOp) : State :=
  let val := fun l => ((o.accs.find? (fun a => a.lane == l)).map (·.data)).getD 0
  if o.kind == .result || o.accs.all (·.done) then removeOp (deliver s o.id o.mask val) o else s
/-- LOAD_RESULT (R83, R151). -/
def loadResult (s : State) (tok : Nat) : State :=
  match opOf s tok with
  | none => s
  | some o0 =>
    if !(followed s o0 && o0.accs.all (fun a => a.done || accFollowed s o0 a)) || (isLoadKind o0.kind && sharedWait s o0) then s
    else match (if isLoadKind o0.kind then renew s o0 o0.mask else (s, some o0)) with
    | (t, none) => t
    | (s, some o) =>
    match o.kind with
      | .load cg => loadArrives s o cg
      | .ldsp => loadArrives s o true
      | .result => resultArrives s o
      | .regs => removeOp (showWrites s o.gid o.mask) o
      | .atom _ => resultArrives s o
      | _ => s
/-- LOAD_RESULT (R83). -/
def execLoadResult (tok : Nat) (s : State) : Host.Outcome State Fault Refusal := .next (loadResult s tok)

/-! ## Writing (R82, R89, R220, R221, R223, R412) -/

/-- A CADD enters or extends Blend (R89): the holder is a package and core; a sector in another format merges first. -/
def caddBlend (s : State) (pkg core fmt a : Nat) (v : DWord) : State :=
  let x := a / 64
  let same := match (dirOf s x).blend with
    | some b => b.fmt == fmt
    | none => false
  let s := if same then s else mergeBlend s x
  let d := dirOf s x
  let b := d.blend.getD ⟨fmt, []⟩
  let el := a % 64 / blendSize fmt
  let mine := fun (p : Nat × Nat × Nat × DWord) => p.1 == pkg && p.2.1 == core && p.2.2.1 == el
  let parts := if b.parts.any mine then b.parts.map (fun p => if mine p then (p.1, p.2.1, p.2.2.1, blendAdd fmt p.2.2.2 v) else p)
    else b.parts ++ [(pkg, core, el, v)]
  let s := if pkg == ownPkg s && !b.parts.any (fun p => p.1 == pkg) then mirrorMark (writeBack s x) x else writeBack s x
  setDir (setLines s x []) x { d with owner := none, shared := [], blend := some { b with parts := parts } }
/-- What a lane's write stores over the old bytes of its place, and the value it returns. -/
def newBytes (o : MemOp) (a : Acc) (old : DWord) : List Byte :=
  leBytes a.size (match o.kind with
    | .atom op => atomNew op old a.data a.data2
    | .cadd fmt => blendAdd fmt old a.data
    | _ => a.data).toNat
/-- The write of a lane is performed at its coherence point; a word that the lanes of one store cover loses its poison with its
last byte (R412). An ATOM of a word that is bad now raises instead (R413). -/
def performLane (s : State) (o : MemOp) (a : Acc) : State :=
  match (if isAtomKind o.kind then lateFault [a] (fun a => placeBad s o.core a.at_ a.size) else none) with
  | some (F, c, va) => (lateRaise (markRead s o.core a.at_) o F c va).getD s
  | none =>
    let old : DWord := BitVec.ofNat 64 (leNat (placeRead (match a.at_ with
      | .ctl p => mergeBlend s (p / 64)
      | _ => s) (canonPlace o.core a.at_) a.size))
    let s := placeWrite s o.core o.ctx a.at_ (newBytes o a old)
    let w := placeWord o.core a.at_
    let whole := isPlainStore o.kind && opCovers o o.core w &&
      o.accs.all (fun b => b.done || b.lane == a.lane || placeWord o.core b.at_ != w)
    let s := if whole then markWord s o.core a.at_ false else s
    let s := if isAtomKind o.kind then dropStale s o.core else s
    laneDone s o (if isAtomKind o.kind then { a with data := old } else a)
/-- Lower lanes of the same instruction that touch a common byte come first (R221, R223). -/
def lowerFirst (o : MemOp) (a : Acc) : Bool :=
  o.accs.any (fun b => b.lane < a.lane && !b.done && placeMeets o.core b.at_ b.size o.core a.at_ a.size)
/-- A lane's write changes no byte of control space. -/
def sameWrite (s : State) (o : MemOp) (a : Acc) : Bool := match a.at_ with
  | .ctl p => newBytes o a (BitVec.ofNat 64 (leNat (ctlBytes s p a.size))) == ctlBytes s p a.size
  | _ => true
/-- A lane's write would change a byte of a pinned sector (R438). -/
def pinned (s : State) (o : MemOp) (a : Acc) : Bool := match a.at_ with
  | .ctl p => pinnedSector s (p / 64) && !sameWrite s o a
  | _ => false
/-- Both homes of a control address are lost while writes to it wait: those lanes raise home-lost (R419). -/
def lostLanes (s : State) (o : MemOp) : State := match lateFault o.accs (fun a => if !a.done && homeGone s a then some 0x183 else none) with
  | some (F, c, va) => (lateRaise s o F c va).getD s
  | none => s
/-- A lane's write to a control sector is made: a CADD goes into Blend, or is an ordinary read-modify-write where an agent held the
sector in T (R82, R89). -/
def ctlMade (s : State) (o : MemOp) (a : Acc) (p : Nat) (t : Bool) : State := match o.kind with
  | .cadd fmt => if t then performLane s o a else laneDone (caddBlend s (ownPkg s) o.core fmt p a.data) o a
  | _ => performLane s o a
/-- A lane's write to a control sector, as far as it can go. A CADD to a home elsewhere is made there. -/
def ctlLane (s : State) (o : MemOp) (a : Acc) (p : Nat) : State :=
  let x := p / 64
  if homeGone s a then lostLanes s o
  else match o.kind, isOurs s x with
    | .cadd fmt, false => if pkgHome s (x / 2 ^ 27) == .rebuilding then s
      else sendOnce s (.cadd (homeOf s x) o.core fmt p a.data o.id a.lane)
    | _, _ => (match writeGate s x (sameWrite s o a) (.lane o.id a.lane) with
      | none => ctlMade s o a p false
      | some t => t)
/-- Another store of the core to a byte of the lane's is performed for the core only: it comes first for every agent. -/
def nearWrite (s : State) (o : MemOp) (a : Acc) : Bool :=
  s.ops.any (fun q => q.core == o.core && q.accs.any (fun c => c.reached && !c.done && (q.id != o.id || c.lane != a.lane) &&
    placeMeets q.core c.at_ c.size o.core a.at_ a.size))
/-- A store is performed for the agents of its own core (R299). -/
def reachLane (s : State) (o : MemOp) (a : Acc) : State :=
  setOp s { o with accs := o.accs.map (fun b => if b.lane == a.lane then { b with reached := true } else b) }
/-- A lane of a store or atomic to tensor memory: a store is performed for its own core first, and then for every agent (R299). -/
def tenLane (s : State) (o : MemOp) (a : Acc) : State :=
  if o.kind == .store && a.reached then performLane s o a
  else if nearWrite s o a then s
  else if o.kind == .store then reachLane s o a
  else performLane s o a
/-- One lane of a store, atomic or CADD (R300). -/
def storeLane (s : State) (id lane : Nat) : State :=
  match opOf s id with
  | none => s
  | some o0 =>
    match o0.accs.find? (fun a => a.lane == lane && !a.done) with
    | none => s
    | some a0 =>
      let writes := match o0.kind with
        | .store => true
        | .stsp => true
        | .atom _ => true
        | .cadd _ => true
        | _ => false
      if !writes || !accFollowed s o0 a0 || lowerFirst o0 a0 then s
      else match renew s o0 (bit1 lane) with
        | (t, none) => t
        | (s, some o) =>
          match o.accs.find? (fun a => a.lane == lane && !a.done) with
          | none => s
          | some a =>
            if !accFollowed s o a || lowerFirst o a then s
            else match a.at_ with
              | .ctl p => ctlLane s o a p
              | .win c _ _ => if o.kind == .store && c != o.core && !a.reached && !nearWrite s o a then reachLane s o a else s
              | .ten _ => tenLane s o a
              | _ => performLane s o a
/-- STORE_PERFORMED (R300). -/
def execStorePerformed (op lane : Nat) (s : State) : Host.Outcome State Fault Refusal := .next (storeLane s op lane)

/-! ## Window accesses (R72, R105) -/

/-- Operations in a core's stream, and moves, that touch a tile (R105). -/
def tileUsers (s : State) (core tile : Nat) : List Nat :=
  let c := coreOf s core
  (c.stream.filter (fun m => (match m.i with
    | .mma _ _ t _ _ => t.toNat == tile
    | .mmaP _ _ t _ _ => t.toNat == tile
    | .mzero _ t => t.toNat == tile
    | .mloada _ t _ => t.toNat == tile
    | .mstorea _ t _ => t.toNat == tile
    | _ => false))).map (·.op) ++
  c.moves.filter (fun id => match aopOf s id with
    | some o => (match o.kind with
      | .tiles _ _ sel => sel.testBit tile
      | _ => false)
    | none => false)
/-- The first operation of a core's stream, or move, that an edge or an arrival places after access or operation `id`: neither it nor
what comes behind it in the stream goes before `id`. -/
def firstAfter (s : State) (core id : Nat) : Option Nat :=
  let fuel := s.ops.length + s.aops.length
  let c := coreOf s core
  let back := fun (after : List Nat) => (reachBack s fuel after).contains id
  ((c.stream.filter (fun m => back m.after)).map (·.op) ++
    c.moves.filter (fun i => match aopOf s i with
      | some o => back (o.after ++ o.deps)
      | none => false)).foldl (fun b i => match b with
    | none => some i
    | some j => some (min i j)) none
/-- A write that reaches a tile waits behind the operations there that touch it (R105), unless they come after it: its record. -/
def tileArrive (s : State) (core tile id : Nat) (w : Writer) : State :=
  let (n, s) := fresh s
  let users := (match firstAfter s core id with
    | some f => (tileUsers s core tile).filter (· < f)
    | none => tileUsers s core tile).filter (· != id)
  { s with tileWrites := (s.tileWrites.filter (tileLive s)) ++ [⟨n, core, tile, w, users⟩] }
/-- The record of a write that waits at a tile. -/
def tileRecord (s : State) (w : Writer) : Option TileWrite := s.tileWrites.find? (fun t => t.writer == w)
/-- The write no longer waits at a tile. -/
def tileLeave (s : State) (w : Writer) : State := { s with tileWrites := s.tileWrites.filter (fun t => t.writer != w) }
/-- A window load of some lanes is performed at the array, the lanes that name one place together (R217); a bad word raises in them
(R411, R413). -/
def windowLoad (s : State) (o : MemOp) (a : Acc) : State :=
  let same := fun (b : Acc) => !b.done && b.at_ == a.at_
  if sharedWait s o || !o.accs.all (fun b => !same b || accFollowed s o b) then s
  else match lateFault (o.accs.filter same) (loadMeets s o true) with
    | some (F, c, va) => (lateRaise (markLoad s o.core true a.at_) o F c va).getD s
    | none => setOp (dropStale s o.core) { o with
        accs := o.accs.map (fun b => if same b then loadLane s o true b else b),
        after := insAll ((o.accs.filter same).map (readsEarly s o)).flatten o.after }
/-- A window store or atomic reaches the target array; to a tile it waits for the operations there that touch it. -/
def windowStore (s : State) (o : MemOp) (a : Acc) (c r off : Nat) : State :=
  let w := Writer.lane o.id a.lane
  if nearWrite s o a then s
  else match tileRecord s w with
    | some t => if t.behind.all (gone s) then performLane (tileLeave s w) o a else s
    | none =>
      if r = 2 ∧ !(tileUsers s c (off / 4096)).isEmpty then tileArrive s c (off / 4096) o.id w
      else performLane s o a
/-- A window access reaches the target core's array. -/
def windowLane (s : State) (id lane : Nat) : State :=
  match opOf s id with
  | none => s
  | some o0 =>
    match o0.accs.find? (fun a => a.lane == lane && !a.done) with
    | none => s
    | some a0 =>
      if !isWin a0.at_ || !accFollowed s o0 a0 || lowerFirst o0 a0 then s
      else match renew s o0 (bit1 lane) with
        | (t, none) => t
        | (s, some o) =>
          match o.accs.find? (fun a => a.lane == lane && !a.done) with
          | none => s
          | some a => match a.at_ with
            | .win c r off => if !accFollowed s o a || lowerFirst o a then s
              else if isLoadKind o.kind then windowLoad s o a
              else windowStore s o a c r off
            | _ => s
/-- WINDOW_ACCESS_ARRIVAL (R105). -/
def execWindowAccessArrival (op lane : Nat) (s : State) : Host.Outcome State Fault Refusal := .next (windowLane s op lane)

/-! ## RATOM (R222, R332) -/

/-- A RATOM lane to the local rank is translated and performed here. -/
def ratomHere (s : State) (o : MemOp) (a : Acc) (op : Nat) : State :=
  match translate s (.core o.core) o.ctx o.kernel .store a.va a.size with
  | .held _ => s
  | .fault c => ratomFail (faultLeaves s (.core o.core) o.ctx a.va a.size) o a c
  | .ok x => (match x.at_ with
    | .ten p => (match tenAtom s (tagOf s o.ctx) p op a.size a.data a.data2 with
      | .error c => ratomFail (markTen s (wordsAt p a.size)) o a c
      | .ok (old, t) => ratomDone (ownMark (fillT t (.core o.core) x.sectors) 0 (sliceOf p) o.ctx) o a old)
    | _ => s)
/-- A RATOM lane is sent to its rank. -/
def ratomSend (s : State) (o : MemOp) (a : Acc) (op : Nat) : State :=
  match route s o.ctx a.va with
  | .held => askRank s o.ctx.toNat (bitsOf a.va 52 10)
  | .fault c => ratomFail (rankLeaves s o.ctx.toNat (bitsOf a.va 52 10)) o a c
  | .ok pkg port ss =>
    let s := setOp (ownMark (fillT s (.port port) ss) 7 port o.ctx) { o with flights := o.flights ++ [⟨a.lane, a.lane, pkg, port, ss⟩] }
    sendRemote s o.id a.lane port pkg o.ctx a.va (.atom op (operandWords a))
/-- A step of a RATOM lane: it is sent, or its answer returns. -/
def ratomStep (s : State) (id lane : Nat) (resp : RemoteResp) : State :=
  match opOf s id with
  | none => s
  | some o =>
    match o.kind, o.accs.find? (fun a => a.lane == lane && !a.done) with
    | .ratom op rank, some a =>
      let out := o.flights.any (fun f => f.idx == lane)
      (match resp with
        | .start =>
          if out || !accFollowed s o a then s
          else if bitsOf a.va 52 10 == rank then ratomHere s o a op else ratomSend s o a op
        | .data bs mark =>
          if !out then s
          else if mark != .good then ratomFail s o a 0x181
          else ratomDone s o a (BitVec.ofNat 64 (leNat (bs.take a.size)))
        | .fail c => if out then ratomFail s o a c else s
        | .ack => s)
    | _, _ => s
/-- RATOM_RESULT (R222). -/
def execRatomResult (op lane : Nat) (resp : RemoteResp) (s : State) : Host.Outcome State Fault Refusal :=
  .next (ratomStep s op lane resp)

end Sys2Proof.Machine
end

