-- ==== Sys2Proof/Machine/Engines.lean ====
section
/-! DEFINITION. The engines at work (10 R232-R236, 11 R246-R258, 12 R285, 04 R92, 10 R228-R229): elements of copies, accumulator
moves, the matrix stream, and page requests. -/

namespace Sys2Proof.Machine

/-! ## Elements of a copy (R235, R236) -/

/-- What a step of an engine finds: it must wait (with what it has sent), a cause, or it goes on. -/
inductive Found1 (α : Type) where
  | wait (s : State)
  | fault (c : Cause)
  | ok (a : α) (s : State)

/-- What the word at a place does to an engine that reads it: a bad one is marked, unless it is moved whole with a check that does not
fit, which is then carried with it (R409, R410, R413). -/
def engineTake (s : State) (core : Nat) (p : Place) (n : Nat) (whole : Bool) (bs : List Byte) : Found1 (List Byte × Bool × Bool) :=
  match placeBad s core p n, whole with
  | some 0x180, true => .ok (bs, false, true) s
  | some _, _ => .ok (bs, true, false) (markRead s core p)
  | none, _ => .ok (bs, false, false) s
/-- Read n bytes for an engine of an operation: the bytes, whether their word is bad, and whether it carries a check that does not fit;
`whole` says that the engine moves the whole word unchanged. A store that its core alone sees yet is waited for: the engine is to see it,
and what follows the read is to follow it (R297, R299). -/
def engineRead (s : State) (o : AOp) (va : DWord) (n : Nat) (whole : Bool) : Found1 (List Byte × Bool × Bool) :=
  match translate s (.core o.core) o.ctx o.kernel .load va (min n 8) with
  | .held y => .wait (askWalk s y)
  | .fault c => .fault c
  | .ok x =>
    let s1 := ownPlace (fillT s (.core o.core) x.sectors) o.core o.ctx x.at_
    if nearMeets s o.core x.at_ n then .wait s
    else match x.at_ with
    | .ctl p =>
      if ownedAway s (p / 64) then .wait (askData s (p / 64))
      else
        let s2 := mergeBlend (dropStale s1 o.core) (p / 64)
        engineTake s2 o.core x.at_ n whole (ctlBytes s2 p n)
    | p =>
      let s2 := match p with
        | .ten a => l2Touch s1 a n false (tagOf s1 o.ctx)
        | _ => s1
      engineTake (dropStale s2 o.core) o.core p n whole (placeRead s2 p n)
/-- The window cells of a written register or accumulator run are marked when their data were bad. -/
def markCells (s : State) (p : Place) (n : Nat) : State := match p with
  | .win c 0 off => modCore s c (fun k => { k with rfPoison := insAll ((List.range ((n + 3) / 4)).map (· + off / 4)) k.rfPoison })
  | .win c 2 off => modCore s c (fun k => { k with accBad := insAll ((List.range ((n + 3) / 4)).map (· + off / 4)) k.accBad })
  | _ => s
/-- A cancelled operation with nothing under way becomes Idle (R237, R285). -/
def cancelOver (s : State) (id : Nat) : State := match aopOf s id with
  | some o =>
    if o.cancelled && quiet o && o.st == .pending then
      settleCore (endAop (modCore s o.core (fun c => { c with moves := delNat id c.moves })) id .idle) o.core
    else s
  | none => s
/-- A word takes contents whose check does not fit. -/
def unfitWord (s : State) (core : Nat) (p : Place) : State := match canonPlace core p with
  | .ctl a => { s with ctlBad := insNat (a / 32) s.ctlBad }
  | .ten a => { s with tenBad := insNat (a / 32) s.tenBad }
  | .win c 1 off => modCore s c (fun k => { k with spadBad := insNat (off / 32) k.spadBad })
  | _ => s
/-- An element is written (R412): a word that the copy's elements cover loses its poison, unless one of them brought some. -/
def elemPut (s : State) (o : AOp) (w : List DWord) (n : Nat) (p : Place) (bs : List Byte) (bad : Bool) : State :=
  let va := dstAddr w n
  let s := placeWrite (dropStale s o.core) o.core o.ctx p bs
  let done := o.done ++ [n]
  let poisoned := if bad then insNat (va.toNat / 32) o.poisoned else o.poisoned
  let s := setAop s { o with done := done, poisoned := poisoned, held := o.held.filter (fun h => h.1 != n),
                             got := o.got.filter (fun h => h.1 != n), flight := o.flight.filter (fun f => f.idx != n) }
  let s := if bad then markCells (markWord s o.core p true) p bs.length
    else if copyCovers w done va then
      let t := markWord s o.core p (poisoned.contains (va.toNat / 32))
      if o.unfit.contains (va.toNat / 32) then unfitWord t o.core p else t
    else s
  cancelOver s o.id
/-- The write of an element waits at its place. -/
def elemHeld (o : AOp) (n : Nat) (bs : List Byte) (bad : Bool) (sectors : List Nat) : AOp :=
  { o with held := o.held ++ [(n, bs, bad, sectors)], got := o.got.filter (fun h => h.1 != n), flight := o.flight.filter (fun f => f.idx != n) }
/-- The write half of an element; while it must wait, nothing changes but what is sent. A store to its bytes that its core alone sees yet
comes first for every agent (R293, R299). -/
def elemWrite (s : State) (o : AOp) (w : List DWord) (n : Nat) (bs : List Byte) (bad : Bool) : State :=
  let va := dstAddr w n
  match translate s (.core o.core) o.ctx o.kernel .store va (descES w) with
  | .held y => askWalk s y
  | .fault c => elemFail (setAop (faultLeaves s (.core o.core) o.ctx va (descES w))
      { o with flight := o.flight.filter (fun f => f.idx != n) }) o.id c va
  | .ok x =>
    let s1 := ownPlace (fillT s (.core o.core) x.sectors) o.core o.ctx x.at_
    if nearMeets s o.core x.at_ bs.length then s
    else match x.at_ with
    | .ctl p =>
      (match writeGate s1 (p / 64) (!bad && ctlBytes s p bs.length == bs) (.element o.id n) with
        | none => elemPut s1 o w n x.at_ bs bad
        | some t => if heldOn t (p / 64) (.element o.id n) then setAop t (elemHeld o n bs bad x.sectors) else t)
    | .win c 2 off =>
      if (tileUsers s c (off / 4096)).isEmpty then elemPut s1 o w n x.at_ bs bad
      else tileArrive (setAop s1 (elemHeld o n bs bad x.sectors)) c (off / 4096) o.id (.element o.id n)
    | p => elemPut s1 o w n p bs bad
/-- Remote elements leave in one packet (R324, R332), at an address whose space is checked first (R67); `n` leads them. -/
def elemSend (s : State) (o : AOp) (n : Nat) (also : List Nat) (va base : DWord) (r : RemoteOp) : State :=
  match spaceCheck va with
  | some c => elemFail s o.id c va
  | none => match route s o.ctx va with
    | .held => askRank s o.ctx.toNat (bitsOf va 52 10)
    | .fault c => elemFail (rankLeaves s o.ctx.toNat (bitsOf va 52 10)) o.id c (xinfoOf c va)
    | .ok pkg port ss =>
      let s := setAop (ownMark (fillT s (.port port) ss) 7 port o.ctx) { o with
        flight := o.flight ++ (n :: also).map (fun k => ⟨k, n, pkg, port, ss⟩), got := o.got.filter (fun h => !(n :: also).contains h.1) }
      sendRemote s o.id n port pkg o.ctx base r
/-- The value of an element goes to its destination: it is written here, or sent with others. -/
def elemOut (s : State) (o : AOp) (w : List DWord) (n : Nat) (bs : List Byte) (bad : Bool) : State :=
  let va := dstAddr w n
  if isRemote s o.ctx va then
    let els := gather o w n bs bad
    elemSend s o n ((els.drop 1).map (fun h => h.1)) va (va &&& ~~~(0xFFF : DWord)) (packet o w els)
  else elemWrite s o w n bs bad
/-- A write of an element waits at an accumulator tile: it is made once what was before it has retired (R105). -/
def elemTile (s : State) (o : AOp) (w : List DWord) (n : Nat) : State :=
  match tileRecord s (.element o.id n), o.held.find? (fun h => h.1 == n) with
  | some t, some (_, bs, bad, _) => if t.behind.all (gone s) then
      elemPut (tileLeave s (.element o.id n)) o w n (.win t.core 2 (bitsOf (dstAddr w n) 0 36)) bs bad else s
  | _, _ => s
/-- Element n is part of a whole aligned 32-byte word that consecutive elements of the copy move unchanged (R409). -/
def movesWord (w : List DWord) (n : Nat) : Bool :=
  let k := 32 / descES w
  let pos := ((srcAddr w n).getD 0).toNat % 32 / descES w
  let src := (srcAddr w n).getD 0 - BitVec.ofNat 64 (pos * descES w)
  let dst := dstAddr w n - BitVec.ofNat 64 (pos * descES w)
  pos ≤ n && n - pos + k ≤ copyCount w && src.toNat % 32 == 0 && dst.toNat % 32 == 0 &&
  (List.range k).all (fun j => srcAddr w (n - pos + j) == some (src + BitVec.ofNat 64 (j * descES w)) &&
    dstAddr w (n - pos + j) == dst + BitVec.ofNat 64 (j * descES w))
/-- An element has its value, and its write is a later step (R235); a check that does not fit is noted for its destination word (R409). -/
def elemGot (s : State) (o : AOp) (w : List DWord) (n : Nat) (bs : List Byte) (bad unfit : Bool) : State :=
  setAop s { o with
    got := o.got ++ [(n, bs, bad)],
    unfit := if unfit then insNat ((dstAddr w n).toNat / 32) o.unfit else o.unfit }
/-- An element starts: its source is read here, or asked for; a fill value goes out at once, or, to another package, waits to be gathered
with others (R332). -/
def elemStart (s : State) (o : AOp) (w : List DWord) (n : Nat) : State :=
  match srcAddr w n with
  | none => if isRemote s o.ctx (dstAddr w n) then elemGot s o w n (fillBytes w) false false else elemOut s o w n (fillBytes w) false
  | some src =>
    if isRemote s o.ctx src then elemSend s o n [] src src (.read (descES w) (movesWord w n))
    else match engineRead s o src (descES w) (movesWord w n) with
      | .wait t => t
      | .fault c => elemFail (faultLeaves s (.core o.core) o.ctx src (min (descES w) 8)) o.id c src
      | .ok (bs, bad, unfit) t => elemGot t o w n bs bad unfit
/-- The flight of an element, and of those gathered with it, is over with nothing written here. -/
def landed (s : State) (o : AOp) (n : Nat) : State := setAop s { o with flight := o.flight.filter (fun f => f.lead != n) }
/-- A step of one element: it starts, or the answer for it returns. -/
def copyStep (s : State) (id i0 i1 i2 i3 : Nat) (resp : RemoteResp) : State :=
  match aopOf s id with
  | none => s
  | some o =>
    match o.kind with
    | .copy _ w =>
      let n := elemNo w i0 i1 i2 i3
      let inside := i0 < descN w 0 && i1 < descN w 1 && i2 < descN w 2 && i3 < descN w 3
      let out := o.flight.any (fun f => f.lead == n)
      let far := remoteEnd s o n
      if !inside then s
      else match resp with
        | .start =>
          if o.st != .pending || o.flight.any (fun f => f.idx == n) || o.done.contains n then s
          else if o.held.any (fun h => h.1 == n) then elemTile s o w n
          else match o.got.find? (fun h => h.1 == n) with
            | some (_, bs, bad) => elemOut s o w n bs bad
            | none => if o.cancelled || !(o.after ++ o.deps).all (gone s) then s else elemStart s o w n
        | .data bs mark =>
          if !out || isRemote s o.ctx (dstAddr w n) then s
          else if o.st != .pending then landed s o n
          else
            let o := { o with unfit := if mark == .unfit then insNat ((dstAddr w n).toNat / 32) o.unfit else o.unfit }
            elemWrite s o w n ((bs ++ List.replicate (descES w) 0).take (descES w)) (mark == .poisoned)
        | .ack =>
          if !out || !isRemote s o.ctx (dstAddr w n) then s
          else if o.st != .pending then landed s o n
          else cancelOver (setAop s { o with
            done := o.done ++ (o.flight.filter (fun f => f.lead == n)).map (fun f => f.idx),
            flight := o.flight.filter (fun f => f.lead != n) }) id
        | .fail c => if !out then s else cancelOver (elemFail (landed s o n) id c (xinfoOf c far)) id
    | _ => s
/-- COPY_ELEMENT (R235). -/
def execCopyElement (op i0 i1 i2 i3 : Nat) (resp : RemoteResp) (s : State) : Host.Outcome State Fault Refusal :=
  .next (copyStep s op i0 i1 i2 i3 resp)
/-- A copy whose every element has been performed is Done. -/
def copyEnd (s : State) (id : Nat) : State :=
  match aopOf s id with
  | none => s
  | some o =>
    match o.kind with
    | .copy _ w => if o.st == .pending && !o.cancelled && quiet o && o.done.length == copyCount w then
        let t := endAop s id .done
        if t.binds.isEmpty then t else collPump t
      else s
    | _ => s
/-- COPY_COMPLETE (R236). -/
def execCopyComplete (op : Nat) (s : State) : Host.Outcome State Fault Refusal := .next (copyEnd s op)

/-! ## Accumulator moves (R285) -/

/-- The address of 32-byte unit u of a move: unit u holds eight elements of tile u / 128. -/
def unitAddr (addr : DWord) (u : Nat) : DWord := addr + BitVec.ofNat 64 (4096 * (u / 128) + 32 * (u % 128))
/-- The bytes of unit u of the accumulator store, and whether one of its elements has bad parity. -/
def unitBytes (s : State) (core u : Nat) : List Byte × Bool :=
  let c := coreOf s core
  (((List.range 8).map (fun j => leBytes 4 (mapGet 0 c.acc (8 * u + j)).toNat)).flatten, (List.range 8).any (fun j => c.accBad.contains (8 * u + j)))
/-- Unit u of the accumulator store takes bytes from memory. -/
def unitLoad (s : State) (core u : Nat) (bs : List Byte) (bad : Bool) : State :=
  modCore s core (fun c => (List.range 8).foldl (fun c j =>
    { c with acc := mapSet 0 c.acc (8 * u + j) (BitVec.ofNat 32 (leNat ((bs.drop (4 * j)).take 4))),
             accBad := if bad then insNat (8 * u + j) c.accBad else delNat (8 * u + j) c.accBad }) c)
/-- Unit u of a CTXSAVE is written: the whole word is new (R412). -/
def unitPut (s : State) (o : AOp) (u : Nat) (p : Place) (bs : List Byte) (bad : Bool) : State :=
  let s := markWord (placeWrite s o.core o.ctx p bs) o.core p bad
  let s := if bad then markCells s p bs.length else s
  setAop s { o with done := o.done ++ [u], held := o.held.filter (fun h => h.1 != u) }
/-- The write of a unit waits at its place. -/
def unitHeld (s : State) (o : AOp) (u : Nat) (bs : List Byte) (bad : Bool) (sectors : List Nat) : State :=
  setAop s { o with held := o.held ++ [(u, bs, bad, sectors)] }
/-- One unit of a CTXSAVE: at a completion point it waits (R82), and at an accumulator tile behind the operations there (R105). -/
def saveUnit (s : State) (o : AOp) (addr : DWord) (u : Nat) : Found1 Unit :=
  match translate s (.core o.core) o.ctx o.kernel .store (unitAddr addr u) 4 with
  | .held y => .wait (askWalk s y)
  | .fault c => .fault c
  | .ok x =>
    let s1 := ownPlace (fillT s (.core o.core) x.sectors) o.core o.ctx x.at_
    let (bs, bad) := unitBytes s o.core u
    if nearMeets s o.core x.at_ 32 then .wait s
    else match x.at_ with
    | .ctl p =>
      (match writeGate s1 (p / 64) (!bad && ctlBytes s p bs.length == bs) (.element o.id u) with
        | none => .ok () (unitPut s1 o u x.at_ bs bad)
        | some t => .wait (if heldOn t (p / 64) (.element o.id u) then unitHeld t o u bs bad x.sectors else t))
    | .win c 2 off =>
      if (tileUsers s c (off / 4096)).all (· == o.id) then .ok () (unitPut s1 o u x.at_ bs bad)
      else .wait (tileArrive (unitHeld s1 o u bs bad x.sectors) c (off / 4096) o.id (.element o.id u))
    | p => .ok () (unitPut s1 o u p bs bad)
/-- Units of a CTXSAVE that waited at tiles are written once what was before them there is over. -/
def saveTiles (s : State) (id : Nat) (addr : DWord) : State := match aopOf s id with
  | none => s
  | some o => o.held.foldl (fun s h => match tileRecord s (.element id h.1), aopOf s id with
    | some t, some o' => if t.behind.all (gone s) then
        unitPut (tileLeave s (.element id h.1)) o' h.1 (.win t.core 2 (bitsOf (unitAddr addr h.1) 0 36)) h.2.1 h.2.2.1 else s
    | _, _ => s) s
/-- One unit of a CTXLOAD. -/
def loadUnit (s : State) (o : AOp) (addr : DWord) (u : Nat) : Found1 Unit :=
  match translate s (.core o.core) o.ctx o.kernel .load (unitAddr addr u) 4, engineRead s o (unitAddr addr u) 32 false with
  | .ok x, .ok (bs, bad, _) t =>
    (match x.at_ with
      | .ap _ => .fault 0x04C
      | _ => .ok () (setAop (unitLoad t o.core u bs bad) { o with done := o.done ++ [u] }))
  | .fault c, _ => .fault c
  | _, .fault c => .fault c
  | _, .wait t => .wait t
  | .held _, _ => .wait s
/-- The stream is released. -/
def releaseMove (s : State) (o : AOp) (st : AState) : State :=
  settleCore (endAop (modCore s o.core (fun c => { c with moves := delNat o.id c.moves })) o.id st) o.core
/-- Units of a move one after another, up to the first fault. -/
def moveUnits (save : Bool) (addr : DWord) (id : Nat) : List Nat → State → State × Option (Cause × DWord)
  | [], s => (s, none)
  | u :: us, s =>
    match aopOf s id with
    | none => (s, none)
    | some o =>
      match if save then saveUnit s o addr u else loadUnit s o addr u with
      | .fault c => (faultLeaves s (.core o.core) o.ctx (unitAddr addr u) 4, some (c, unitAddr addr u))
      | .wait t => moveUnits save addr id us t
      | .ok _ t => moveUnits save addr id us t
/-- A move at its turn: the stream before it is over, and so are writes that had reached a selected tile (R105); no edge orders the
elements of two moves (R361). It performs what it can, and ends. -/
def moveStep (s0 : State) (id : Nat) : State :=
  let s := match (aopOf s0 id).map (·.kind) with
    | some (.tiles true addr _) => saveTiles s0 id addr
    | _ => s0
  match aopOf s id with
  | none => s
  | some o =>
    match o.kind with
    | .tiles save addr sel =>
      let c := coreOf s o.core
      let units := natsWhere 1024 (fun u => sel.testBit (u / 128))
      let todo := units.filter (fun u => !o.done.contains u && !o.held.any (fun h => h.1 == u))
      if o.st != .pending || o.cancelled || !c.moves.contains id || c.stream.any (fun m => m.op < id) || !o.after.all (gone s) then s
      else match moveUnits save addr id todo s with
        | (t, some (x, va)) => releaseMove t ((aopOf t id).getD o) (.error x va)
        | (t, none) =>
          let o' := (aopOf t id).getD o
          if o'.held.isEmpty && units.all (fun u => o'.done.contains u) then releaseMove t o' .done else t
    | _ => s
/-- CTXMOVE_COMPLETE (R285). -/
def execCtxmoveComplete (op : Nat) (s : State) : Host.Outcome State Fault Refusal := .next (moveStep s op)

/-! ## The matrix stream (R246, R254, R255, R414) -/

/-- The operation at the head of a core's stream is performed and retires; `cell` is an array cell fault. -/
def retire (s : State) (core : Nat) (cell : Bool) : State :=
  let c := coreOf s core
  match c.stream with
  | [] => s
  | m :: _ =>
    if !m.after.all (gone s) || c.moves.any (fun id => id < m.op) then s
    else
      let r := streamRun s core m (cell && usesArray m.i)
      let s := if r.2.1.cell then
          (match (List.range 12).find? (fun t => inPartition s t core) with
            | some t => structErr r.1 t 8 core 2
            | none => r.1)
        else r.1
      streamEnd s core m r.2.1 r.2.2.1 r.2.2.2
/-- MATRIX_OP_RETIRE (R246). -/
def execMatrixOpRetire (core : Nat) (cell : Bool) (s : State) : Host.Outcome State Fault Refusal := .next (retire s core cell)

/-! ## Page requests (R92, R228, R229) -/

/-- The walk of a requested page. -/
def pageLook (s : State) (o : AOp) (pg : DWord) : XRes := translate s (.core o.core) o.ctx o.kernel .probe pg 1
/-- A requested page is resident. -/
def pageIn (s : State) (o : AOp) (pg : DWord) : Bool := match pageLook s o pg with
  | .ok x => !x.nonRes
  | _ => false
/-- The agent walks a request's pages again: a fault ends the request, and so does every page resident (R92). -/
def pageCheck (s : State) (o : AOp) : State :=
  match o.kind with
  | .pages todo listed =>
    if o.st != .pending then s
    else
      let all := listed ++ todo
      let bad := all.filterMap (fun p => match pageLook s o p.1 with
        | .fault c => some (c, p.1)
        | _ => none)
      let sectors := all.foldl (fun xs p => match pageLook s o p.1 with
        | .ok x => insAll x.sectors xs
        | _ => xs) []
      (match bad with
        | (c, pg) :: _ => endAop (bad.foldl (fun s p => faultLeaves s (.core o.core) o.ctx p.2 1) (fillT s (.core o.core) sectors)) o.id (.error c pg)
        | [] => if all.all (fun p => pageIn s o p.1) then endAop (fillT s (.core o.core) sectors) o.id .done
          else all.foldl (fun s p => match pageLook s o p.1 with
            | .held y => askWalk s y
            | _ => s) (fillT s (.core o.core) sectors))
  | _ => s
/-- Every pending page request is looked at again. -/
def pageAgent (s : State) : State := s.aops.foldl (fun s o => match o.kind with
  | .pages _ _ => (match aopOf s o.id with
    | some o' => pageCheck s o'
    | none => s)
  | _ => s) s
/-- Address of a context's page-request ring (R228). -/
def pageRing (s : State) (ctx : BitVec 16) : Nat := rbBase s + ctx.toNat * 0x400
/-- The words of a page-request record (R229). -/
def pageRecord (o : AOp) (pages : List (DWord × Mask)) (more : Bool) : List DWord :=
  [BitVec.ofNat 64 (o.ctx.toNat * 2 ^ 48 + o.core * 2 ^ 39 + o.slot.getD 0 % 128 * 2 ^ 32 + (if more then 8 else 0) + pages.length),
   pages.foldl (fun m p => m ||| p.2) 0] ++ (pages.map (fun (p : DWord × Mask) => p.1) ++ List.replicate 6 (0 : DWord)).take 6
/-- Post the next record of a request: the first at once, a further one when every listed page is resident and some unlisted
page is not, listing pages that are not resident now; while the ring is full it waits. -/
def pagePost (s : State) (id : Nat) : State :=
  match aopOf s id with
  | none => s
  | some o =>
    match o.kind with
    | .pages todo listed =>
      let ring := pageRing s o.ctx
      let absent := todo.filter (fun p => !pageIn s o p.1)
      if o.st != .pending || absent.isEmpty || !listed.all (fun p => pageIn s o p.1) || !s.devWrites.isEmpty then s
      else if ctlUnread s ring || ctlUnread s (ring + 8) then askData s (ring / 64)
      else
        let tail := ctlWord64 s (ring + 8)
        if (tail - ctlWord64 s ring).toNat = 15 then s
        else
          let now := absent.take 6
          let s := setAop s { o with kind := .pages (todo.filter (fun p => !now.contains p)) (listed ++ now) }
          devWrite s (devWords (ring + 0x40 + 64 * (tail.toNat % 15)) (pageRecord o now (!(absent.drop 6).isEmpty)) ++
            [⟨ring + 8, leBytes 8 (tail + 1).toNat, (tenantOf s o.ctx).map (fun t => (t, 0)), false, false, []⟩])
    | _ => s
/-- PAGE_REQUEST_RECORD_POST (R228). -/
def execPageRequestRecordPost (op : Nat) (s : State) : Host.Outcome State Fault Refusal := .next (pagePost s op)

end Sys2Proof.Machine
end

