-- ==== Sys2Proof/Machine/Coherence.lean ====
section
/-! DEFINITION. What reaches this package from outside its cores (04 R79-R90, 15 R332, 23 R409-R416): invalidations and their
acknowledgements, completion points, requests to a control home, remote accesses, and the host, storage and network ports. -/

namespace Sys2Proof.Machine

/-! ## Invalidations (R80, R81) -/

/-- A translation of a load made ahead of a branch is invalidated: its group's loads will be made again (R42). -/
def staleAhead (s : State) (core x : Nat) : State :=
  { s with groups := s.groups.map (fun g =>
      if g.core == core && g.ahead.any (fun r => r.accs.any (fun a => a.sectors.contains x)) then
        { g with ahead := g.ahead.map (fun r => { r with stale := true }) } else g) }
/-- An agent receives an invalidation of a sector and drops what it derived from it. -/
def invalidate (s : State) (ag : Agent) (x : Nat) : State :=
  let s := { s with
    tlb := s.tlb.filter (fun p => p != (ag, x)),
    heldWrites := s.heldWrites.map (fun h =>
      if h.sector == x && h.invalidate.contains ag then
        { h with invalidate := h.invalidate.filter (fun a => a != ag), owed := h.owed ++ [ag] }
      else h) }
  let s := match ag with
    | .core n => staleAhead (dropFetched s n x) n x
    | _ => s
  pageAgent s
/-- INVALIDATION (R81). -/
def execInvalidation (agent : Agent) (sector : Nat) (s : State) : Host.Outcome State Fault Refusal :=
  .next (invalidate s agent sector)

/-- A core still has an access, or an element, that it translated through the sector and that is not performed. DESIGN CHOICE (log
entry 74): not the one whose own write is held on the sector. A load made ahead of a branch is one, too, until it is written back or
discarded, unless it will be made again (R42). -/
def coreBusyOn (s : State) (core x : Nat) : Bool :=
  s.groups.any (fun g => g.core == core && g.ahead.any (fun r => !r.stale && r.accs.any (fun a => a.sectors.contains x))) ||
  s.ops.any (fun o => o.core == core && o.accs.any (fun a =>
    !a.done && a.sectors.contains x && !heldOn s x (.lane o.id a.lane))) ||
  s.aops.any (fun o => o.core == core && o.held.any (fun h => h.2.2.2.contains x && !heldOn s x (.element o.id h.1)))
/-- An access cannot be performed now: it follows another, waits for a completion point, a pin, data or a home elsewhere, or for the lanes
it shares a read with. -/
def accWaits (s : State) (o : MemOp) (a : Acc) : Bool :=
  let asked := s.out.any (fun m => match m with
    | .cadd _ _ _ _ _ i l => i == o.id && l == a.lane
    | _ => false)
  !asked && (!accFollowed s o a || lowerFirst o a || nearWrite s o a || (isLoadKind o.kind && sharedWait s o) ||
    s.heldWrites.any (fun h => h.writer == .lane o.id a.lane) ||
    (match a.at_ with
      | .ctl p => (readWaits s a).isSome || (!isLoadKind o.kind && (writeAway s (p / 64) || pinned s o a))
      | _ => false))
/-- Accesses of a core that were translated through a sector and wait give up that translation, and the place in which they wait: they are
translated again before they are performed (R85), so that no two of them wait for each other's acknowledgement (R445). So do elements. -/
def giveBack (s : State) (core x : Nat) : State :=
  let opWaits := fun (o : MemOp) => isLoadKind o.kind && o.accs.any (fun a => !a.done && accWaits s o a)
  let drop := fun (o : MemOp) (a : Acc) => o.core == core && !a.done && !a.reached && a.sectors.contains x && !heldOn s x (.lane o.id a.lane) &&
    (opWaits o || accWaits s o a)
  let out := fun (o : AOp) (h : Nat × List Byte × Bool × List Nat) => o.core == core && h.2.2.2.contains x && !heldOn s x (.element o.id h.1)
  let gone := fun (w : Writer) => match w with
    | .lane i l => s.ops.any (fun o => o.id == i && o.accs.any (fun a => a.lane == l && drop o a))
    | .element i n => s.aops.any (fun o => o.id == i && o.held.any (fun h => h.1 == n && out o h))
    | _ => false
  if !(s.ops.any (fun o => o.accs.any (drop o)) || s.aops.any (fun o => o.held.any (out o))) then s
  else { s with
    ops := s.ops.map (fun o => { o with accs := o.accs.map (fun a => if drop o a then { a with stale := true, sectors := [] } else a) }),
    aops := s.aops.map (fun o => { o with
      got := o.got ++ (o.held.filter (out o)).map (fun h => (h.1, h.2.1, h.2.2.1)), held := o.held.filter (fun h => !out o h) }),
    heldWrites := s.heldWrites.filter (fun h => !gone h.writer), tileWrites := s.tileWrites.filter (fun t => !gone t.writer) }
/-- A fabric port still has an element, a lane or a collective packet on its way that it routed through the sector (R325). -/
def portBusyOn (s : State) (port x : Nat) : Bool :=
  let on := fun (f : Flight) => f.port == port && f.sectors.contains x
  s.aops.any (fun o => o.flight.any on) || s.ops.any (fun o => o.flights.any on) || s.collSent.any (fun k => on k.way)
/-- An agent still owes something for the sector: an entry, an access, or data that may be dirty (R81, R86). -/
def agentBusy (s : State) (ag : Agent) (x : Nat) : Bool :=
  s.tlb.contains (ag, x) || (match ag with
    | .core n => coreBusyOn s n x
    | .port q => portBusyOn s q x
    | .net _ => s.devWrites.any (fun w => w.via.contains (ag, x))
    | .storage => s.devWrites.any (fun w => w.via.contains (ag, x))
    | .pkg _ => (match (dirOf s x).owner with
      | some (a, c) => c != .e && a == ag
      | none => false)
    | _ => false)
/-- An agent of this package. -/
def ownAgent : Agent → Bool
  | .pkg _ => false
  | _ => true
/-- An agent acknowledges an invalidation: it holds the sector no longer. A package stopped at boot takes no part (R425). -/
def acknowledge (s0 : State) (ag : Agent) (x : Nat) : State :=
  let s := match ag with
    | .core n => giveBack s0 n x
    | _ => s0
  if agentBusy s ag x || (bootStopped s && !ownAgent ag) then s0
  else
    let d := dirOf s x
    let mine := fun (a : Agent) => a == ag
    let d := { d with
      t := d.t.filter (fun a => !mine a),
      shared := d.shared.filter (fun a => !mine a),
      owner := match d.owner with
        | some (a, .e) => if mine a then none else d.owner
        | o => o }
    let s := { setDir s x d with
      heldWrites := s.heldWrites.map (fun h => if h.sector == x then
        { h with invalidate := h.invalidate.filter (fun a => !mine a), owed := h.owed.filter (fun a => !mine a) } else h),
      out := match ag with
        | .pkg p => s.out.filter (fun m => m != .invalidate p x)
        | _ => s.out }
    drainDev (s.devWrites.length + 1) s
/-- T_ACKNOWLEDGE (R81). -/
def execTAcknowledge (agent : Agent) (sector : Nat) (s : State) : Host.Outcome State Fault Refusal :=
  .next (acknowledge s agent sector)

/-! ## Requests to this home (R86-R90, R416) -/

/-- The 64 bytes of a sector. -/
def sectorBytes (s : State) (x : Nat) : List Byte := ctlBytes s (64 * x) 64
/-- A package now may hold sectors of the region (R87). -/
def joinRegion (s : State) (pkg x : Nat) : State :=
  { s with regions := mapSet [] s.regions (x / 32) (insNat pkg (mapGet [] s.regions (x / 32))) }
/-- The directory names a package for a sector of a region. -/
def namedIn (s : State) (pkg region : Nat) : Bool := s.dir.any (fun p => p.1 / 32 == region &&
  ((match p.2.owner with
    | some (a, _) => a == .pkg pkg
    | none => false) || p.2.shared.contains (.pkg pkg) || p.2.t.contains (.pkg pkg)))
/-- A package reports that it holds no sector of a region (R87); a report that data for it have crossed does not count. -/
def leaveRegion (s : State) (pkg region : Nat) : State :=
  if namedIn s pkg region then s else { s with regions := mapSet [] s.regions region (delNat pkg (mapGet [] s.regions region)) }
/-- The answer to a request for a sector, its data with it (R409, R411). -/
def answerHome (s : State) (pkg x kind : Nat) : State := send s (.grant pkg x kind (sectorBytes s x) (marksOf s x))
/-- A package takes a sector to write it, once dirty data of this one are written back (R88). -/
def grantOwned (s : State) (pkg x : Nat) : State :=
  let s := setLines (writeBack (mergeBlend s x) x) x []
  if mirrorWaits s x then s
  else answerHome (joinRegion (setDir s x { dirOf s x with owner := some (.pkg pkg, .m), shared := [] }) pkg x) pkg x 2
/-- Bytes cut to the sector of an address. -/
def inSector (a : Nat) (bs : List Byte) : List Byte := bs.take (64 - a % 64)
/-- A CADD of another package made at the home as an ordinary read-modify-write (R82). -/
def caddHere (s : State) (fmt a : Nat) (v : DWord) : State :=
  let s := mergeBlend s (a / 64)
  let old : DWord := BitVec.ofNat 64 (leNat (ctlBytes s a (blendSize fmt)))
  homePut s a (leBytes (blendSize fmt) (blendAdd fmt old v).toNat) false
/-- The sector a message is about, and the package it comes from. -/
def reqSector : HomeReq → Nat × Nat
  | .readShared p x => (p, x)
  | .readOwned p x => (p, x)
  | .walk p x => (p, x)
  | .store p a _ => (p, a / 64)
  | .cadd p _ _ a _ => (p, a / 64)
  | .writeback p x _ _ => (p, x)
  | .supply p x _ _ _ => (p, x)
  | .leave p r => (p, 32 * r)
  | .mirror p x _ _ _ => (p, x)
  | .bootCopy p _ _ _ => (p, 0)
  | .icinv p _ _ _ _ => (p, 0)
  | .query p _ => (p, 0)
  | .pin p x _ => (p, x)
  | .grant p x _ _ _ => (p, x)
  | .caddDone p _ _ => (p, 0)
  | .invalidate p x => (p, x)
  | .callHome p x => (p, x)
  | .mirrorMade p x => (p, x)
  | .icinvDone p _ => (p, 0)
/-- A request that writes would change a byte of a pinned sector (R438). -/
def reqPinned (s : State) : HomeReq → Bool
  | .store _ a bs => pinHolds s a (inSector a bs)
  | .cadd _ _ fmt a v =>
    let old : DWord := BitVec.ofNat 64 (leNat (ctlBytes s a (blendSize fmt)))
    pinHolds s a (leBytes (blendSize fmt) (blendAdd fmt old v).toNat)
  | .readOwned _ x => pinnedSector s x
  | _ => false
/-- The write a request asks for is performed, and answered; a CADD that met no T holder goes into Blend (R82, R89). -/
def reqPerform (s : State) (t : Bool) : HomeReq → State
  | .store p a bs => sendMade (homePut s a (inSector a bs) false) (a / 64) (.made p)
  | .cadd p core fmt a v => sendMade (if t then caddHere s fmt a v else caddBlend s p core fmt a v) (a / 64) (.made p)
  | .readOwned p x => grantOwned s p x
  | _ => s
/-- An owner other than package p. -/
def ownedNot (s : State) (p x : Nat) : Bool := match ownerOf s x with
  | some a => a != .pkg p
  | none => false
/-- A request that reads: an owner elsewhere supplies its data first, and dirty data here are written back (R86, R88); Blend merges (R90);
the reader holds the sector in T or S, or in E where no one else holds it. -/
def reqRead (s : State) (p x : Nat) (walkRead : Bool) : State :=
  if s.heldWrites.any (fun h => h.sector == x) then s
  else if ownedNot s p x then ask s x 1
  else
    let s := writeBack (mergeBlend s x) x
    let d := dirOf s x
    let ag := Agent.pkg p
    let alone := d.owner.isNone && d.shared.isEmpty && d.t.isEmpty && (linesOf s x).isEmpty && !pinnedSector s x
    if mirrorWaits s x then s
    else
    let s := joinRegion s p x
    if walkRead then answerHome (setDir s x (if d.t.contains ag then d else { d with t := d.t ++ [ag] })) p x 0
    else if alone then answerHome (setDir s x { d with owner := some (ag, .e) }) p x 2
    else
      let s := setLines s x ((linesOf s x).map (fun k => (k.1, .s)))
      answerHome (setDir s x (if d.shared.contains ag then d else { d with shared := d.shared ++ [ag] })) p x 1
/-- A request that writes: holders are invalidated first (R82, R87, R89). A package that asks to write a pinned sector gets its data, with
which it can tell whether its write changes a byte (R438). -/
def reqWrite (s : State) (r : HomeReq) : State :=
  let x := (reqSector r).2
  let w := Writer.remote r
  if heldOn s x w then s
  else if reqPinned s r then (match r with
    | .readOwned p _ => if (dirOf s x).shared.contains (.pkg p) then s else reqRead s p x false
    | _ => s)
  else if (holders s x w).isEmpty && !s.heldWrites.any (fun h => h.sector == x) then reqPerform s false r
  else startHeld s x w
/-- Data of an owner come home with their marks: they are written (R88, R411), and device writes that waited go on. -/
def comeHome (s : State) (x : Nat) (d : Dir) (data : List Byte) (marks : Nat) : State :=
  let t := setDir s x d
  let t := if data.isEmpty then t
    else mirrorSend (setMarks { t with ctl := memSetBytes t.ctl (64 * x) (data.take 64) } x marks) x
  drainDev (t.devWrites.length + 1) t
/-- An owner writes its data back and gives the sector up. -/
def wroteBack (s : State) (p x : Nat) (data : List Byte) (marks : Nat) : State :=
  let d := dirOf s x
  match d.owner with
  | some (a, _) => if a == .pkg p then comeHome s x { d with owner := none } data marks else s
  | none => s
/-- An owner that was asked supplies its data, and keeps them in O, or in S where they were clean (R86). -/
def supplied (s : State) (p x : Nat) (data : List Byte) (marks : Nat) (dirty : Bool) : State :=
  let d := dirOf s x
  let ag := Agent.pkg p
  match d.owner with
  | some (a, _) => if a != ag then s
    else
      let s := { s with out := s.out.filter (fun m => m != .callHome p x) }
      if dirty then comeHome s x { d with owner := some (ag, .o) } data marks
      else comeHome s x { d with owner := none, shared := if d.shared.contains ag then d.shared else d.shared ++ [ag] } [] 0
  | none => s
/-- The peer's write at its mirror home, which this package holds (R88, R411, R416). -/
def mirrorPut (s : State) (p x : Nat) (data : List Byte) (marks : Nat) (dl : Bool) : State :=
  if p != peerPkg s || x / 2 ^ 27 != p then s
  else
    let o := x % 2 ^ 27
    let rest := fun (l : List Nat) => l.filter (fun w => w / 2 != o)
    let s := if data.isEmpty then s else
      { s with mirror := memSetBytes s.mirror (64 * o) (data.take 64),
               mirrorPoison := insAll (markedWords o marks 0) (rest s.mirrorPoison), mirrorBad := insAll (markedWords o marks 2) (rest s.mirrorBad) }
    send { s with dl := if dl then insNat x s.dl else delNat x s.dl } (.mirrorMade p x)
/-- The mirror has made a write of the sector (R88): once it has made all of them, what tells of the write leaves, a device write is done,
and writes that waited go on. -/
def mirrorDone (s : State) (p x : Nat) : State :=
  if p != peerPkg s || !mirrorWaits s x then s
  else
    let s := { s with mirrorOwed := s.mirrorOwed.erase x }
    if mirrorWaits s x then s
    else
      let s := (s.mirrorThen.filter (fun k => k.1 == x)).foldl (fun s k => send s k.2)
        { s with mirrorThen := s.mirrorThen.filter (fun k => k.1 != x) }
      match s.devMade with
      | some w => if w.addr / 64 == x then
          let t := devOver { s with devMade := none } w
          drainDev (t.devWrites.length + 1) t
        else s
      | none => s
/-- Bytes of the boot region (R350), by offset. -/
def bootBytes : Nat := 0x10000000
/-- The peer's boot region arrives at its mirror part (R349). -/
def bootCopied (s : State) (p : Nat) (cells : Mem) (poison bad : List Nat) : State :=
  let low := fun (n : Nat) => decide (32 * n < bootBytes)
  if p != peerPkg s then s
  else { s with mirror := (cells.filter (fun c => c.1 < bootBytes)).foldl (fun m c => memSetByte m c.1 c.2) (s.mirror.filter (fun c => bootBytes ≤ c.1)),
                mirrorPoison := insAll (poison.filter low) (s.mirrorPoison.filter (fun n => !low n)),
                mirrorBad := insAll (bad.filter low) (s.mirrorBad.filter (fun n => !low n)) }
/-- What this package holds of lines homed at a package (R418). -/
def heldOf (s : State) (p : Nat) : List HeldCopy :=
  let xs := insAll (s.hold.map (·.1)) s.tHeld
  (xs.filter (fun x => x / 2 ^ 27 == p)).map (fun x =>
    ⟨ownPkg s, x, holdOf s x, s.tHeld.contains x,
      if holdOf s x == some .m || holdOf s x == some .o then sectorBytes s x else [], marksOf s x⟩)

/-! ## What a home elsewhere says (R80, R81, R86, R87) -/

/-- The answer to a request this package made: the sector's data with their marks, held in T, S or E; page requests are looked at again
(R92). Data in S for a request to write, which a pin holds back at the home, leave that request standing (R438). The home's messages
for a sector arrive in the order in which it sent them (R81). -/
def granted (s : State) (p x kind : Nat) (data : List Byte) (marks : Nat) : State :=
  let asked := fun (m : Msg) => match m with
    | .home q y k => q == p && y == x && (k == kind || (k == 1 && kind == 2))
    | _ => false
  let early := kind == 1 && s.out.contains (.home p x 2)
  if p != homeOf s x || p == ownPkg s || !(s.out.any asked || early) || data.length != 64 then s
  else
    let s := { s with out := s.out.filter (fun m => !asked m) }
    let s := if (holdOf s x).isSome && kind != 2 then s else setMarks { s with ctl := memSetBytes s.ctl (64 * x) data } x marks
    pageAgent (if kind = 0 then { s with tHeld := insNat x s.tHeld }
      else if kind = 1 then (if (holdOf s x).isSome then s else setHold s x (some .s))
      else if holdsAlone s x then s else setHold s x (some .e))
/-- Package p is the home of a sector, or rebuilds it (R418). -/
def speaksFor (s : State) (p x : Nat) : Bool :=
  p == homeOf s x || (pkgHome s (x / 2 ^ 27) == .rebuilding && p == mirrorOf s (x / 2 ^ 27))
/-- The home invalidates a sector, or asks for its data: that waits here like a write, for the own T holders and the accesses they
translated (R81). -/
def called (s : State) (p x : Nat) (keep : Bool) : State :=
  if !speaksFor s p x || p == ownPkg s then s else startHeld s x (.called p keep)
/-- This package holds nothing of a region of another home, and has asked for nothing of it (R87). -/
def leftRegion (s : State) (region : Nat) : Bool :=
  !s.tHeld.any (fun y => y / 32 == region) && !s.hold.any (fun h => h.1 / 32 == region) &&
  !(s.out ++ s.waitOut).any (fun m => match m with
    | .home _ y _ => y / 32 == region
    | _ => false)
/-- It is answered: the data go home with their marks when they were dirty, and what was held is dropped, or kept in O or S. A package
that then holds no sector of the region reports so. -/
def answerCall (s : State) (p x : Nat) (keep : Bool) : State :=
  let dirty := holdOf s x == some .m || holdOf s x == some .o
  let data := if dirty then sectorBytes s x else []
  let s := { s with tHeld := delNat x s.tHeld }
  if keep then
    let t := if (holdOf s x).isNone then s else setLines (setHold s x (some (if dirty then .o else .s))) x (shareLines (linesOf s x))
    send t (.supply p x data (marksOf s x) dirty)
  else
    let t := send (setLines (setHold s x none) x []) (.homeAck p x data (marksOf s x))
    if leftRegion t (x / 32) then send t (.leave p (x / 32)) else t
/-- A CADD sent to its home has been made there. -/
def caddMade (s : State) (p id lane : Nat) : State :=
  let mine := fun (m : Msg) => match m with
    | .cadd q _ _ _ _ i l => q == p && i == id && l == lane
    | _ => false
  match s.out.any mine, opOf s id with
  | true, some o => (match o.accs.find? (fun a => a.lane == lane && !a.done) with
    | some a => laneDone { s with out := s.out.filter (fun m => !mine m) } o a
    | none => s)
  | _, _ => s

/-- A pin is placed on a sector homed here: a package that may write it unseen gives that up first; or it is released, and writes that
waited go on (R438). -/
def pinIn (s : State) (p x : Nat) (on : Bool) : State :=
  if on then ask { s with pinsAway := if s.pinsAway.contains (p, x) then s.pinsAway else s.pinsAway ++ [(p, x)] } x 1
  else
    let t := { s with pinsAway := s.pinsAway.filter (fun k => k != (p, x)) }
    drainDev (t.devWrites.length + 1) t
/-- A request to this package as the home of its sector (R87): while the home is being rebuilt it waits (R417). -/
def homeServe (s : State) (r : HomeReq) : State :=
  let p := (reqSector r).1
  let x := (reqSector r).2
  if !isOurs s x || apSector x then s
  else match r with
    | .readShared _ _ => reqRead s p x false
    | .walk _ _ => reqRead s p x true
    | .readOwned _ _ => reqWrite s r
    | .store _ _ _ => reqWrite s r
    | .cadd _ _ _ _ _ => reqWrite s r
    | .writeback _ _ bs marks => wroteBack s p x bs marks
    | .supply _ _ bs marks dirty => supplied s p x bs marks dirty
    | .leave _ region => leaveRegion s p region
    | .pin _ _ on => pinIn s p x on
    | _ => s
/-- A control-space message arrives: a lost package is not answered (R417), and a package that has been named lost, or is stopped at
boot, takes no part (R425, R429). -/
def homeMessage (s : State) (r : HomeReq) : State :=
  let p := (reqSector r).1
  if isLost s p || s.lost || bootStopped s then s
  else match r with
    | .mirror _ x bs marks dl => mirrorPut s p x bs marks dl
    | .mirrorMade _ x => mirrorDone s p x
    | .bootCopy _ cells poison bad => bootCopied s p cells poison bad
    | .icinv _ num ctx start len => send (icDrop s (List.range Config.nCores) ctx.toNat start len) (.icinvDone p num)
    | .icinvDone _ num => { s with icinvOwed := s.icinvOwed.filter (fun k => k != (num, p)) }
    | .query _ q => send s (.states p (heldOf s q))
    | .grant _ x kind bs marks => granted s p x kind bs marks
    | .invalidate _ x => called s p x false
    | .callHome _ x => called s p x true
    | .caddDone _ id lane => caddMade s p id lane
    | _ => homeServe s r
/-- HOME_REQUEST (R87). -/
def execHomeRequest (r : HomeReq) (s : State) : Host.Outcome State Fault Refusal := .next (homeMessage s r)

/-! ## Completion points (R82) -/

/-- Where in a control sector an element of a copy, or a unit of a CTXSAVE, is written. -/
def heldPlace (o : AOp) (x idx : Nat) : Nat := 64 * x + (match o.kind with
  | .copy _ w => (dstAddr w idx).toNat % 64
  | .tiles _ addr _ => (unitAddr addr idx).toNat % 64
  | _ => 0)
/-- The held write of an element of a copy or of a CTXSAVE. -/
def heldElement (s : State) (x id idx : Nat) : State :=
  match aopOf s id with
  | none => s
  | some o => match o.held.find? (fun h => h.1 == idx) with
    | none => s
    | some (_, bs, bad, _) => (match o.kind with
      | .copy _ w => elemPut s o w idx (.ctl (heldPlace o x idx)) bs bad
      | .tiles _ _ _ => cancelOver (unitPut s o idx (.ctl (heldPlace o x idx)) bs bad) id
      | _ => s)
/-- The write may not be made while a pin stands (R438). -/
def heldPinned (s : State) (x : Nat) : Writer → Bool
  | .lane id lane => (match opOf s id with
    | some o => (match o.accs.find? (fun a => a.lane == lane && !a.done) with
      | some a => pinned s o a
      | none => false)
    | none => false)
  | .device => (match s.devWrites with
    | w :: _ => pinHolds s w.addr w.bytes
    | [] => false)
  | .element id idx => (match aopOf s id with
    | some o => (o.held.filter (fun h => h.1 == idx)).any (fun h => pinHolds s (heldPlace o x idx) h.2.1)
    | none => false)
  | .remote r => reqPinned s r
  | .called _ _ => false
/-- A held write is performed. -/
def heldPerform (s : State) (x : Nat) (t : Bool) : Writer → State
  | .lane id lane => (match opOf s id with
    | some o => (match o.accs.find? (fun a => a.lane == lane && !a.done) with
      | some a => ctlMade s o a (match a.at_ with
        | .ctl p => p
        | _ => 0) t
      | none => s)
    | none => s)
  | .device => (match s.devWrites with
    | w :: ws => devDone { s with devWrites := ws } w
    | [] => s)
  | .element id idx => heldElement s x id idx
  | .remote r => reqPerform s t r
  | .called p keep => answerCall s p x keep
/-- Every T holder has acknowledged: the oldest write held on the sector is performed, and walks held on it go on (R82, R84). -/
def completion (s : State) (x : Nat) : State :=
  match headHeld s x with
  | none => if (ackedHeld s x).isSome && writeAway s x then ask s x 2 else s
  | some h =>
    if heldPinned s x h.writer then s
    else
      let s := heldPerform (dropHeld s h) x h.t h.writer
      pageAgent (drainDev (s.devWrites.length + 1) s)
/-- COMPLETION_POINT (R82). -/
def execCompletionPoint (sector : Nat) (s : State) : Host.Outcome State Fault Refusal := .next (completion s sector)

/-! ## Remote accesses that arrive here (R70, R332) -/

/-- Operand n of a remote atomic: 32-bit words in the order sent. -/
def atomOperand (ws : List Word) (n : Nat) : DWord := mkPair (ws.getD (2 * n) 0) (ws.getD (2 * n + 1) 0)
/-- Bytes that a copy of another package has written of a word so far (R412), and whether one was poisoned, or carried a check that does
not fit. -/
def arrivedOf (s : State) (src copy word : Nat) : Nat × Bool × Bool :=
  ((s.arrived.find? (fun k => k.1 == src && k.2.1 == copy && k.2.2.1 == word)).map (fun k => k.2.2.2)).getD (0, false, false)
/-- Elements of a copy of another package are written: the poison of a word goes with its last byte, unless an element written to it was
poisoned (R412); a check that does not fit is carried with the whole word (R409). -/
def arriveOver (s : State) (src copy a : Nat) (bs : List Byte) (mark : Mark) : State :=
  (wordsAt a bs.length).foldl (fun s w =>
    let old := arrivedOf s src copy w
    let here := (List.range 32).foldl (fun m i => if a ≤ 32 * w + i && 32 * w + i < a + bs.length then m ||| 2 ^ i else m) 0
    let m := old.1 ||| here
    let p := old.2.1 || mark == .poisoned
    let u := old.2.2 || mark == .unfit
    let rest := s.arrived.filter (fun k => !(k.1 == src && k.2.1 == copy && k.2.2.1 == w))
    if m = 2 ^ 32 - 1 then
      { s with arrived := rest, tenPoison := if p then insNat w s.tenPoison else delNat w s.tenPoison,
               tenBad := if u then insNat w s.tenBad else s.tenBad }
    else { s with arrived := rest ++ [(src, copy, w, m, p, u)] }) s
/-- Bytes of tensor memory written for a remote or host access, for tenant t (12: none), with their poison (R411). -/
def tenArrive (s : State) (t a : Nat) (bs : List Byte) (poison : Bool) : State :=
  let s := tenWrite s t a bs
  if poison then { s with tenPoison := insAll (wordsAt a bs.length) s.tenPoison } else s
/-- Size in bytes of what a remote access touches. -/
def remoteSize : RemoteOp → Nat
  | .read n _ => n
  | .write parts => (parts.map (fun p => p.2.1.length)).headD 0
  | .atom op _ => atomSize op
/-- How the words of n tensor bytes stand for a reader that takes them; a word moved whole carries a check that does not fit (R409). -/
def tenMark (s : State) (p n : Nat) (whole : Bool) : Mark :=
  let ws := wordsAt p n
  if ws.any s.tenPoison.contains then .poisoned
  else if ws.any s.tenBad.contains then (if whole then .unfit else .poisoned)
  else .good
/-- What a remote access does at its place for tenant t, and its answer. -/
def remotePerform (s : State) (t src copy p : Nat) : RemoteOp → State × RemoteResp
  | .read n whole =>
    let u := l2Touch s p n false t
    (if whole then u else markTen u (wordsAt p n), .data ((List.range n).map (fun i => memByte s.ten (p + i))) (tenMark s p n whole))
  | .write parts => (parts.foldl (fun s k => arriveOver (tenArrive s t (p + k.1) k.2.1 (k.2.2 == .poisoned)) src copy (p + k.1) k.2.1 k.2.2) s, .ack)
  | .atom op ws => (match tenAtom s t p op (atomSize op) (atomOperand ws 0) (atomOperand ws 1) with
    | .error c => (markTen s (wordsAt p (atomSize op)), .fail c)
    | .ok (old, t) => (t, .data (leBytes (atomSize op) old.toNat) .good))
/-- The access that a request needs. -/
def remoteUse : RemoteOp → Use
  | .read _ _ => .load
  | _ => .store
/-- Addresses a request names that are not a multiple of an access's size (R212), and elements beyond the packet's page. -/
def remoteCrooked (r : RemoteReq) : Bool :=
  let n := remoteSize r.op
  match r.op with
  | .write parts => parts.any (fun k => 4096 < r.addr.toNat % 4096 + k.1 + k.2.1.length ||
      (k.2.1.length ≤ 8 && k.2.1.length != 0 && (r.addr.toNat + k.1) % k.2.1.length ≠ 0))
  | _ => n ≤ 8 && n != 0 && r.addr.toNat % n ≠ 0
/-- A remote access is translated here by the port it came in by, under its context and this package's entry for it, and performed
(R70, R79). -/
def remoteServe (s : State) (r : RemoteReq) : State :=
  let answer := fun (s : State) (a : RemoteResp) => sendPlain s r.ctx.toNat (match a with
    | .data bs _ => bs.length
    | _ => 0) (.answer r.src a)
  let fail := fun (c : Cause) => answer s (.fail c)
  if isLost s r.src || s.lost then s
  else match spaceCheck r.addr with
    | some c => fail c
    | none =>
      if bitsOf r.addr 62 2 ≠ 1 then fail 0x04D
      else if remoteCrooked r then fail 0x04C
      else match walk s (.port (r.port % 36)) r.ctx false (remoteUse r.op) r.addr with
        | .held y => askWalk s y
        | .fault c => answer (walkLeaves s (.port (r.port % 36)) r.ctx r.addr) (.fail c)
        | .ok x => (match x.at_ with
          | .ten p =>
            let s := ownMark (fillT s (.port (r.port % 36)) x.sectors) 0 (sliceOf p) r.ctx
            let q := remotePerform s (tagOf s r.ctx) r.src r.copy p r.op
            answer q.1 q.2
          | _ => s)
/-- REMOTE_ACCESS_REQUEST (R332). -/
def execRemoteAccessRequest (r : RemoteReq) (s : State) : Host.Outcome State Fault Refusal := .next (remoteServe s r)

/-! ## The host endpoint, the storage port and the network ports (R349, R350, R409-R411) -/

/-- Host writes to the image areas between LOCK and DONE are discarded (R349). -/
def imageShut (s : State) (a : Nat) : Bool :=
  (apWord s 0).getLsbD 63 && !bootDone s && homeBase s ≤ a && a < homeBase s + 0x08000000
/-- Control bytes that lie in this package's aperture are reached through the aperture alone (R345). -/
def overAperture (s : State) (a n : Nat) : Bool :=
  homeBase s + 0x1FFFE0000 < a + n && a < homeBase s + 0x200000000
/-- Data leave the device: they are verified, and a word that fails is marked where it was read (R410). -/
def leaveCtl (s : State) (a n : Nat) : State :=
  let xs := (List.range (n / 64 + 2)).map (· + a / 64)
  let s := xs.foldl mergeBlend s
  let ws := wordsAt a n
  let bad := ws.any (fun w => s.ctlBad.contains w || s.ctlPoison.contains w)
  let hit := s.ctlBad.filter ws.contains
  let s := { s with ctlBad := s.ctlBad.filter (fun w => !ws.contains w), ctlPoison := insAll hit s.ctlPoison }
  send s (.host (ctlBytes s a n) bad)
/-- Tensor data leave the device. -/
def leaveTen (s : State) (a n : Nat) : State :=
  let ws := wordsAt a n
  let bad := ws.any (fun w => s.tenBad.contains w || s.tenPoison.contains w)
  send (markTen (l2Touch s a n false 12) ws) (.host ((List.range n).map (fun i => memByte s.ten (a + i))) bad)
/-- A control sector of the range that another package owns, or whose home is not there. -/
def portWaits (s : State) (a n : Nat) : Option Nat :=
  ((List.range ((n + 63) / 64 + 1)).map (· + a / 64)).find? (fun x =>
    64 * x < a + n && (ownedAway s x || (homeState s (64 * x)).isSome))
/-- The agent a port translates with (R79). -/
def portAgent (n : Nat) : Agent := if n < 2 then .net n else .storage
/-- Where an access of a network port or the storage port lands: a physical address as it is, a virtual one translated under its
context; none where it waits or faults. DESIGN CHOICE (log entry 75): it is walked at user level as its first byte, does not pass a
4 KiB boundary, and is dropped where it faults. -/
def portPlace (s : State) (r : HostAccess) : State × Option (HostAccess × List (Agent × Nat)) := match r.ctx with
  | none => (s, some (r, []))
  | some c =>
    let ag := portAgent r.port
    let va := BitVec.ofNat 64 r.addr
    if (spaceCheck va).isSome || 1 < bitsOf va 62 2 || isRemote s c va || 4096 < r.addr % 4096 + r.data.length then (s, none)
    else match walk s ag c false (if r.write then .store else .load) va with
      | .held y => (askWalk s y, none)
      | .fault _ => (walkLeaves s ag c va, none)
      | .ok x => (fillT s ag x.sectors, match x.at_ with
        | .ctl a => some ({ r with tensor := false, addr := a }, x.sectors.map (fun y => (ag, y)))
        | .ten a => some ({ r with tensor := true, addr := a }, x.sectors.map (fun y => (ag, y)))
        | _ => none)
/-- A host read of aperture words through BAR 0 (R345). -/
def apHost (s : State) (off n : Nat) : State :=
  if off % 8 ≠ 0 || n ≠ 8 then s else send s (.host (leBytes 8 (apRead s off).toNat) false)
/-- An access of a port to device memory; `via` is what it was translated through, and `shut` says where its writes are discarded. -/
def portAccess (s : State) (shut : Nat → Bool) (via : List (Agent × Nat)) (r : HostAccess) : State :=
  let n := r.data.length
  if n = 0 || !physOk r.tensor r.addr || !physOk r.tensor (r.addr + n - 1) then s
  else if r.tensor then (if r.write then tenArrive s 12 r.addr r.data r.poisoned else leaveTen s r.addr n)
  else if overAperture s r.addr n then s
  else if r.write then
    devWrite s (((cutSectors (n + 1) r.addr r.data).filter (fun w => !shut w.addr)).map (fun w => { w with poison := r.poisoned, via := via }))
  else match portWaits s r.addr n with
    | some x => askData s x
    | none => leaveCtl s r.addr n
/-- HOST_ENDPOINT_ACCESS (R350). -/
def execHostEndpointAccess (a : HostAccess) (s : State) : Host.Outcome State Fault Refusal :=
  .next (if !a.tensor && !a.write && overAperture s a.addr a.data.length && homeBase s + 0x1FFFE0000 ≤ a.addr then
      apHost s (a.addr - (homeBase s + 0x1FFFE0000)) a.data.length
    else portAccess s (imageShut s) [] a)
/-- STORAGE_NETWORK_TRANSFER (R409). -/
def execStorageNetworkTransfer (a : HostAccess) (s : State) : Host.Outcome State Fault Refusal := 
  .next (match portPlace s a with
    | (t, some (r, via)) => portAccess t (fun _ => false) via r
    | (t, none) => t)

end Sys2Proof.Machine
end

