-- ==== Sys2Proof/Machine/Control.lean ====
section
/-! DEFINITION. Control flow (09 R192-R197): BLK, branches, calls, jumps, returns, NOP, YIELD, EXIT. -/

namespace Sys2Proof.Machine

/-- A taken backward branch discards a stale loop buffer (R280, R85). -/
def loopBack (s : State) (g : Group) (e : Ent) (parts : List (DWord × Mask)) : State :=
  if g.loopStale && parts.any (fun p => p.2 != 0 && p.1 ≤ e.pc) then
    modGroup s g.gid (fun g => { g with loop := [], loopStale := false })
  else s

/-- The target of a BF word (R143). -/
def branchTarget (pc : DWord) (o : BitVec 8) : DWord := pc + o.signExtend 64 * 4

/-- A branch (R193): the lanes taken go to the target, the others to PC + 4. -/
def branch (S : BitVec 3) (o : BitVec 8) (taken : State → Group → Nat → Bool) : State → Group → Ent → State × Fate :=
  fun s g e =>
    let t := lanesWhere e.mask (taken s g)
    let target := branchTarget e.pc o
    (moveLanes (loopBack s g e [(target, t)]) g.gid e.prio [(target, t), (e.pc + 4, minus e.mask t)] S.toNat .ready, .quiet)

/-- Lanes divided by target, in the order of the lowest lane of each part (R194). -/
def partsByTarget (m : Mask) (tgt : Nat → DWord) : List (DWord × Mask) :=
  (lanesOf m).foldl (fun ps l =>
    if ps.any (fun p => p.1 == tgt l) then ps.map (fun p => if p.1 == tgt l then (p.1, p.2 ||| bit1 l) else p)
    else ps ++ [(tgt l, bit1 l)]) []

/-- The link value PC + 4, written before the first instruction at the target issues (R195). -/
def linkTo (s : State) (g : Group) (d : RegName) (m : Mask) (pc : DWord) : State :=
  if m == 0 then s
  else
    let s := writeNow s g.gid ⟨dstOf g d 0, m, valsFor d m (fun _ => (loWord (pc + 4)).setWidth 64), none, 0⟩
    writeNow s g.gid ⟨dstOf g d 1, m, valsFor d m (fun _ => (hiWord (pc + 4)).setWidth 64), none, 0⟩

/-- A move through a register pair (R139, R194): misaligned targets raise illegal-operand and do not move, nor do lanes whose
target is poisoned (R411); the lowest lane gives the one cause (R368). -/
def jumpVia (S : BitVec 3) (a : RegName) (link : Option RegName) : State → Group → Ent → Mask → State × Fate :=
  fun s g e poison =>
    let tgt := fun l => readPair s g l a
    let bad := lanesWhere e.mask (fun l => bitAt poison l || (tgt l).extractLsb' 0 2 != 0)
    let go := minus e.mask bad
    let parts := partsByTarget go tgt
    let s := match link with
      | some d => linkTo s g d go e.pc
      | none => s
    let s := moveLanes (loopBack s g e parts) g.gid e.prio parts S.toNat .ready
    if bad == 0 then (s, .quiet) else (raise s g.gid e.prio e.pc ⟨bad, if bitAt poison (lowest bad) then 0x181 else 0x001, e.pc, 0⟩, .loud)

/-- BLK (R192). -/
def execBlk (S : BitVec 3) (p : BitVec 8) (s : State) : Host.Outcome State Fault Refusal :=
  issue (.blk S p) s (onlyMove S)
/-- BR (R193). -/
def execBr (S : BitVec 3) (o : BitVec 8) (s : State) : Host.Outcome State Fault Refusal :=
  issue (.br S o) s (branch S o (fun _ _ _ => true))
/-- BZ (R193). -/
def execBz (S : BitVec 3) (o : BitVec 8) (a : RegName) (s : State) : Host.Outcome State Fault Refusal :=
  issue (.bz S o a) s (branch S o (fun s g l => readReg s g l a == 0))
/-- BNZ (R193). -/
def execBnz (S : BitVec 3) (o : BitVec 8) (a : RegName) (s : State) : Host.Outcome State Fault Refusal :=
  issue (.bnz S o a) s (branch S o (fun s g l => readReg s g l a != 0))
/-- BMS (R193). -/
def execBms (S : BitVec 3) (o : BitVec 8) (m : BitVec 3) (s : State) : Host.Outcome State Fault Refusal :=
  issue (.bms S o m) s (branch S o (fun _ g l => bitAt (readM g m.toNat) l))
/-- BMC (R193). -/
def execBmc (S : BitVec 3) (o : BitVec 8) (m : BitVec 3) (s : State) : Host.Outcome State Fault Refusal :=
  issue (.bmc S o m) s (branch S o (fun _ g l => !bitAt (readM g m.toNat) l))
/-- CALL (R195). -/
def execCall (S : BitVec 3) (o : BitVec 8) (d : RegName) (s : State) : Host.Outcome State Fault Refusal :=
  issue (.call S o d) s (fun s g e => branch S o (fun _ _ _ => true) (linkTo s g d e.mask e.pc) g e)
/-- JMP (R194). -/
def execJmp (S : BitVec 3) (a : RegName) (s : State) : Host.Outcome State Fault Refusal :=
  issueWith (.jmp S a) s (jumpVia S a none)
/-- CALLI (R195). -/
def execCalli (S : BitVec 3) (d a : RegName) (s : State) : Host.Outcome State Fault Refusal :=
  issueWith (.calli S d a) s (jumpVia S a (some d))
/-- RET (R194): as JMP; the return predictor has no architectural effect. -/
def execRet (S : BitVec 3) (a : RegName) (s : State) : Host.Outcome State Fault Refusal :=
  issueWith (.ret S a) s (jumpVia S a none)
/-- NOP (R197). -/
def execNop (S : BitVec 3) (s : State) : Host.Outcome State Fault Refusal := issue (.nop S) s (onlyMove S)
/-- YIELD (R29, R197): the lanes move to PC + 4 Deferred, awaiting the entries that were Ready with it. -/
def execYield (S : BitVec 3) (s : State) : Host.Outcome State Fault Refusal :=
  issue (.yield S) s (fun s g e =>
    (moveLanes s g.gid e.prio [(e.pc + 4, e.mask)] S.toNat (.deferred 64 (readyWith s)), .quiet))
/-- EXIT (R197, R43, R61): the active lanes end. -/
def execExit (S : BitVec 3) (s : State) : Host.Outcome State Fault Refusal :=
  issue (.exit S) s (fun s g e => (endLanes s g.gid e.mask, .loud))

end Sys2Proof.Machine
end

