-- ==== Sys2Proof/Machine/Convert.lean ====
section
/-! DEFINITION. Conversions (08 R181-R188): class d = 6, the slot checks of R182, and the random draws of R185. -/

namespace Sys2Proof.Machine

/-- The slot has ROUND = 2 (R128). -/
def slotRandom (f : DWord) : Bool := slotRound f == 2
/-- SRCNT as a lane draws with it: a replayed lane with that of the first issue (R130). -/
def srcntFor (g : Group) (pc : DWord) (lane : Nat) : Word :=
  match g.srReplay.find? (fun k => k.1 == pc && bitAt k.2.1 lane) with
  | some k => k.2.2
  | none => g.srcnt
/-- The draw of element `pos` of a lane (R129, R183). -/
def drawFor (s : State) (g : Group) (pc f : DWord) (lane pos : Nat) : Nat :=
  drawU (slotSeed f) (BitVec.ofNat 32 (teamLin s g)) (srcntFor g pc lane) (BitVec.ofNat 32 (4 * laneIndex0 g lane + pos))
/-- Lanes `m` of an instruction with ROUND = 2 are performed, lanes `bad` of the same issue trap (R130): SRCNT advances once for a
first issue that completes in all of its lanes, and once for each earlier one whose last lanes these are. -/
def srNext (pc : DWord) (m bad : Mask) (g : Group) : Group :=
  let here := g.srReplay.filter (fun k => k.1 == pc)
  let first := minus (m ||| bad) (srOwed g pc)
  let ended := (here.filter (fun k => minus k.2.1 m == 0)).length + (if first != 0 && first &&& bad == 0 then 1 else 0)
  { g with
    srcnt := g.srcnt + BitVec.ofNat 32 ended,
    srReplay := ((g.srReplay.map (fun k => if k.1 == pc then (k.1, minus k.2.1 m, k.2.2) else k)).filter (fun k => k.2.1 != 0)) ++
      (if first &&& bad == 0 then [] else [(pc, first &&& bad, g.srcnt)]) }
/-- SRCNT advances when an instruction whose slot has ROUND = 2 completes in all of its lanes (R130). -/
def advanceSr (s : State) (gid : Nat) (f pc : DWord) (m bad : Mask) : State :=
  if slotRandom f then modGroup s gid (srNext pc m bad) else s
/-- CVTS and CVTX name an element beyond the slot's count (R182). -/
def posBad (f : DWord) (p : Nat) : Bool := 32 / elemWidth (slotElem f) ≤ p

/-- The slot of a conversion fails it in every active lane (R182), before any poisoned register is looked at; otherwise lanes with one
are left out. -/
def checked (i : Instr) (bad : State → Group → Bool) (k : State → Group → Ent → Mask → State × Fate) :
    State → Group → Ent → Mask → State × Fate :=
  fun s g e poison => if bad s g then causeAll s g e 0x101 0 else splitBad i k s g e poison

/-- CVTS (R183). -/
def execCvts (S : BitVec 3) (d a : RegName) (p : BitVec 2) (f : BitVec 3) (s : State) : Host.Outcome State Fault Refusal :=
  issueWith (.cvts S d a p f) s (checked (.cvts S d a p f) (fun s g => posBad (slotOf s g f.toNat) p.toNat) fun s g e bad =>
      let slot := slotOf s g f.toNat
      let r := fixed1 S d 6 (fun s g l =>
        cvtsF slot p.toNat (drawFor s g e.pc slot l p.toNat) (readReg s g l d) (readReg s g l a)) s g e
      fpInvalid (advanceSr r.1 g.gid slot e.pc e.mask bad) g e.mask (fun l => snan32 (readReg s g l a)))
/-- CVTX (R184). -/
def execCvtx (S : BitVec 3) (d a : RegName) (p : BitVec 2) (f : BitVec 3) (s : State) : Host.Outcome State Fault Refusal :=
  issueWith (.cvtx S d a p f) s (checked (.cvtx S d a p f) (fun s g => posBad (slotOf s g f.toNat) p.toNat) fun s g e bad =>
      let slot := slotOf s g f.toNat
      let r := fixed1 S d 6 (fun s g l => cvtxF slot p.toNat (drawFor s g e.pc slot l 0) (readReg s g l a)) s g e
      fpInvalid (advanceSr r.1 g.gid slot e.pc e.mask bad) g e.mask (fun l => cvtxSnan slot p.toNat (readReg s g l a)))
/-- CVTI (R186): `u` is imm[3], `v` is DIR. -/
def execCvti (S : BitVec 3) (d a : RegName) (u v : BitVec 1) (r : BitVec 2) (s : State) : Host.Outcome State Fault Refusal :=
  issue (.cvti S d a u v r) s (fun s g e =>
    fpInvalid (fixed1 S d 6 (fun s g l => cvtiF (v == 1) (u == 1) r (readReg s g l a)) s g e).1 g e.mask
      (fun l => v == 0 && snan32 (readReg s g l a)))
/-- CVTB (R187). -/
def execCvtb (S : BitVec 3) (d a : RegName) (f : BitVec 3) (s : State) : Host.Outcome State Fault Refusal :=
  issueWith (.cvtb S d a f) s (checked (.cvtb S d a f) (fun s g =>
      !slotScale (slotOf s g f.toNat) || slotRandom (slotOf s g f.toNat)) fun s g e _ =>
      let slot := slotOf s g f.toNat
      let n := slotBlk slot
      let xs := fun l => (List.range n).map (fun j => readRegAt s g l a j)
      let ws := (List.range (n / 4 + 1)).map (fun j =>
        fixedWrite g d j e.mask 6 (fun l => ((cvtbF slot (xs l)).getD j 0).setWidth 64))
      fpInvalid (moveOn (pushAll s g.gid ws) g e S) g e.mask (fun l => (xs l).any snan32))

/-- CVTH narrowing (R188). -/
def execCvthF2hl (S : BitVec 3) (d a : RegName) (s : State) : Host.Outcome State Fault Refusal :=
  issue (.cvthF2hl S d a) s (fun s g e =>
    fpInvalid (fixed1 S d 6 (two (cvthNarrow false 0) d a) s g e).1 g e.mask (fun l => snan32 (readReg s g l a)))
/-- CVTH narrowing (R188). -/
def execCvthF2hh (S : BitVec 3) (d a : RegName) (s : State) : Host.Outcome State Fault Refusal :=
  issue (.cvthF2hh S d a) s (fun s g e =>
    fpInvalid (fixed1 S d 6 (two (cvthNarrow false 1) d a) s g e).1 g e.mask (fun l => snan32 (readReg s g l a)))
/-- CVTH narrowing (R188). -/
def execCvthF2bl (S : BitVec 3) (d a : RegName) (s : State) : Host.Outcome State Fault Refusal :=
  issue (.cvthF2bl S d a) s (fun s g e =>
    fpInvalid (fixed1 S d 6 (two (cvthNarrow true 0) d a) s g e).1 g e.mask (fun l => snan32 (readReg s g l a)))
/-- CVTH narrowing (R188). -/
def execCvthF2bh (S : BitVec 3) (d a : RegName) (s : State) : Host.Outcome State Fault Refusal :=
  issue (.cvthF2bh S d a) s (fun s g e =>
    fpInvalid (fixed1 S d 6 (two (cvthNarrow true 1) d a) s g e).1 g e.mask (fun l => snan32 (readReg s g l a)))
/-- CVTH widening (R188). -/
def execCvthHl2f (S : BitVec 3) (d a : RegName) (s : State) : Host.Outcome State Fault Refusal :=
  issue (.cvthHl2f S d a) s (fun s g e =>
    fpInvalid (fixed1 S d 6 (one (cvthWiden false 0) a) s g e).1 g e.mask
      (fun l => isSnan (decHalf false (readReg s g l a) 0)))
/-- CVTH widening (R188). -/
def execCvthHh2f (S : BitVec 3) (d a : RegName) (s : State) : Host.Outcome State Fault Refusal :=
  issue (.cvthHh2f S d a) s (fun s g e =>
    fpInvalid (fixed1 S d 6 (one (cvthWiden false 1) a) s g e).1 g e.mask
      (fun l => isSnan (decHalf false (readReg s g l a) 1)))
/-- CVTH widening (R188). -/
def execCvthBl2f (S : BitVec 3) (d a : RegName) (s : State) : Host.Outcome State Fault Refusal :=
  issue (.cvthBl2f S d a) s (fun s g e =>
    fpInvalid (fixed1 S d 6 (one (cvthWiden true 0) a) s g e).1 g e.mask
      (fun l => isSnan (decHalf true (readReg s g l a) 0)))
/-- CVTH widening (R188). -/
def execCvthBh2f (S : BitVec 3) (d a : RegName) (s : State) : Host.Outcome State Fault Refusal :=
  issue (.cvthBh2f S d a) s (fun s g e =>
    fpInvalid (fixed1 S d 6 (one (cvthWiden true 1) a) s g e).1 g e.mask
      (fun l => isSnan (decHalf true (readReg s g l a) 1)))

end Sys2Proof.Machine
end

