-- ==== Sys2Proof/Machine/Cross.lean ====
section
/-! DEFINITION. Cross-lane instructions (09 R198-R202, 06 R136), barriers (R203-R206), REGRP (02 R37, R207), WINB (R208),
TCALL and TRET (03 R46-R65): what each does at issue. When the waits complete is said in Waits.lean. -/

namespace Sys2Proof.Machine

/-! ## Cross-lane -/

/-- Another entry is parked at this PC at a cross-lane instruction with a different M (R198). -/
def maskDisagrees (g : Group) (pc : DWord) (m : Mask) : Bool :=
  g.ents.any (fun x => x.pc == pc && (match x.st with
    | .parked p => (crossOpt p.i).isSome && p.mem != m
    | _ => false))

/-- The cause of an issue that fails the checks of R198, in their order; `src` is BCAST's source lane (R201). -/
def crossCause (g : Group) (e : Ent) (opt : Bool) (src : Option Nat) : Option Cause :=
  let m := readM g 0
  if minus e.mask m ≠ 0 then some 0x082
  else if !opt && minus m g.live ≠ 0 then some 0x080
  else if maskDisagrees g e.pc m then some 0x083
  else match src with
    | some l => if bitAt m l then none else some 0x082
    | none => none

/-- Issue of a cross-lane instruction: the checks, then the wait (R198, R199). -/
def crossIssue (i : Instr) (opt : Bool) (src : State → Group → Ent → Option Nat) (a b : RegName) :
    State → Group → Ent → State × Fate :=
  fun s g e => match crossCause g e opt (src s g e) with
    | some c => causeAll s g e c 0
    | none => park s g e i (readM g 0) g.vwb ((lanesOf e.mask).map (fun l => (l, readReg s g l a, readReg s g l b)))

/-- No source lane. -/
def noSrc : State → Group → Ent → Option Nat := fun _ _ _ => none

/-- LANE (R202, R51). -/
def execLane (S : BitVec 3) (X : BitVec 1) (d : RegName) (s : State) : Host.Outcome State Fault Refusal :=
  issue (.lane S X d) s (fixed1 S d 2 (fun _ g l => BitVec.ofNat 32 (if X == 1 then l else laneIndex g l)))
/-- SHFL (R201). -/
def execShfl (S : BitVec 3) (X : BitVec 1) (d a b : RegName) (s : State) : Host.Outcome State Fault Refusal :=
  issue (.shfl S X d a b) s (crossIssue (.shfl S X d a b) (X == 1) noSrc a b)
/-- BCAST (R201). -/
def execBcast (S : BitVec 3) (X : BitVec 1) (d a b : RegName) (s : State) : Host.Outcome State Fault Refusal :=
  issue (.bcast S X d a b) s
    (crossIssue (.bcast S X d a b) (X == 1) (fun s g e => some ((groupVal s g e.mask b).toNat % g.width)) a b)
/-- VOTE.BALLOT (R202): the mask is written through the scoreboard (R149), every other bit cleared (R100). -/
def execVoteBallot (S : BitVec 3) (m : BitVec 3) (a : RegName) (s : State) : Host.Outcome State Fault Refusal :=
  issue (.voteBallot S m a) s (fun s g e =>
    let (tok, t) := startResult s g e.mask
    let v := lanesWhere e.mask (fun l => readReg s g l a != 0)
    (moveOn (pushWrite t g.gid ⟨.m m.toNat, lowMask 64, [(0, v)], none, tok⟩) g e S, .quiet))
/-- VOTE.ANY (R201). -/
def execVoteAny (S : BitVec 3) (X : BitVec 1) (d a : RegName) (s : State) : Host.Outcome State Fault Refusal :=
  issue (.voteAny S X d a) s (crossIssue (.voteAny S X d a) (X == 1) noSrc a a)
/-- VOTE.ALL (R201). -/
def execVoteAll (S : BitVec 3) (X : BitVec 1) (d a : RegName) (s : State) : Host.Outcome State Fault Refusal :=
  issue (.voteAll S X d a) s (crossIssue (.voteAll S X d a) (X == 1) noSrc a a)
/-- MATCH (R201). -/
def execMatchLanes (S : BitVec 3) (X : BitVec 1) (d a : RegName) (s : State) : Host.Outcome State Fault Refusal :=
  issue (.matchLanes S X d a) s (crossIssue (.matchLanes S X d a) (X == 1) noSrc a a)
/-- RED.ADD (R201). -/
def execRedAdd (S : BitVec 3) (X : BitVec 1) (d a : RegName) (s : State) : Host.Outcome State Fault Refusal :=
  issue (.redAdd S X d a) s (crossIssue (.redAdd S X d a) (X == 1) noSrc a a)
/-- RED.MIN.S (R201). -/
def execRedMinS (S : BitVec 3) (X : BitVec 1) (d a : RegName) (s : State) : Host.Outcome State Fault Refusal :=
  issue (.redMinS S X d a) s (crossIssue (.redMinS S X d a) (X == 1) noSrc a a)
/-- RED.MIN.U (R201). -/
def execRedMinU (S : BitVec 3) (X : BitVec 1) (d a : RegName) (s : State) : Host.Outcome State Fault Refusal :=
  issue (.redMinU S X d a) s (crossIssue (.redMinU S X d a) (X == 1) noSrc a a)
/-- RED.MAX.S (R201). -/
def execRedMaxS (S : BitVec 3) (X : BitVec 1) (d a : RegName) (s : State) : Host.Outcome State Fault Refusal :=
  issue (.redMaxS S X d a) s (crossIssue (.redMaxS S X d a) (X == 1) noSrc a a)
/-- RED.MAX.U (R201). -/
def execRedMaxU (S : BitVec 3) (X : BitVec 1) (d a : RegName) (s : State) : Host.Outcome State Fault Refusal :=
  issue (.redMaxU S X d a) s (crossIssue (.redMaxU S X d a) (X == 1) noSrc a a)
/-- RED.AND (R201). -/
def execRedAnd (S : BitVec 3) (X : BitVec 1) (d a : RegName) (s : State) : Host.Outcome State Fault Refusal :=
  issue (.redAnd S X d a) s (crossIssue (.redAnd S X d a) (X == 1) noSrc a a)
/-- RED.OR (R201). -/
def execRedOr (S : BitVec 3) (X : BitVec 1) (d a : RegName) (s : State) : Host.Outcome State Fault Refusal :=
  issue (.redOr S X d a) s (crossIssue (.redOr S X d a) (X == 1) noSrc a a)
/-- RED.XOR (R201). -/
def execRedXor (S : BitVec 3) (X : BitVec 1) (d a : RegName) (s : State) : Host.Outcome State Fault Refusal :=
  issue (.redXor S X d a) s (crossIssue (.redXor S X d a) (X == 1) noSrc a a)
/-- FRED.ADD (R136, R201). -/
def execFredAdd (S : BitVec 3) (X : BitVec 1) (d a : RegName) (s : State) : Host.Outcome State Fault Refusal :=
  issue (.fredAdd S X d a) s (crossIssue (.fredAdd S X d a) (X == 1) noSrc a a)
/-- FRED.MIN (R136, R201). -/
def execFredMin (S : BitVec 3) (X : BitVec 1) (d a : RegName) (s : State) : Host.Outcome State Fault Refusal :=
  issue (.fredMin S X d a) s (crossIssue (.fredMin S X d a) (X == 1) noSrc a a)
/-- FRED.MINP (R136, R201). -/
def execFredMinp (S : BitVec 3) (X : BitVec 1) (d a : RegName) (s : State) : Host.Outcome State Fault Refusal :=
  issue (.fredMinp S X d a) s (crossIssue (.fredMinp S X d a) (X == 1) noSrc a a)
/-- FRED.MAX (R136, R201). -/
def execFredMax (S : BitVec 3) (X : BitVec 1) (d a : RegName) (s : State) : Host.Outcome State Fault Refusal :=
  issue (.fredMax S X d a) s (crossIssue (.fredMax S X d a) (X == 1) noSrc a a)
/-- FRED.MAXP (R136, R201). -/
def execFredMaxp (S : BitVec 3) (X : BitVec 1) (d a : RegName) (s : State) : Host.Outcome State Fault Refusal :=
  issue (.fredMaxp S X d a) s (crossIssue (.fredMaxp S X d a) (X == 1) noSrc a a)
/-- SCAN.ADD (R201). -/
def execScanAdd (S : BitVec 3) (X : BitVec 1) (d a : RegName) (s : State) : Host.Outcome State Fault Refusal :=
  issue (.scanAdd S X d a) s (crossIssue (.scanAdd S X d a) (X == 1) noSrc a a)
/-- SCAN.XADD (R201). -/
def execScanXadd (S : BitVec 3) (X : BitVec 1) (d a : RegName) (s : State) : Host.Outcome State Fault Refusal :=
  issue (.scanXadd S X d a) s (crossIssue (.scanXadd S X d a) (X == 1) noSrc a a)
/-- SCAN.FADD (R201). -/
def execScanFadd (S : BitVec 3) (X : BitVec 1) (d a : RegName) (s : State) : Host.Outcome State Fault Refusal :=
  issue (.scanFadd S X d a) s (crossIssue (.scanFadd S X d a) (X == 1) noSrc a a)

/-! ## Barriers -/

/-- The lanes of an entry that have already arrived in this phase (R204). -/
def doubled (g : Group) (b : Bar) (m : Mask) : Mask := lanesWhere m (fun l => b.arrived.contains (rfCell g l 0))
/-- Lanes arrive, with the accesses they made before (R204, R206). -/
def arriveLanes (s : State) (g : Group) (b : Bar) (m : Mask) : State :=
  let s := markRegs s g.gid m
  setBar s g.team { b with arrived := insAll (cellsOf g m) b.arrived,
                           before := insAll (undone s g.gid m) (b.before.filter (fun i => s.ops.any (·.id == i))) }

/-- BAR.ARRIVE (R204). -/
def execBarArrive (S : BitVec 3) (n : BitVec 5) (d : RegName) (s : State) : Host.Outcome State Fault Refusal :=
  issue (.barArrive S n d) s (fun s g e =>
    match barName s g n.toNat with
    | .error c => causeAll s g e c 0
    | .ok k =>
      let b := barOf s g.team k
      let dbl := doubled g b e.mask
      let go := minus e.mask dbl
      let e' := { e with mask := go }
      let t := if go == 0 then s else
        let (tok, t) := startResult (arriveLanes s g b go) g go
        moveOn (pushWrite t g.gid (boardWrite g d 0 go tok (fun _ => b.phase.setWidth 64))) g e' S
      (if dbl == 0 then t else raise t g.gid e.prio e.pc ⟨dbl, 0x085, e.pc, 0⟩, .loud))
/-- BAR.WAIT (R204). -/
def execBarWait (S : BitVec 3) (n : BitVec 5) (a : RegName) (s : State) : Host.Outcome State Fault Refusal :=
  issue (.barWait S n a) s (fun s g e =>
    match barName s g n.toNat with
    | .error c => causeAll s g e c 0
    | .ok k =>
      let t := setBar s g.team (barOf s g.team k)
      park t g e (.barWait S n a) 0 0 ((lanesOf e.mask).map (fun l => (l, readReg s g l a, 0))))
/-- BAR.SYNC (R204). -/
def execBarSync (S : BitVec 3) (n : BitVec 5) (s : State) : Host.Outcome State Fault Refusal :=
  issue (.barSync S n) s (fun s g e =>
    match barName s g n.toNat with
    | .error c => causeAll s g e c 0
    | .ok k =>
      let b := barOf s g.team k
      let dbl := doubled g b e.mask
      let go := minus e.mask dbl
      let t := if go == 0 then s else
        (park (arriveLanes s g b go) g { e with mask := go } (.barSync S n) 0 b.phase.toNat []).1
      (if dbl == 0 then t else raise t g.gid e.prio e.pc ⟨dbl, 0x085, e.pc, 0⟩, .loud))

/-! ## REGRP, WINB, TCALL, TRET -/

/-- A lane of the other role of the team is parked at REGRP (R207). -/
def otherRoleRegrps (s : State) (g : Group) : Bool :=
  s.groups.any (fun h => h.team == g.team && h.consumer != g.consumer && !(parkedAt isRegrp h).isEmpty)
/-- REGRP (R37, R207). -/
def execRegrp (S : BitVec 3) (k f c : BitVec 7) (s : State) : Host.Outcome State Fault Refusal :=
  issue (.regrp S k f c) s (fun s g e =>
    if !g.path.isEmpty || otherRoleRegrps s g then causeAll s g e 0x084 0
    else park s g e (.regrp S k f c) 0 0 [])
/-- WINB (R208): immediate class. -/
def execWinb (S : BitVec 3) (i : BitVec 8) (s : State) : Host.Outcome State Fault Refusal :=
  issue (.winb S i) s (fun s g e =>
    if g.budget < i.toNat + 8 then causeAll s g e 0x088 0
    else (moveOn (modGroup s g.gid (fun g => { g with vwb := i.toNat })) g e S, .quiet))
/-- TCALL (R46, R47). -/
def execTcall (S m : BitVec 3) (p : RegName) (n : BitVec 3) (s : State) : Host.Outcome State Fault Refusal :=
  issue (.tcall S m p n) s (fun s g e =>
    if g.width = 1 then causeAll s g e 0x090 0
    else park s g e (.tcall S m p n) 0 0 [(lowest e.mask, readK g (kNum p), readK g (kNum p + 1))])
/-- TRET (R59). -/
def execTret (S : BitVec 3) (s : State) : Host.Outcome State Fault Refusal :=
  issue (.tret S) s (fun s g e =>
    if g.path.isEmpty then causeAll s g e 0x095 0 else park s g e (.tret S) 0 0 [])

end Sys2Proof.Machine
end

