-- ==== Sys2Proof/Machine/Cycle.lean ====
section
/-! DEFINITION. Who moves next (log entry 2): one issue of a core's cycle, one event, or the beginning of a core's cycle with the
engines' own events after it. And where the next word is fetched from, for the test of one word after reset. -/

namespace Sys2Proof.Machine

/-- What a step comes to: an outcome that needs no instruction, or an instruction or event to run. -/
inductive Todo where
  | out (o : Host.Outcome State Fault Refusal)
  | run (i : Instr) (s : State)
  /-- the runahead groups of a core may issue a load (R40) -/
  | ahead (n : Nat) (s : State)

/-! ## Events of the machine's own (log entry 2) -/

/-- Events of an access in flight. -/
def opEvents (o : MemOp) : List Instr :=
  let lanes := (o.accs.filter (fun a => !a.done)).map (fun a => match o.kind, a.at_ with
    | .ratom _ _, _ => Instr.ratomResult o.id a.lane .start
    | _, .win _ _ _ => .windowAccessArrival o.id a.lane
    | _, _ => .storePerformed o.id a.lane)
  match o.kind with
  | .ratom _ _ => lanes
  | .store => lanes
  | .stsp => lanes
  | .cadd _ => lanes
  | .atom _ => lanes ++ [.loadResult o.id]
  | _ => (lanes.filter (fun i => match i with
      | .windowAccessArrival _ _ => true
      | _ => false)) ++ [.loadResult o.id]
/-- The first elements of a copy that have not begun, as many as leave in one packet where they go to another package (R332). -/
def freshElements (s : State) (o : AOp) (w : List DWord) : List Nat :=
  let k := max 1 (256 / descES w)
  let ns := (List.range (o.done.length + o.flight.length + o.held.length + o.got.length + k)).filter (fun n =>
    !o.done.contains n && !o.flight.any (fun f => f.idx == n) && !o.held.any (fun h => h.1 == n) &&
    !o.got.any (fun h => h.1 == n) && n < copyCount w)
  ns.take (if (ns.take 1).any (fun n => isRemote s o.ctx (dstAddr w n)) then k else 1)
/-- Elements of a copy that may go on: those that have been read, those that wait at a tile, and the next ones. -/
def nextElements (s : State) (o : AOp) (w : List DWord) : List Nat :=
  (o.got.map (fun h => h.1)) ++ ((o.held.map (fun h => h.1)).filter (fun n => (tileRecord s (.element o.id n)).isSome)) ++
  freshElements s o w
/-- Events of an asynchronous operation. -/
def aopEvents (s : State) (o : AOp) : List Instr := match o.kind with
  | .copy _ w => (nextElements s o w).map (fun n =>
      Instr.copyElement o.id (winIdx w n 0) (winIdx w n 1) (winIdx w n 2) (winIdx w n 3) .start) ++ [.copyComplete o.id]
  | .pages _ _ => [.pageRequestRecordPost o.id]
  | .tiles _ _ _ => [.ctxmoveComplete o.id]
  | _ => []
/-- Events of a held write. -/
def heldEvents (h : HeldWrite) : List Instr :=
  (h.invalidate.filter ownAgent).map (fun a => .invalidation a h.sector) ++
  (h.owed.filter ownAgent).map (fun a => .tAcknowledge a h.sector) ++ [.completionPoint h.sector]
/-- Events of an entry. -/
def entEvents (g : Group) (e : Ent) : List Instr := match e.st with
  | .pending _ => [.pendingTrapRelease g.core g.gid]
  | .stalled (.icinv _ _ _ _ _) => [.icinvComplete g.core g.gid e.pc e.prio]
  | .stalled .coll => [.collCheckReturn g.core g.gid]
  | _ => []
/-- Events of a team. -/
def teamEvents (s : State) (t : Team) : List Instr :=
  (if t.zeroing then [.scratchpadZeroingComplete t.core t.tid] else []) ++
  (if t.wfetch.isSome then [.mailboxWrite t.core t.tid] else []) ++
  (if s.groups.any (fun g => g.team == t.tid) then [] else [.teamRelease t.core t.tid])
/-- Events of a save or restore. -/
def preEvents (s : State) (p : Preempt) : List Instr :=
  if p.restore then [.restoreResume p.core false]
  else
    (s.groups.filter (fun g => g.core == p.core && !g.halted)).map (fun g => Instr.groupHalt p.core g.gid) ++
    (if p.tmo = 0 then [.forcedSave p.core] else []) ++
    (s.teams.filter (fun t => t.core == p.core)).map (fun t => .teamStateSave p.core t.tid)
/-- Every event by which the machine goes on by itself; one whose time has not come changes nothing. -/
def ownEvents (s : State) : List Instr :=
  (s.groups.map (fun g => (g.ents.map (entEvents g)).flatten)).flatten ++
  (s.ops.map opEvents).flatten ++ (s.aops.map (aopEvents s)).flatten ++
  ((s.cores.filter (fun p => !p.2.stream.isEmpty)).map (fun p => Instr.matrixOpRetire p.1 false)) ++
  (s.heldWrites.map heldEvents).flatten ++ (s.teams.map (teamEvents s)).flatten ++
  (s.wqs.map (fun p => Instr.launchCheck p.1)) ++
  (if s.grids.isEmpty then [] else (List.range 13).map Instr.placeStep) ++
  (s.preempts.map (preEvents s)).flatten ++ (s.trapWait.map (fun r => Instr.trapRecordPost r.tenant)) ++
  (s.kills.map (fun k => Instr.killDone k.core)) ++
  ((s.binds.filter (fun b => b.st == .open_ || !b.owe.isEmpty)).map (fun b => Instr.collCommit b.ctx b.c)) ++
  ((List.range s.retries.length).map Instr.retryResend)

/-- What the translation of a control-space read waits for, or its data elsewhere, is asked for. -/
def askRead (s : State) : XRes → State
  | .held x => askWalk s x
  | .ok x => (match x.at_ with
    | .ctl pa => askData s (pa / 64)
    | _ => s)
  | .fault _ => s
/-- The read of an entry's next word, or of the table of its TCALL, is asked for. -/
def askEnt (g : Group) (s : State) (e : Ent) : State := match e.st with
  | .parked p => (match p.i, p.vals with
    | .tcall _ _ _ _, (_, a, b) :: _ => askRead s (translate s (.core g.core) g.ctxid g.kernel .load (mkPair a b) 64)
    | _, _ => s)
  | _ => if unparked e && (heldWord s g e.pc).isNone then askRead s (fetchAt s g.core g.ctxid g.kernel e.pc) else s
/-- Dirty data of the own home are written back. DESIGN CHOICE (log entry 76): in every core's turn. -/
def writeBacks (s : State) : State := s.hold.foldl (fun s h => writeBack s h.1) s
/-- The speculative loads of a group that stay in flight (R42): its lanes are still at the branch, or on the confirmed path before the
load. One whose translation was invalidated is given up once the branch has resolved, and made again. -/
def aheadStays (g : Group) (r : AheadLoad) : Bool :=
  !g.halted && g.ents.any (fun e => unparked e && e.mask == r.mask && r.branch ≤ e.pc && e.pc ≤ r.pc &&
    (!r.stale || e.pc == r.branch))
/-- The others are discarded. -/
def pruneAhead (s : State) (n : Nat) : State :=
  { s with groups := s.groups.map (fun g => if g.core == n && !g.ahead.isEmpty then
      { g with ahead := g.ahead.filter (aheadStays g) } else g) }
/-- A group of a role that the launch record marks as runahead (R40, R108): a producer's. -/
def isAhead (s : State) (g : Group) : Bool := !g.consumer && ((recOf s g).getD 0 0).getLsbD 0
/-- The move of a core's runahead groups. -/
def aheadMove (s : State) (n : Nat) : List Move :=
  if s.groups.any (fun g => g.core == n && isAhead s g) then [.ahead n] else []
/-- What the package does by itself in a cycle of core n: it discards speculative loads (R42), asks for data that the core's reads wait
for (R86), writes back what is dirty, tries an XRES request in progress again (R379), moves what DOWN ports hold (R428), lets every port send (R331), and ends a save whose teams are all saved or ended (R403). -/
def chores (s : State) (n : Nat) : State :=
  let s := (s.groups.filter (fun g => g.core == n)).foldl (fun s g => g.ents.foldl (askEnt g) s) (pruneAhead s n)
  let s := servePorts (reroute (xresRetry (writeBacks s)))
  (s.preempts.filter (fun p => !p.restore)).foldl (fun s p => saveOver s p.core) s

/-! ## One move -/

/-- Fetch and decode the word an issue is for (R24, R139, R145): what is to run, under the state in which the word is held. -/
def fetchRun (s : State) (g : Group) (e : Ent) : Todo :=
  match fetchWord s g e.pc with
  | .held _ => .out (.next { s with sel := none })
  | .fault c => .out (fetchFault c s)
  | .word w ss cached =>
    let t := keepWord s g e.pc w ss cached
    match decode w with
    | .ok i => .run i t
    | .badOperand i => .out (illegalOperands i t)
    | .illegalOpcode => .run (.illegalOpcodeWord w) t
/-- The next issue of a core's cycle: an entry that has gone, or a core that has stopped, issues nothing; with none left, what
the cycle's issues bring about in its teams takes place (R199, R205, R381), also in the cycle of a HALT (R284). -/
def issueNext (s : State) (core : Nat) : Todo :=
  if coreStopped s core then
    let t := modCore s core (fun c => { c with issueq := [] })
    .out (.next (if (coreOf s core).halted then settleCore t core else t))
  else match takePick s core with
    | none => .out (.next (settleCore { s with sel := none } core))
    | some t => match selected t with
      | none => .out (.next { t with sel := none })
      | some (g, e) => if g.halted then .out (.next { t with sel := none }) else fetchRun t g e
/-- A core's cycle begins: its issues come first, then the events of the machine's own, and the next core has its turn. -/
def planCycle (s : State) : State :=
  let n := s.turn
  let s := beginCycle (chores s n) n
  { s with agenda := (coreOf s n).issueq.map (fun _ => Move.core n) ++ [Move.core n] ++ aheadMove s n ++ (ownEvents s).map Move.event,
           turn := if n + 1 < Config.nCores then n + 1 else 0 }
/-- The next move. -/
def nextMove (s : State) : Todo :=
  if !s.powered then .out (.fault .powerOff)
  else match s.agenda with
    | .event i :: rest => .run i { s with agenda := rest, sel := none }
    | .core n :: rest => issueNext { s with agenda := rest } n
    | .ahead n :: rest => .ahead n { s with agenda := rest, sel := none }
    | [] => if (coreOf s s.turn).issueq.isEmpty then .out (.next (planCycle s)) else issueNext s s.turn

/-! ## A word where the next one is fetched (log entry 10) -/

/-- The physical address of the word placed: its page, after four tables, in the own home. -/
def bedBase (s : State) : Nat := ownPkg s * 2 ^ 33
/-- Control memory with context 0 and one executable page at virtual address 0, whose first word is w (R73-R75). -/
def bedMem (s : State) (w : Word) : Mem :=
  let b := bedBase s
  let put := fun (m : Mem) (a v : Nat) => memSetBytes m a (leBytes 8 v)
  let m := put (put s.ctl s.ctxtab.toNat (b + 0x1001)) (s.ctxtab.toNat + 8) 0
  let m := put (put m (b + 0x1000) (b + 0x2001)) (b + 0x2000) (b + 0x3001)
  let m := put (put m (b + 0x3000) (b + 0x4001)) (b + 0x4000) (b + 0x500B)
  memSetBytes m (b + 0x5000) (bytesOfWord w)
/-- The grid of the team placed: one team, an empty record. -/
def bedGrid (id : Nat) : Grid :=
  ⟨id, 0, false, 0, 0, 0, [], 1, [], 0⟩
/-- The team placed: one group of eight lanes at kernel level on compute core 0. -/
def bedTeam (id grid : Nat) : Team := {
  tid := id, core := 0, grid := grid, tenant := 0, ctx := 0, kernel := true, x := 0, y := 0, z := 0, lin := 0, lrAddr := 0,
  spBase := 0, spBytes := 4096, alloc := 4096, producers := 1, width := 8, twbar := 0, bars := [], queues := [], frames := [],
  zeroing := false, wfetch := none, fetched := [], ops := [], named := [] }
/-- Its group, whose lanes are Ready at PC 0. -/
def bedGroup (id team : Nat) : Group := {
  gid := id, core := 0, team := team, gslot := 0, num := 0, consumer := false, width := 8, budget := 96, octets := [⟨0, 0, 0, 0, 0⟩],
  ord := [0], path := [], k := [], m := [], h := [], vwb := 0, srcnt := 0, ctxid := 0, xpc := 0, xcause := 0, xlmask := 0,
  kernel := true, live := 255, ents := [⟨0, 0, 255, 0, .ready⟩], pend := [], opp := 0, deps := [], near := [], tcDeps := [], qJoins := [],
  ltrap := none, loop := [], loopStale := false, halted := false, forced := false, engineWait := false, brkSkip := [],
  nrReplay := [], srReplay := [], srcnt0 := 0, deferred := [], ahead := [], owes := [], stepOwed := [] }
/-- A team is placed on compute core 0, its group's issue is chosen for the next step, and the word stands where it is fetched. -/
def bed (s : State) (w : Word) : State :=
  let n := s.nextId
  let s1 : State := { s with
    ctl := bedMem s w, powered := true, tripped := false, lost := false, turn := 0, agenda := [], nextId := n + 4,
    grids := s.grids ++ [bedGrid n], teams := s.teams ++ [bedTeam (n + 1) n], groups := s.groups ++ [bedGroup (n + 2) (n + 1)] }
  modCore s1 0 (fun c => { c with
    held := false, halted := false, issueq := [⟨n + 2, 0, 0, 255, []⟩],
    bundles := c.bundles ++ [⟨n + 3, false, 8, 96, 0, 0, [(0, 0)], []⟩] })

end Sys2Proof.Machine
end

