-- ==== Sys2Proof/Machine/Float.lean ====
section
/-! DEFINITION. Floating-point instructions (08 R174-R180). A signalling NaN operand raises fp-invalid after the results
are written (R133). -/

namespace Sys2Proof.Machine

/-- A signalling NaN among two FP32 sources. -/
def sn2 (a b : RegName) : State → Group → Nat → Bool := fun s g l => snan32 (readReg s g l a) || snan32 (readReg s g l b)
/-- Among D and two sources. -/
def sn3 (d a b : RegName) : State → Group → Nat → Bool :=
  fun s g l => snan32 (readReg s g l d) || snan32 (readReg s g l a) || snan32 (readReg s g l b)
/-- In one FP32 source. -/
def sn1 (a : RegName) : State → Group → Nat → Bool := fun s g l => snan32 (readReg s g l a)
/-- In a half of any of some registers (R179). -/
def snH (bf : Bool) (rs : List RegName) : State → Group → Nat → Bool :=
  fun s g l => snanHalves bf (rs.map (fun r => readReg s g l r))

/-- FADD (R175). -/
def execFadd (S : BitVec 3) (d a b : RegName) (s : State) : Host.Outcome State Fault Refusal :=
  issue (.fadd S d a b) s (fp1 S d 4 (two faddF a b) (sn2 a b))

/-- FSUB (R175). -/
def execFsub (S : BitVec 3) (d a b : RegName) (s : State) : Host.Outcome State Fault Refusal :=
  issue (.fsub S d a b) s (fp1 S d 4 (two fsubF a b) (sn2 a b))

/-- FMUL (R175). -/
def execFmul (S : BitVec 3) (d a b : RegName) (s : State) : Host.Outcome State Fault Refusal :=
  issue (.fmul S d a b) s (fp1 S d 4 (two fmulF a b) (sn2 a b))

/-- FFMA (R175). -/
def execFfma (S : BitVec 3) (d a b : RegName) (s : State) : Host.Outcome State Fault Refusal :=
  issue (.ffma S d a b) s (fp1 S d 4 (three ffmaF d a b) (sn3 d a b))

/-- FMIN (R176). -/
def execFmin (S : BitVec 3) (X : BitVec 1) (d a b : RegName) (s : State) : Host.Outcome State Fault Refusal :=
  issue (.fmin S X d a b) s (fp1 S d 4 (two (fminmaxF false (X == 1)) a b) (sn2 a b))

/-- FMAX (R176). -/
def execFmax (S : BitVec 3) (X : BitVec 1) (d a b : RegName) (s : State) : Host.Outcome State Fault Refusal :=
  issue (.fmax S X d a b) s (fp1 S d 4 (two (fminmaxF true (X == 1)) a b) (sn2 a b))

/-- FSET.EQ (R177). -/
def execFsetEq (S : BitVec 3) (d a b : RegName) (s : State) : Host.Outcome State Fault Refusal :=
  issue (.fsetEq S d a b) s (fp1 S d 4 (two fsetEqF a b) (sn2 a b))

/-- FSET.NE (R177). -/
def execFsetNe (S : BitVec 3) (d a b : RegName) (s : State) : Host.Outcome State Fault Refusal :=
  issue (.fsetNe S d a b) s (fp1 S d 4 (two fsetNeF a b) (sn2 a b))

/-- FSET.LT (R177). -/
def execFsetLt (S : BitVec 3) (X : BitVec 1) (d a b : RegName) (s : State) : Host.Outcome State Fault Refusal :=
  issue (.fsetLt S X d a b) s (fp1 S d 4 (two (fsetLtF (X == 1)) a b) (sn2 a b))

/-- FSET.LE (R177). -/
def execFsetLe (S : BitVec 3) (X : BitVec 1) (d a b : RegName) (s : State) : Host.Outcome State Fault Refusal :=
  issue (.fsetLe S X d a b) s (fp1 S d 4 (two (fsetLeF (X == 1)) a b) (sn2 a b))

/-- FCLASS (R177): raises no cause. -/
def execFclass (S : BitVec 3) (i : BitVec 8) (d a : RegName) (s : State) : Host.Outcome State Fault Refusal :=
  issue (.fclass S i d a) s (fixed1 S d 4 (one (fclassF i) a))

/-- FNEG (R178). -/
def execFneg (S : BitVec 3) (d a : RegName) (s : State) : Host.Outcome State Fault Refusal :=
  issue (.fneg S d a) s (fp1 S d 4 (one fnegF a) (sn1 a))

/-- FABS (R178). -/
def execFabs (S : BitVec 3) (d a : RegName) (s : State) : Host.Outcome State Fault Refusal :=
  issue (.fabs S d a) s (fp1 S d 4 (one fabsF a) (sn1 a))

/-- FRCP (R178). -/
def execFrcp (S : BitVec 3) (d a : RegName) (s : State) : Host.Outcome State Fault Refusal :=
  issue (.frcp S d a) s (fpBoard1 S d frcpF a)

/-- FRSQ (R178). -/
def execFrsq (S : BitVec 3) (d a : RegName) (s : State) : Host.Outcome State Fault Refusal :=
  issue (.frsq S d a) s (fpBoard1 S d frsqF a)

/-- FSQRT (R178). -/
def execFsqrt (S : BitVec 3) (d a : RegName) (s : State) : Host.Outcome State Fault Refusal :=
  issue (.fsqrt S d a) s (fpBoard1 S d fsqrtF a)

/-- FEX2 (R178). -/
def execFex2 (S : BitVec 3) (d a : RegName) (s : State) : Host.Outcome State Fault Refusal :=
  issue (.fex2 S d a) s (fpBoard1 S d fex2F a)

/-- FLG2 (R178). -/
def execFlg2 (S : BitVec 3) (d a : RegName) (s : State) : Host.Outcome State Fault Refusal :=
  issue (.flg2 S d a) s (fpBoard1 S d flg2F a)

/-- FSIN (R178). -/
def execFsin (S : BitVec 3) (d a : RegName) (s : State) : Host.Outcome State Fault Refusal :=
  issue (.fsin S d a) s (fpBoard1 S d fsinF a)

/-- FCOS (R178). -/
def execFcos (S : BitVec 3) (d a : RegName) (s : State) : Host.Outcome State Fault Refusal :=
  issue (.fcos S d a) s (fpBoard1 S d fcosF a)

/-- FTANH (R178). -/
def execFtanh (S : BitVec 3) (d a : RegName) (s : State) : Host.Outcome State Fault Refusal :=
  issue (.ftanh S d a) s (fpBoard1 S d ftanhF a)

/-- HADD2 (R179). -/
def execHadd2 (S : BitVec 3) (X : BitVec 1) (d a b : RegName) (s : State) : Host.Outcome State Fault Refusal :=
  issue (.hadd2 S X d a b) s (fp1 S d 4 (two (hadd2F (X == 1)) a b) (snH (X == 1) [a, b]))

/-- HMUL2 (R179). -/
def execHmul2 (S : BitVec 3) (X : BitVec 1) (d a b : RegName) (s : State) : Host.Outcome State Fault Refusal :=
  issue (.hmul2 S X d a b) s (fp1 S d 4 (two (hmul2F (X == 1)) a b) (snH (X == 1) [a, b]))

/-- HFMA2 (R179). -/
def execHfma2 (S : BitVec 3) (X : BitVec 1) (d a b : RegName) (s : State) : Host.Outcome State Fault Refusal :=
  issue (.hfma2 S X d a b) s (fp1 S d 4 (three (hfma2F (X == 1)) d a b) (snH (X == 1) [d, a, b]))

/-- Hmin2 (R180): D is the second source. -/
def execHmin2 (S : BitVec 3) (X : BitVec 1) (d a : RegName) (s : State) : Host.Outcome State Fault Refusal :=
  issue (.hmin2 S X d a) s (fp1 S d 4 (two (hminmaxF (X == 1) false false) d a) (snH (X == 1) [d, a]))

/-- Hmin2P (R180): D is the second source. -/
def execHmin2P (S : BitVec 3) (X : BitVec 1) (d a : RegName) (s : State) : Host.Outcome State Fault Refusal :=
  issue (.hmin2P S X d a) s (fp1 S d 4 (two (hminmaxF (X == 1) false true) d a) (snH (X == 1) [d, a]))

/-- Hmax2 (R180): D is the second source. -/
def execHmax2 (S : BitVec 3) (X : BitVec 1) (d a : RegName) (s : State) : Host.Outcome State Fault Refusal :=
  issue (.hmax2 S X d a) s (fp1 S d 4 (two (hminmaxF (X == 1) true false) d a) (snH (X == 1) [d, a]))

/-- Hmax2P (R180): D is the second source. -/
def execHmax2P (S : BitVec 3) (X : BitVec 1) (d a : RegName) (s : State) : Host.Outcome State Fault Refusal :=
  issue (.hmax2P S X d a) s (fp1 S d 4 (two (hminmaxF (X == 1) true true) d a) (snH (X == 1) [d, a]))

/-- HNEG2 (R180). -/
def execHneg2 (S : BitVec 3) (X : BitVec 1) (d a : RegName) (s : State) : Host.Outcome State Fault Refusal :=
  issue (.hneg2 S X d a) s (fp1 S d 4 (one (hneg2F (X == 1)) a) (snH (X == 1) [a]))

/-- HABS2 (R180). -/
def execHabs2 (S : BitVec 3) (X : BitVec 1) (d a : RegName) (s : State) : Host.Outcome State Fault Refusal :=
  issue (.habs2 S X d a) s (fp1 S d 4 (one (habs2F (X == 1)) a) (snH (X == 1) [a]))

end Sys2Proof.Machine
end

