-- ==== Sys2Proof/Machine/Dispatch.lean ====
section
/-! DEFINITION. One arm per constructor of Instr. -/

namespace Sys2Proof.Machine

def exec (i : Instr) (s : State) : Host.Outcome State Fault Refusal :=
  match i with
  | .blk S imm => Sys2Proof.Machine.execBlk S imm s
  | .br S o => Sys2Proof.Machine.execBr S o s
  | .bz S o a => Sys2Proof.Machine.execBz S o a s
  | .bnz S o a => Sys2Proof.Machine.execBnz S o a s
  | .bms S o m => Sys2Proof.Machine.execBms S o m s
  | .bmc S o m => Sys2Proof.Machine.execBmc S o m s
  | .call S o d => Sys2Proof.Machine.execCall S o d s
  | .jmp S a => Sys2Proof.Machine.execJmp S a s
  | .calli S d a => Sys2Proof.Machine.execCalli S d a s
  | .ret S a => Sys2Proof.Machine.execRet S a s
  | .nop S => Sys2Proof.Machine.execNop S s
  | .yield S => Sys2Proof.Machine.execYield S s
  | .exit S => Sys2Proof.Machine.execExit S s
  | .add S x d a b => Sys2Proof.Machine.execAdd S x d a b s
  | .sub S x d a b => Sys2Proof.Machine.execSub S x d a b s
  | .addi S imm d a => Sys2Proof.Machine.execAddi S imm d a s
  | .mul S d a b => Sys2Proof.Machine.execMul S d a b s
  | .mulh S x d a b => Sys2Proof.Machine.execMulh S x d a b s
  | .muli S imm d a => Sys2Proof.Machine.execMuli S imm d a s
  | .div S x d a b => Sys2Proof.Machine.execDiv S x d a b s
  | .rem S x d a b => Sys2Proof.Machine.execRem S x d a b s
  | .and S d a b => Sys2Proof.Machine.execAnd S d a b s
  | .or S d a b => Sys2Proof.Machine.execOr S d a b s
  | .xor S d a b => Sys2Proof.Machine.execXor S d a b s
  | .andi S imm d a => Sys2Proof.Machine.execAndi S imm d a s
  | .ori S imm d a => Sys2Proof.Machine.execOri S imm d a s
  | .xori S imm d a => Sys2Proof.Machine.execXori S imm d a s
  | .shl S d a b => Sys2Proof.Machine.execShl S d a b s
  | .shr S x d a b => Sys2Proof.Machine.execShr S x d a b s
  | .shli S imm d a => Sys2Proof.Machine.execShli S imm d a s
  | .shri S imm d a => Sys2Proof.Machine.execShri S imm d a s
  | .shrai S imm d a => Sys2Proof.Machine.execShrai S imm d a s
  | .movi S imm d => Sys2Proof.Machine.execMovi S imm d s
  | .not S d a => Sys2Proof.Machine.execNot S d a s
  | .neg S d a => Sys2Proof.Machine.execNeg S d a s
  | .abs S d a => Sys2Proof.Machine.execAbs S d a s
  | .clz S d a => Sys2Proof.Machine.execClz S d a s
  | .popc S d a => Sys2Proof.Machine.execPopc S d a s
  | .brev S d a => Sys2Proof.Machine.execBrev S d a s
  | .mov S d a => Sys2Proof.Machine.execMov S d a s
  | .bfx S d a b => Sys2Proof.Machine.execBfx S d a b s
  | .bfi S d a b => Sys2Proof.Machine.execBfi S d a b s
  | .isetEq S d a b => Sys2Proof.Machine.execIsetEq S d a b s
  | .isetNe S d a b => Sys2Proof.Machine.execIsetNe S d a b s
  | .isetLt S x d a b => Sys2Proof.Machine.execIsetLt S x d a b s
  | .isetLe S x d a b => Sys2Proof.Machine.execIsetLe S x d a b s
  | .sel S d a b => Sys2Proof.Machine.execSel S d a b s
  | .add64 S d a b => Sys2Proof.Machine.execAdd64 S d a b s
  | .addi64 S imm d a => Sys2Proof.Machine.execAddi64 S imm d a s
  | .lea S d a b => Sys2Proof.Machine.execLea S d a b s
  | .imad S d a b => Sys2Proof.Machine.execImad S d a b s
  | .fadd S d a b => Sys2Proof.Machine.execFadd S d a b s
  | .fsub S d a b => Sys2Proof.Machine.execFsub S d a b s
  | .fmul S d a b => Sys2Proof.Machine.execFmul S d a b s
  | .ffma S d a b => Sys2Proof.Machine.execFfma S d a b s
  | .fmin S x d a b => Sys2Proof.Machine.execFmin S x d a b s
  | .fmax S x d a b => Sys2Proof.Machine.execFmax S x d a b s
  | .fsetEq S d a b => Sys2Proof.Machine.execFsetEq S d a b s
  | .fsetNe S d a b => Sys2Proof.Machine.execFsetNe S d a b s
  | .fsetLt S x d a b => Sys2Proof.Machine.execFsetLt S x d a b s
  | .fsetLe S x d a b => Sys2Proof.Machine.execFsetLe S x d a b s
  | .fclass S imm d a => Sys2Proof.Machine.execFclass S imm d a s
  | .fneg S d a => Sys2Proof.Machine.execFneg S d a s
  | .fabs S d a => Sys2Proof.Machine.execFabs S d a s
  | .frcp S d a => Sys2Proof.Machine.execFrcp S d a s
  | .frsq S d a => Sys2Proof.Machine.execFrsq S d a s
  | .fsqrt S d a => Sys2Proof.Machine.execFsqrt S d a s
  | .fex2 S d a => Sys2Proof.Machine.execFex2 S d a s
  | .flg2 S d a => Sys2Proof.Machine.execFlg2 S d a s
  | .fsin S d a => Sys2Proof.Machine.execFsin S d a s
  | .fcos S d a => Sys2Proof.Machine.execFcos S d a s
  | .ftanh S d a => Sys2Proof.Machine.execFtanh S d a s
  | .hadd2 S x d a b => Sys2Proof.Machine.execHadd2 S x d a b s
  | .hmul2 S x d a b => Sys2Proof.Machine.execHmul2 S x d a b s
  | .hfma2 S x d a b => Sys2Proof.Machine.execHfma2 S x d a b s
  | .hmin2 S x d a => Sys2Proof.Machine.execHmin2 S x d a s
  | .hmin2P S x d a => Sys2Proof.Machine.execHmin2P S x d a s
  | .hmax2 S x d a => Sys2Proof.Machine.execHmax2 S x d a s
  | .hmax2P S x d a => Sys2Proof.Machine.execHmax2P S x d a s
  | .hneg2 S x d a => Sys2Proof.Machine.execHneg2 S x d a s
  | .habs2 S x d a => Sys2Proof.Machine.execHabs2 S x d a s
  | .cvts S d a p f => Sys2Proof.Machine.execCvts S d a p f s
  | .cvtx S d a p f => Sys2Proof.Machine.execCvtx S d a p f s
  | .cvti S d a u v r => Sys2Proof.Machine.execCvti S d a u v r s
  | .cvtb S d a f => Sys2Proof.Machine.execCvtb S d a f s
  | .cvthF2hl S d a => Sys2Proof.Machine.execCvthF2hl S d a s
  | .cvthF2hh S d a => Sys2Proof.Machine.execCvthF2hh S d a s
  | .cvthF2bl S d a => Sys2Proof.Machine.execCvthF2bl S d a s
  | .cvthF2bh S d a => Sys2Proof.Machine.execCvthF2bh S d a s
  | .cvthHl2f S d a => Sys2Proof.Machine.execCvthHl2f S d a s
  | .cvthHh2f S d a => Sys2Proof.Machine.execCvthHh2f S d a s
  | .cvthBl2f S d a => Sys2Proof.Machine.execCvthBl2f S d a s
  | .cvthBh2f S d a => Sys2Proof.Machine.execCvthBh2f S d a s
  | .lane S x d => Sys2Proof.Machine.execLane S x d s
  | .shfl S x d a b => Sys2Proof.Machine.execShfl S x d a b s
  | .voteAny S x d a => Sys2Proof.Machine.execVoteAny S x d a s
  | .voteAll S x d a => Sys2Proof.Machine.execVoteAll S x d a s
  | .voteBallot S m a => Sys2Proof.Machine.execVoteBallot S m a s
  | .bcast S x d a b => Sys2Proof.Machine.execBcast S x d a b s
  | .matchLanes S x d a => Sys2Proof.Machine.execMatchLanes S x d a s
  | .redAdd S x d a => Sys2Proof.Machine.execRedAdd S x d a s
  | .redMinS S x d a => Sys2Proof.Machine.execRedMinS S x d a s
  | .redMinU S x d a => Sys2Proof.Machine.execRedMinU S x d a s
  | .redMaxS S x d a => Sys2Proof.Machine.execRedMaxS S x d a s
  | .redMaxU S x d a => Sys2Proof.Machine.execRedMaxU S x d a s
  | .redAnd S x d a => Sys2Proof.Machine.execRedAnd S x d a s
  | .redOr S x d a => Sys2Proof.Machine.execRedOr S x d a s
  | .redXor S x d a => Sys2Proof.Machine.execRedXor S x d a s
  | .fredAdd S x d a => Sys2Proof.Machine.execFredAdd S x d a s
  | .fredMin S x d a => Sys2Proof.Machine.execFredMin S x d a s
  | .fredMinp S x d a => Sys2Proof.Machine.execFredMinp S x d a s
  | .fredMax S x d a => Sys2Proof.Machine.execFredMax S x d a s
  | .fredMaxp S x d a => Sys2Proof.Machine.execFredMaxp S x d a s
  | .scanAdd S x d a => Sys2Proof.Machine.execScanAdd S x d a s
  | .scanXadd S x d a => Sys2Proof.Machine.execScanXadd S x d a s
  | .scanFadd S x d a => Sys2Proof.Machine.execScanFadd S x d a s
  | .barArrive S n d => Sys2Proof.Machine.execBarArrive S n d s
  | .barWait S n a => Sys2Proof.Machine.execBarWait S n a s
  | .barSync S n => Sys2Proof.Machine.execBarSync S n s
  | .regrp S k f c => Sys2Proof.Machine.execRegrp S k f c s
  | .winb S imm => Sys2Proof.Machine.execWinb S imm s
  | .tcall S m p n => Sys2Proof.Machine.execTcall S m p n s
  | .tret S => Sys2Proof.Machine.execTret S s
  | .ld S c d a b => Sys2Proof.Machine.execLd S c d a b s
  | .ldB64 S c d a b => Sys2Proof.Machine.execLdB64 S c d a b s
  | .ldB8 S d a b => Sys2Proof.Machine.execLdB8 S d a b s
  | .ldB16 S d a b => Sys2Proof.Machine.execLdB16 S d a b s
  | .ldNr S c d a m => Sys2Proof.Machine.execLdNr S c d a m s
  | .st S c d a b => Sys2Proof.Machine.execSt S c d a b s
  | .stB64 S c d a b => Sys2Proof.Machine.execStB64 S c d a b s
  | .stB8 S d a b => Sys2Proof.Machine.execStB8 S d a b s
  | .stB16 S d a b => Sys2Proof.Machine.execStB16 S d a b s
  | .ldsp S d a b => Sys2Proof.Machine.execLdsp S d a b s
  | .stsp S d a b => Sys2Proof.Machine.execStsp S d a b s
  | .atom S d a o => Sys2Proof.Machine.execAtom S d a o s
  | .ratom S d a o => Sys2Proof.Machine.execRatom S d a o s
  | .cadd S d a f => Sys2Proof.Machine.execCadd S d a f s
  | .fence S c => Sys2Proof.Machine.execFence S c s
  | .fenceTc S => Sys2Proof.Machine.execFenceTc S s
  | .fenceQ S a => Sys2Proof.Machine.execFenceQ S a s
  | .pref S l a => Sys2Proof.Machine.execPref S l a s
  | .pgreq S h a => Sys2Proof.Machine.execPgreq S h a s
  | .qpush S q a => Sys2Proof.Machine.execQpush S q a s
  | .qpop S d m q => Sys2Proof.Machine.execQpop S d m q s
  | .copy S h a q => Sys2Proof.Machine.execCopy S h a q s
  | .hwait S h => Sys2Proof.Machine.execHwait S h s
  | .htest S d h => Sys2Proof.Machine.execHtest S d h s
  | .hcancel S h => Sys2Proof.Machine.execHcancel S h s
  | .hexport S d h => Sys2Proof.Machine.execHexport S d h s
  | .himport S h a => Sys2Proof.Machine.execHimport S h a s
  | .macq S => Sys2Proof.Machine.execMacq S s
  | .mrel S => Sys2Proof.Machine.execMrel S s
  | .mma S x t a b => Sys2Proof.Machine.execMma S x t a b s
  | .mmaP S x t a b => Sys2Proof.Machine.execMmaP S x t a b s
  | .mzero S t => Sys2Proof.Machine.execMzero S t s
  | .mloada S t a => Sys2Proof.Machine.execMloada S t a s
  | .mstorea S t a => Sys2Proof.Machine.execMstorea S t a s
  | .collPost S h c => Sys2Proof.Machine.execCollPost S h c s
  | .collFire S c a => Sys2Proof.Machine.execCollFire S c a s
  | .collProg S d c => Sys2Proof.Machine.execCollProg S d c s
  | .collAgree S h c => Sys2Proof.Machine.execCollAgree S h c s
  | .deq S d a => Sys2Proof.Machine.execDeq S d a s
  | .enq S d a => Sys2Proof.Machine.execEnq S d a s
  | .launch S h a => Sys2Proof.Machine.execLaunch S h a s
  | .wfetch S d a => Sys2Proof.Machine.execWfetch S d a s
  | .srd S r d => Sys2Proof.Machine.execSrd S r d s
  | .swr S r a => Sys2Proof.Machine.execSwr S r a s
  | .trap S n => Sys2Proof.Machine.execTrap S n s
  | .eret S => Sys2Proof.Machine.execEret S s
  | .kset S k a => Sys2Proof.Machine.execKset S k a s
  | .icinv S c a => Sys2Proof.Machine.execIcinv S c a s
  | .isync S => Sys2Proof.Machine.execIsync S s
  | .xlate S d a => Sys2Proof.Machine.execXlate S d a s
  | .sleep S a => Sys2Proof.Machine.execSleep S a s
  | .halt S => Sys2Proof.Machine.execHalt S s
  | .ctxsave S h a => Sys2Proof.Machine.execCtxsave S h a s
  | .ctxload S h a => Sys2Proof.Machine.execCtxload S h a s
  | .stallCountExpiry core gid => Sys2Proof.Machine.execStallCountExpiry core gid s
  | .deferredRelease core gid pc prio => Sys2Proof.Machine.execDeferredRelease core gid pc prio s
  | .loadResult tok => Sys2Proof.Machine.execLoadResult tok s
  | .ratomResult op lane resp => Sys2Proof.Machine.execRatomResult op lane resp s
  | .remoteAccessRequest r => Sys2Proof.Machine.execRemoteAccessRequest r s
  | .copyElement op i0 i1 i2 i3 resp => Sys2Proof.Machine.execCopyElement op i0 i1 i2 i3 resp s
  | .copyComplete op => Sys2Proof.Machine.execCopyComplete op s
  | .matrixOpRetire core cell => Sys2Proof.Machine.execMatrixOpRetire core cell s
  | .invalidation agent sector => Sys2Proof.Machine.execInvalidation agent sector s
  | .tAcknowledge agent sector => Sys2Proof.Machine.execTAcknowledge agent sector s
  | .completionPoint sector => Sys2Proof.Machine.execCompletionPoint sector s
  | .pageRequestRecordPost op => Sys2Proof.Machine.execPageRequestRecordPost op s
  | .windowAccessArrival op lane => Sys2Proof.Machine.execWindowAccessArrival op lane s
  | .teamRelease core team => Sys2Proof.Machine.execTeamRelease core team s
  | .mailboxWrite core team => Sys2Proof.Machine.execMailboxWrite core team s
  | .collCheckReturn core gid => Sys2Proof.Machine.execCollCheckReturn core gid s
  | .launchCheck q => Sys2Proof.Machine.execLaunchCheck q s
  | .placeStep part => Sys2Proof.Machine.execPlaceStep part s
  | .tenantPartitionWrite t v => Sys2Proof.Machine.execTenantPartitionWrite t v s
  | .wqcfgWrite q v => Sys2Proof.Machine.execWqcfgWrite q v s
  | .hostItemAppend q v => Sys2Proof.Machine.execHostItemAppend q v s
  | .preemptSave core v => Sys2Proof.Machine.execPreemptSave core v s
  | .groupHalt core gid => Sys2Proof.Machine.execGroupHalt core gid s
  | .forcedSave core => Sys2Proof.Machine.execForcedSave core s
  | .teamStateSave core team => Sys2Proof.Machine.execTeamStateSave core team s
  | .preemptRestore core v => Sys2Proof.Machine.execPreemptRestore core v s
  | .restoreResume core damaged => Sys2Proof.Machine.execRestoreResume core damaged s
  | .paddockWrite w v => Sys2Proof.Machine.execPaddockWrite w v s
  | .circuitRelease pkg => Sys2Proof.Machine.execCircuitRelease pkg s
  | .pauseFlit port vc => Sys2Proof.Machine.execPauseFlit port vc s
  | .resumeFlit port vc => Sys2Proof.Machine.execResumeFlit port vc s
  | .collPacketArrival p => Sys2Proof.Machine.execCollPacketArrival p s
  | .retryAfter p us => Sys2Proof.Machine.execRetryAfter p us s
  | .retryResend n => Sys2Proof.Machine.execRetryResend n s
  | .collCommit ctx c => Sys2Proof.Machine.execCollCommit ctx c s
  | .agreementStart ctx c => Sys2Proof.Machine.execAgreementStart ctx c s
  | .agreeProgress ctx c rank value => Sys2Proof.Machine.execAgreeProgress ctx c rank value s
  | .agreeResult ctx c value => Sys2Proof.Machine.execAgreeResult ctx c value s
  | .collCancel ctx c pkg => Sys2Proof.Machine.execCollCancel ctx c pkg s
  | .cancelAck ctx c rank => Sys2Proof.Machine.execCancelAck ctx c rank s
  | .governorInterval perStream perByte temps => Sys2Proof.Machine.execGovernorInterval perStream perByte temps s
  | .governorFloorWrite v => Sys2Proof.Machine.execGovernorFloorWrite v s
  | .bootcfgWrite v => Sys2Proof.Machine.execBootcfgWrite v s
  | .romHubVerify => Sys2Proof.Machine.execRomHubVerify s
  | .hubKernelVerify peer => Sys2Proof.Machine.execHubKernelVerify peer s
  | .attestRequest v => Sys2Proof.Machine.execAttestRequest v s
  | .thermalTrip die temp => Sys2Proof.Machine.execThermalTrip die temp s
  | .tripClear v => Sys2Proof.Machine.execTripClear v s
  | .powerRemove die temp => Sys2Proof.Machine.execPowerRemove die temp s
  | .debugRelease ch v => Sys2Proof.Machine.execDebugRelease ch v s
  | .pendingTrapRelease core gid => Sys2Proof.Machine.execPendingTrapRelease core gid s
  | .trapRecordPost tenant => Sys2Proof.Machine.execTrapRecordPost tenant s
  | .trapbaseWrite t v => Sys2Proof.Machine.execTrapbaseWrite t v s
  | .trapResume v => Sys2Proof.Machine.execTrapResume v s
  | .trapKill v => Sys2Proof.Machine.execTrapKill v s
  | .killHeld core v => Sys2Proof.Machine.execKillHeld core v s
  | .killContext core v => Sys2Proof.Machine.execKillContext core v s
  | .killDone core => Sys2Proof.Machine.execKillDone core s
  | .illegalOpcodeWord w => Sys2Proof.Machine.execIllegalOpcodeWord w s
  | .sleepCountExpiry core gid pc prio => Sys2Proof.Machine.execSleepCountExpiry core gid pc prio s
  | .storePerformed op lane => Sys2Proof.Machine.execStorePerformed op lane s
  | .icinvComplete core gid pc prio => Sys2Proof.Machine.execIcinvComplete core gid pc prio s
  | .ctxmoveComplete op => Sys2Proof.Machine.execCtxmoveComplete op s
  | .scratchpadZeroingComplete core team => Sys2Proof.Machine.execScratchpadZeroingComplete core team s
  | .declareLost v => Sys2Proof.Machine.execDeclareLost v s
  | .lossRequestTimeout pkg => Sys2Proof.Machine.execLossRequestTimeout pkg s
  | .switchLinksDown pkg => Sys2Proof.Machine.execSwitchLinksDown pkg s
  | .lossNotice pkg => Sys2Proof.Machine.execLossNotice pkg s
  | .homeRebuild pkg copies => Sys2Proof.Machine.execHomeRebuild pkg copies s
  | .eccError e => Sys2Proof.Machine.execEccError e s
  | .structureError kind unit effect hit => Sys2Proof.Machine.execStructureError kind unit effect hit s
  | .tenantReset t v => Sys2Proof.Machine.execTenantReset t v s
  | .laneSampleInterval port samples trained => Sys2Proof.Machine.execLaneSampleInterval port samples trained s
  | .swapRequest port v => Sys2Proof.Machine.execSwapRequest port v s
  | .swapProposal port lane seq spareWeak => Sys2Proof.Machine.execSwapProposal port lane seq spareWeak s
  | .replayRequest port seq => Sys2Proof.Machine.execReplayRequest port seq s
  | .moduleReset => Sys2Proof.Machine.execModuleReset s
  | .apertureRegisterWrite off v => Sys2Proof.Machine.execApertureRegisterWrite off v s
  | .homeRequest r => Sys2Proof.Machine.execHomeRequest r s
  | .laneLossOfLock port lane => Sys2Proof.Machine.execLaneLossOfLock port lane s
  | .uncorrectableFlit port seq => Sys2Proof.Machine.execUncorrectableFlit port seq s
  | .hostEndpointAccess a => Sys2Proof.Machine.execHostEndpointAccess a s
  | .storageNetworkTransfer a => Sys2Proof.Machine.execStorageNetworkTransfer a s

end Sys2Proof.Machine
end

