-- ==== Sys2Proof/Machine/Runahead.lean ====
section
/-! DEFINITION. Runahead (02 R40-R42, 10 R240, 13 R305): a group whose role the launch record marks so issues loads past a conditional
branch whose condition is not ready. Log entry 9 says which of them this model issues. -/

namespace Sys2Proof.Machine

/-- What an instruction past the branch may do (R40, R240). -/
inductive PathStep where
  | load
  | arith
  | stop
deriving DecidableEq, Repr

/-- Only LD, LD.NR, LDSP, PREF and the arithmetic that makes addresses go ahead of a branch (R240). -/
def pathStep : Instr → PathStep
  | .ld _ _ _ _ _ => .load
  | .ldB64 _ _ _ _ _ => .load
  | .ldB8 _ _ _ _ => .load
  | .ldB16 _ _ _ _ => .load
  | .ldNr _ _ _ _ _ => .load
  | .ldsp _ _ _ _ => .load
  | .pref _ _ _ => .load
  | .add _ _ _ _ _ => .arith
  | .sub _ _ _ _ _ => .arith
  | .addi _ _ _ _ => .arith
  | .mul _ _ _ _ => .arith
  | .muli _ _ _ _ => .arith
  | .and _ _ _ _ => .arith
  | .or _ _ _ _ => .arith
  | .xor _ _ _ _ => .arith
  | .andi _ _ _ _ => .arith
  | .ori _ _ _ _ => .arith
  | .xori _ _ _ _ => .arith
  | .shl _ _ _ _ => .arith
  | .shr _ _ _ _ _ => .arith
  | .shli _ _ _ _ => .arith
  | .shri _ _ _ _ => .arith
  | .shrai _ _ _ _ => .arith
  | .movi _ _ _ => .arith
  | .mov _ _ _ => .arith
  | .bfx _ _ _ _ => .arith
  | .bfi _ _ _ _ => .arith
  | .sel _ _ _ _ => .arith
  | .add64 _ _ _ _ => .arith
  | .addi64 _ _ _ _ => .arith
  | .lea _ _ _ _ => .arith
  | .imad _ _ _ _ => .arith
  | _ => .stop

/-- The word at an entry's PC, when it can be fetched and decoded. -/
def nextInstr (s : State) (g : Group) (e : Ent) : Option Instr := match fetchWord s g e.pc with
  | .word w _ _ => (match decode w with
    | .ok i => some i
    | _ => none)
  | _ => none
/-- An entry stands at a conditional branch whose condition is not ready. -/
def branchWaits (s : State) (g : Group) (e : Ent) : Bool := e.st == .ready && (match nextInstr s g e with
  | some (.bz x o a) => busy s g (.bz x o a) e
  | some (.bnz x o a) => busy s g (.bnz x o a) e
  | some (.bms x o m) => busy s g (.bms x o m) e
  | some (.bmc x o m) => busy s g (.bmc x o m) e
  | _ => false)
/-- A trial of the path: the group with its lanes at a PC alone, chosen to issue. What an instruction would do is found by its own
meaning there, and nothing of the trial is kept. -/
def trial (s : State) (g : Group) (e : Ent) : State :=
  setGroup { s with sel := some ⟨g.gid, e.pc, e.prio, 0, []⟩ } { g with ents := [e] }
/-- The group and the entry of a trial, while its lanes keep together on the path. -/
def trialEnt (t : State) (gid : Nat) : Option (Group × Ent) := match groupOf t gid with
  | some g => (match g.ents with
    | [e] => if e.st == .ready then some (g, { e with stall := 0 }) else none
    | _ => none)
  | none => none
/-- The first load on the path that is not in flight yet, with the trial in which it would issue and its entry; `pcs` are those in
flight. Arithmetic before it is done in the trial; a register that a load is to write is not ready, and anything else stops it. -/
def nextLoad (pcs : List DWord) (gid : Nat) : Nat → State → Option (Instr × State × Ent)
  | 0, _ => none
  | n + 1, t =>
    match trialEnt t gid with
    | none => none
    | some (g, e) =>
      match nextInstr t g e with
      | none => none
      | some i =>
        let u := trial t g e
        if pathStep i == .stop || busy t g i e then none
        else if pathStep i == .load && !pcs.contains e.pc then some (i, u, e)
        else match exec i u with
          | .next v => nextLoad pcs gid n (if pathStep i == .arith then applyDue v gid true else v)
          | _ => none

/-- A load whose trial made this access may be made ahead of the branch (R41): it reaches no device, everything it follows has been
performed, its translations are in T here already and its group does not write them, and a line of control space is held. DESIGN
CHOICE (log entry 9). -/
def aheadOk (s u : State) (o : MemOp) (a : Acc) : Bool :=
  !a.done && a.sectors.all (fun x => (dirOf s x).t.contains (.core o.core) &&
    !s.ops.any (fun q => q.gid == o.gid && !isLoadKind q.kind && q.accs.any (fun b => !b.done && (match b.at_ with
      | .ctl p => p / 64 == x
      | _ => false)))) &&
  (match a.at_ with
    | .ap _ => false
    | .ctl p => !ownedAway s (p / 64)
    | _ => accFollowed u o a && (readsEarly u o a).isEmpty)
/-- The load issues: what it returns is kept, and the caches it went through are filled (R41). A word that would raise is not taken. -/
def takeLoad (s : State) (g : Group) (branch : DWord) (e : Ent) (o : MemOp) : State :=
  let cg := pastL1 o.kind
  let accs := o.accs.map (fun a => if isCtl a.at_ then a else loadLane s o cg a)
  if accs.any (fun a => a.data2 == 1) then s
  else
    let s := o.accs.foldl (fun s a => if isCtl a.at_ then s else loadLeaves s o.core g.ctxid cg a.at_) s
    let s := o.accs.foldl (fun s a => a.sectors.foldl (fun s x => keepT s (.core o.core) x) s) s
    modGroup s o.gid (fun g => { g with ahead := g.ahead ++ [⟨branch, e.pc, e.mask, o.kind, accs, false⟩] })
/-- A PREF issues: its lines are filled. -/
def takePref (s u : State) (g : Group) (branch : DWord) (e : Ent) : State :=
  modGroup (modCore s g.core (fun c => { c with l1 := (coreOf u g.core).l1 })) g.gid (fun g =>
    { g with ahead := g.ahead ++ [⟨branch, e.pc, e.mask, .load true, [], false⟩] })
/-- The load that a trial came to is made ahead of the branch, if all its lanes may (R41). -/
def aheadIssue (s : State) (g : Group) (branch : DWord) (i : Instr) (t : State) (e : Ent) : State :=
  match exec i t with
  | .next u => (match i, u.ops.find? (fun o => !t.ops.any (fun q => q.id == o.id)) with
    | .pref _ _ _, _ => takePref s u g branch e
    | _, some o => if o.mask == e.mask && o.accs.all (aheadOk s u o) then takeLoad s g branch e o else s
    | _, none => s)
  | _ => s
/-- A runahead group issues at most one load in a cycle of its core, and has at most 16 in flight (R40). -/
def aheadGroup (s : State) (g : Group) : State :=
  if !isAhead s g || !mayIssue s g || g.ltrap.isSome || 16 ≤ g.ahead.length || g.ahead.any (fun r => r.stale) then s
  else match g.ents.find? (branchWaits s g) with
    | none => s
    | some e =>
      let pcs := (g.ahead.filter (fun r => r.branch == e.pc && r.mask == e.mask)).map (fun r => r.pc)
      match nextLoad pcs g.gid 32 (trial s g { e with pc := e.pc + 4, stall := 0 }) with
      | some (i, t, x) => aheadIssue s g e.pc i t x
      | none => s
/-- The runahead groups of a core. -/
def runAhead (s : State) (n : Nat) : State :=
  if coreStopped s n then s else (s.groups.filter (fun g => g.core == n)).foldl aheadGroup s

end Sys2Proof.Machine
end

