-- ==== Sys2Proof/Machine/Step.lean ====
section
/-! DEFINITION. One step of the machine, and the word placed where the next step fetches. -/

namespace Sys2Proof.Machine

/-- One step: the next move, and the meaning of the instruction or event it comes to. -/
def step (s : State) : Host.Outcome State Fault Refusal :=
  match nextMove s with
  | .out o => o
  | .run i t => exec i t
  | .ahead n t => .next (runAhead t n)

/-- `s` with the instruction whose bits are `w` where the next step fetches it (log entry 10); a word has 32 bits. -/
def State.withFetchWord (s : State) (nbits w : Nat) : State := bed s (BitVec.ofNat 32 (w % 2 ^ nbits))

end Sys2Proof.Machine
end

