-- ==== Sys2Proof/Safety.lean ====
section
/-! DEFINITION. What counts as a safe run, and the conditions in which claims about one issue are stated. -/

namespace Sys2Proof.Machine

/-- Both physical memories of the package are in their one canonical form. -/
structure MemoriesOk (s : State) : Prop where
  ctl : Memory.wf s.ctl = true
  ten : Memory.wf s.ten = true

/-- A run is safe for `n` steps: no step stops the machine. -/
def Safe (n : Nat) (s : State) : Prop := ∃ t, Host.Core.run Sys2Proof.core n s = .next t

/-- No debug channel is enabled (R287). -/
def DebugOff (s : State) : Prop := ∀ c, c < 4 → (dbgWord s c 0).getLsbD 0 = false

/-- The issue in progress names the entry `e` of group `g`, and nothing keeps `i` from issuing there or comes before its own
effect: it is well formed (R141, R142), no register it names is awaited (R150), no check of R147 fails, no deferred cause
(R222) or poisoned register (R411) is met, and neither the shadow (R399) nor a debug channel (R287) has anything to say. -/
structure Clear (i : Instr) (s : State) (g : Group) (e : Ent) : Prop where
  names : selected s = some (g, e)
  wf : i.wf = true
  idle : busy s g i e = false
  passes : checkCause s g e i true = none
  notDeferred : deferredHit s g i e.mask = none
  clean : poisonedLanes s g i e.mask = 0
  noShadow : s.shadowBad = []
  noSkip : g.brkSkip = []
  noDebug : DebugOff s

/-- A result that is on its way: the token is the next identity. -/
def sent (s : State) (g : Group) (m : Mask) : State :=
  { s with nextId := s.nextId + 1, ops := s.ops ++ [resultOp g m s.nextId] }

end Sys2Proof.Machine
end

