-- ==== Sys2Proof/Certificates/Slice0/Obligations.lean ====
section
/-! DEFINITION. The statements for the provers. Claims about an instruction are made in the conditions of `Clear`
(Safety.lean): the issue in progress names an entry and no check stops or traps the instruction there. -/

namespace Sys2Proof.Claims

open Sys2Proof.Machine

/-! ## What an issue leaves, in the words the claims use -/

/-- The lanes of an entry move to PC + 4, skipping S opportunities (R27, R148). -/
def moved (s : State) (g : Group) (e : Ent) (S : BitVec 3) : State :=
  moveLanes s g.gid e.prio [(e.pc + 4, e.mask)] S.toNat .ready
/-- One value for each lane of a mask. -/
def laneVals (m : Mask) (f : Nat → Word) : List (Nat × DWord) := (lanesOf m).map (fun l => (l, (f l).setWidth 64))
/-- A fixed-latency result of distance `n` in vector register d (R149), and the lanes at PC + 4. -/
def fixedResult (s : State) (g : Group) (e : Ent) (S : BitVec 3) (d : RegName) (n : Nat) (f : Nat → Word) : State :=
  moved (pushWrite s g.gid ⟨.v (g.vwb + d.toNat), e.mask, laneVals e.mask f, some (g.opp + n + 1), 0⟩) g e S
/-- The same in the pair d:d+1, low word first (R97). -/
def fixedPair (s : State) (g : Group) (e : Ent) (S : BitVec 3) (d : RegName) (n : Nat) (f : Nat → DWord) : State :=
  moved (pushWrite (pushWrite s g.gid
      ⟨.v (g.vwb + d.toNat), e.mask, laneVals e.mask (fun l => (f l).extractLsb' 0 32), some (g.opp + n + 1), 0⟩) g.gid
      ⟨.v (g.vwb + d.toNat + 1), e.mask, laneVals e.mask (fun l => (f l).extractLsb' 32 32), some (g.opp + n + 1), 0⟩) g e S
/-- A scoreboarded result in vector register d, on its way under the next identity (R149, R151), and the lanes at PC + 4. -/
def boardResult (s : State) (g : Group) (e : Ent) (S : BitVec 3) (d : RegName) (f : Nat → Word) : State :=
  moved (pushWrite (sent s g e.mask) g.gid ⟨.v (g.vwb + d.toNat), e.mask, laneVals e.mask f, none, s.nextId⟩) g e S

/-! ## Maps in order -/

/-- The keys of a sparse map rise, as every map operation keeps them. -/
def KeysOk {α : Type} (m : SMap α) : Prop := (m.map Prod.fst).Pairwise (· < ·)
/-- The aperture's words are in order. -/
def ApOk (s : State) : Prop := KeysOk s.ap
/-- The cores are in order. -/
def CoresOk (s : State) : Prop := KeysOk s.cores
/-- The directory is in order. -/
def DirOk (s : State) : Prop := KeysOk s.dir

/-! ## Exact arithmetic of the rules -/

/-- Clamp to INT32 (R167). -/
def clamp32 (x : Int) : Int := max (-2147483648) (min x 2147483647)

/-- After a floating result: nothing more, or fp-invalid in the entry's lanes when a lane had a signalling NaN (R133). -/
def fpDone (g : Group) (e : Ent) (r : State) (sn : Nat → Bool) : State :=
  if lanesWhere e.mask sn = 0 then r else settle (raiseAfter r g.gid e.mask 0x100 0) g.team
/-- A floating instruction of fixed latency `n` writes `f` and then raises fp-invalid as `sn` says. -/
def FpGives (i : Instr) (S : BitVec 3) (d : RegName) (n : Nat) (f : Nat → Word) (sn : Nat → Bool) (s : State) (g : Group) (e : Ent) :
    Prop := Clear i s g e → exec i s = .next (fpDone g e (fixedResult s g e S d n f) sn)
/-- A scoreboarded floating instruction: its result is on its way, or, with a signalling NaN in some lane, written before
fp-invalid is raised (R133). -/
def FunGives (i : Instr) (S : BitVec 3) (d : RegName) (f : Nat → Word) (sn : Nat → Bool) (s : State) (g : Group) (e : Ent) : Prop :=
  Clear i s g e → exec i s = .next (if lanesWhere e.mask sn = 0 then boardResult s g e S d f
    else settle (raiseAfter (moved (writeNow s g.gid ⟨.v (g.vwb + d.toNat), e.mask, laneVals e.mask f, none, 0⟩) g e S)
      g.gid e.mask 0x100 0) g.team)

end Sys2Proof.Claims

open Sys2Proof Sys2Proof.Machine Sys2Proof.Claims

/-- R167: ADD, SUB, ADDI, MUL, MULI, MULH and IMAD, in every active lane. -/
def Sys2Proof.Claims.AddMulResults : Prop :=
  ∀ (S : BitVec 3) (X : BitVec 1) (i : BitVec 8) (d a b : RegName) (s : State) (g : Group) (e : Ent),
    let A := fun l => readReg s g l a
    let B := fun l => readReg s g l b
    let D := fun l => readReg s g l d
    let im := i.toInt
    (Clear (.add S X d a b) s g e → exec (.add S X d a b) s = .next (fixedResult s g e S d 2 (fun l =>
      if X = 1 then low32 (clamp32 ((A l).toInt + (B l).toInt)) else low32 ((A l).toInt + (B l).toInt)))) ∧
    (Clear (.sub S X d a b) s g e → exec (.sub S X d a b) s = .next (fixedResult s g e S d 2 (fun l =>
      if X = 1 then low32 (clamp32 ((A l).toInt - (B l).toInt)) else low32 ((A l).toInt - (B l).toInt)))) ∧
    (Clear (.addi S i d a) s g e → exec (.addi S i d a) s = .next (fixedResult s g e S d 2 (fun l => low32 ((A l).toInt + im)))) ∧
    (Clear (.mul S d a b) s g e →
      exec (.mul S d a b) s = .next (fixedResult s g e S d 4 (fun l => low32 ((A l).toInt * (B l).toInt)))) ∧
    (Clear (.muli S i d a) s g e → exec (.muli S i d a) s = .next (fixedResult s g e S d 4 (fun l => low32 ((A l).toInt * im)))) ∧
    (Clear (.mulh S X d a b) s g e → exec (.mulh S X d a b) s = .next (fixedResult s g e S d 4 (fun l =>
      (BitVec.ofInt 64 (if X = 1 then ((A l).toNat * (B l).toNat : Nat) else (A l).toInt * (B l).toInt)).extractLsb' 32 32))) ∧
    (Clear (.imad S d a b) s g e →
      exec (.imad S d a b) s = .next (fixedResult s g e S d 4 (fun l => low32 ((A l).toInt * (B l).toInt + (D l).toInt))))

/-- R168: DIV and REM, with the quotient rounded toward zero and every corner. -/
def Sys2Proof.Claims.DivRemResults : Prop :=
  ∀ (S : BitVec 3) (X : BitVec 1) (d a b : RegName) (s : State) (g : Group) (e : Ent),
    let A := fun l => readReg s g l a
    let B := fun l => readReg s g l b
    let x := fun l => if X = 1 then ((A l).toNat : Int) else (A l).toInt
    let y := fun l => if X = 1 then ((B l).toNat : Int) else (B l).toInt
    (Clear (.div S X d a b) s g e → exec (.div S X d a b) s = .next (boardResult s g e S d (fun l =>
      if B l = 0 then 0xFFFFFFFF
      else if X = 0 ∧ A l = 0x80000000 ∧ B l = 0xFFFFFFFF then 0x80000000
      else low32 ((x l).tdiv (y l))))) ∧
    (Clear (.rem S X d a b) s g e → exec (.rem S X d a b) s = .next (boardResult s g e S d (fun l =>
      if B l = 0 then A l
      else if X = 0 ∧ A l = 0x80000000 ∧ B l = 0xFFFFFFFF then 0
      else low32 (x l - (x l).tdiv (y l) * y l))))

/-- R167, R168: integer arithmetic, in every active lane. -/
def Obligations.IntegerArithmeticResults : Prop := Sys2Proof.Claims.AddMulResults ∧ Sys2Proof.Claims.DivRemResults

/-- R169: the logic instructions, MOVI and the shifts. -/
def Sys2Proof.Claims.LogicShiftResults : Prop :=
  ∀ (S : BitVec 3) (X : BitVec 1) (i : BitVec 8) (d a b : RegName) (s : State) (g : Group) (e : Ent),
    let A := fun l => readReg s g l a
    let B := fun l => readReg s g l b
    let shl := fun (x : Word) (n : Nat) => if 32 ≤ n then 0 else low32 (x.toInt * 2 ^ n)
    let shr := fun (x : Word) (n : Nat) => if 32 ≤ n then 0 else BitVec.ofNat 32 (x.toNat / 2 ^ n)
    let sar := fun (x : Word) (n : Nat) => low32 (x.toInt / 2 ^ (min n 31))
    (Clear (.and S d a b) s g e → exec (.and S d a b) s = .next (fixedResult s g e S d 2 (fun l => A l &&& B l))) ∧
    (Clear (.or S d a b) s g e → exec (.or S d a b) s = .next (fixedResult s g e S d 2 (fun l => A l ||| B l))) ∧
    (Clear (.xor S d a b) s g e → exec (.xor S d a b) s = .next (fixedResult s g e S d 2 (fun l => A l ^^^ B l))) ∧
    (Clear (.andi S i d a) s g e → exec (.andi S i d a) s = .next (fixedResult s g e S d 2 (fun l => A l &&& i.setWidth 32))) ∧
    (Clear (.ori S i d a) s g e → exec (.ori S i d a) s = .next (fixedResult s g e S d 2 (fun l => A l ||| i.setWidth 32))) ∧
    (Clear (.xori S i d a) s g e → exec (.xori S i d a) s = .next (fixedResult s g e S d 2 (fun l => A l ^^^ i.setWidth 32))) ∧
    (Clear (.movi S i d) s g e → exec (.movi S i d) s = .next (fixedResult s g e S d 2 (fun _ => i.signExtend 32))) ∧
    (Clear (.shl S d a b) s g e → exec (.shl S d a b) s = .next (fixedResult s g e S d 2 (fun l => shl (A l) (B l).toNat))) ∧
    (Clear (.shr S X d a b) s g e → exec (.shr S X d a b) s = .next (fixedResult s g e S d 2 (fun l =>
      if X = 1 then sar (A l) (B l).toNat else shr (A l) (B l).toNat))) ∧
    (Clear (.shli S i d a) s g e → exec (.shli S i d a) s = .next (fixedResult s g e S d 2 (fun l => shl (A l) i.toNat))) ∧
    (Clear (.shri S i d a) s g e → exec (.shri S i d a) s = .next (fixedResult s g e S d 2 (fun l => shr (A l) i.toNat))) ∧
    (Clear (.shrai S i d a) s g e → exec (.shrai S i d a) s = .next (fixedResult s g e S d 2 (fun l => sar (A l) i.toNat)))

/-- R170: NOT, NEG, ABS, CLZ, POPC, BREV and MOV. -/
def Sys2Proof.Claims.OneSourceResults : Prop :=
  ∀ (S : BitVec 3) (d a : RegName) (s : State) (g : Group) (e : Ent),
    let A := fun l => readReg s g l a
    (Clear (.not S d a) s g e → exec (.not S d a) s = .next (fixedResult s g e S d 2 (fun l => A l ^^^ 0xFFFFFFFF))) ∧
    (Clear (.neg S d a) s g e → exec (.neg S d a) s = .next (fixedResult s g e S d 2 (fun l => low32 (0 - (A l).toInt)))) ∧
    (Clear (.abs S d a) s g e → exec (.abs S d a) s = .next (fixedResult s g e S d 2 (fun l => low32 ((A l).toInt.natAbs : Int)))) ∧
    (Clear (.mov S d a) s g e → exec (.mov S d a) s = .next (fixedResult s g e S d 2 A)) ∧
    (Clear (.clz S d a) s g e → ∃ f, exec (.clz S d a) s = .next (fixedResult s g e S d 2 f) ∧ ∀ l,
      (A l = 0 → f l = 32) ∧
      (A l ≠ 0 → (f l).toNat < 32 ∧ (A l).getLsbD (31 - (f l).toNat) = true ∧
        ∀ j, j < (f l).toNat → (A l).getLsbD (31 - j) = false)) ∧
    (Clear (.popc S d a) s g e → exec (.popc S d a) s = .next (fixedResult s g e S d 2 (fun l =>
      BitVec.ofNat 32 ((List.range 32).countP (fun j => (A l).getLsbD j))))) ∧
    (Clear (.brev S d a) s g e → ∃ f, exec (.brev S d a) s = .next (fixedResult s g e S d 2 f) ∧
      ∀ l j, j < 32 → (f l).getLsbD j = (A l).getLsbD (31 - j))

/-- R169, R170: logic, shifts, MOVI, and the one-source instructions. -/
def Obligations.LogicAndOneSourceResults : Prop := Sys2Proof.Claims.LogicShiftResults ∧ Sys2Proof.Claims.OneSourceResults

/-- R171: BFX and BFI, with the field control's position, length and sign bit. -/
def Sys2Proof.Claims.BitFieldResults : Prop :=
  ∀ (S : BitVec 3) (d a b : RegName) (s : State) (g : Group) (e : Ent),
    let A := fun l => readReg s g l a
    let B := fun l => readReg s g l b
    let D := fun l => readReg s g l d
    let p := fun l => (B l).toNat % 32
    let n := fun l => min ((B l).toNat / 256 % 64) 32
    let w := fun l => min (n l) (32 - p l)
    let M := fun l => BitVec.ofNat 32 ((2 ^ w l - 1) * 2 ^ p l)
    let v := fun l => (A l &&& M l).toNat / 2 ^ p l
    (Clear (.bfx S d a b) s g e → exec (.bfx S d a b) s = .next (fixedResult s g e S d 2 (fun l =>
      if w l = 0 then 0
      else if (B l).getLsbD 16 ∧ 2 ^ (w l - 1) ≤ v l then low32 ((v l : Int) - 2 ^ w l) else BitVec.ofNat 32 (v l)))) ∧
    (Clear (.bfi S d a b) s g e → exec (.bfi S d a b) s = .next (fixedResult s g e S d 2 (fun l =>
      (D l &&& ~~~(M l)) ||| (BitVec.ofNat 32 ((A l).toNat * 2 ^ p l) &&& M l))))

/-- R172: ISET and SEL. -/
def Sys2Proof.Claims.CompareSelectResults : Prop :=
  ∀ (S : BitVec 3) (X : BitVec 1) (d a b : RegName) (s : State) (g : Group) (e : Ent),
    let A := fun l => readReg s g l a
    let B := fun l => readReg s g l b
    let D := fun l => readReg s g l d
    let x := fun l => if X = 1 then ((A l).toNat : Int) else (A l).toInt
    let y := fun l => if X = 1 then ((B l).toNat : Int) else (B l).toInt
    (Clear (.isetEq S d a b) s g e → exec (.isetEq S d a b) s = .next (fixedResult s g e S d 2 (fun l => if A l = B l then 1 else 0))) ∧
    (Clear (.isetNe S d a b) s g e → exec (.isetNe S d a b) s = .next (fixedResult s g e S d 2 (fun l => if A l = B l then 0 else 1))) ∧
    (Clear (.isetLt S X d a b) s g e → exec (.isetLt S X d a b) s = .next (fixedResult s g e S d 2 (fun l => if x l < y l then 1 else 0))) ∧
    (Clear (.isetLe S X d a b) s g e → exec (.isetLe S X d a b) s = .next (fixedResult s g e S d 2 (fun l => if x l ≤ y l then 1 else 0))) ∧
    (Clear (.sel S d a b) s g e → exec (.sel S d a b) s = .next (fixedResult s g e S d 2 (fun l => if D l = 0 then B l else A l)))

/-- R171, R172: bit fields, comparison and selection. -/
def Obligations.FieldAndCompareResults : Prop := Sys2Proof.Claims.BitFieldResults ∧ Sys2Proof.Claims.CompareSelectResults

/-- R173: ADD64, ADDI64 and LEA on pairs. -/
def Obligations.PairResults : Prop :=
  ∀ (S : BitVec 3) (i : BitVec 8) (d a b : RegName) (s : State) (g : Group) (e : Ent),
    let A := fun l => (readPair s g l a).toNat
    (Clear (.add64 S d a b) s g e → exec (.add64 S d a b) s = .next (fixedPair s g e S d 4 (fun l =>
      BitVec.ofNat 64 ((A l + (readPair s g l b).toNat) % 2 ^ 64)))) ∧
    (Clear (.addi64 S i d a) s g e → exec (.addi64 S i d a) s = .next (fixedPair s g e S d 4 (fun l =>
      BitVec.ofInt 64 (A l + i.toInt)))) ∧
    (Clear (.lea S d a b) s g e → exec (.lea S d a b) s = .next (fixedPair s g e S d 4 (fun l =>
      BitVec.ofInt 64 (A l + 4 * (readReg s g l b).toInt))))

/-- R175: FADD, FSUB, FMUL and FFMA round the exact result once; R133's fp-invalid follows the results. -/
def Sys2Proof.Claims.FloatArithmeticResults : Prop :=
  ∀ (S : BitVec 3) (d a b : RegName) (s : State) (g : Group) (e : Ent),
    let A := fun l => dec32 (readReg s g l a)
    let B := fun l => dec32 (readReg s g l b)
    let D := fun l => dec32 (readReg s g l d)
    let two := fun l => isSnan (A l) || isSnan (B l)
    FpGives (.fadd S d a b) S d 4 (fun l => rnd32 (addV (A l) (B l))) two s g e ∧
    FpGives (.fsub S d a b) S d 4 (fun l => rnd32 (addV (A l) (negV (B l)))) two s g e ∧
    FpGives (.fmul S d a b) S d 4 (fun l => rnd32 (mulV (A l) (B l))) two s g e ∧
    FpGives (.ffma S d a b) S d 4 (fun l => rnd32 (addV (mulV (A l) (B l)) (D l)))
      (fun l => isSnan (A l) || isSnan (B l) || isSnan (D l)) s g e

/-- R176, R177: FMIN and FMAX, the ordered and unordered comparisons, and FCLASS, which raises nothing. -/
def Sys2Proof.Claims.FloatCompareResults : Prop :=
  ∀ (S : BitVec 3) (X : BitVec 1) (i : BitVec 8) (d a b : RegName) (s : State) (g : Group) (e : Ent),
    let A := fun l => readReg s g l a
    let B := fun l => readReg s g l b
    let un := fun l => isNan (dec32 (A l)) || isNan (dec32 (B l))
    let lt := fun l => ltV (dec32 (A l)) (dec32 (B l))
    let eq := fun l => !un l && !lt l && !ltV (dec32 (B l)) (dec32 (A l))
    let sn := fun l => isSnan (dec32 (A l)) || isSnan (dec32 (B l))
    let bit := fun (c : Bool) => (if c then 1 else 0 : Word)
    FpGives (.fmin S X d a b) S d 4 (fun l => BitVec.ofNat 32 (minMaxCode fp32 false (X == 1) (A l).toNat (B l).toNat)) sn s g e ∧
    FpGives (.fmax S X d a b) S d 4 (fun l => BitVec.ofNat 32 (minMaxCode fp32 true (X == 1) (A l).toNat (B l).toNat)) sn s g e ∧
    FpGives (.fsetEq S d a b) S d 4 (fun l => bit (eq l)) sn s g e ∧
    FpGives (.fsetNe S d a b) S d 4 (fun l => bit (!eq l)) sn s g e ∧
    FpGives (.fsetLt S X d a b) S d 4 (fun l => bit (if un l then X == 1 else lt l)) sn s g e ∧
    FpGives (.fsetLe S X d a b) S d 4 (fun l => bit (if un l then X == 1 else lt l || eq l)) sn s g e ∧
    (Clear (.fclass S i d a) s g e → ∃ (f : Nat → Word) (c : Nat → Nat), exec (.fclass S i d a) s = .next (fixedResult s g e S d 4 f) ∧
      ∀ l, let w := A l
        let ex := w.toNat / 2 ^ 23 % 256
        let fr := w.toNat % 2 ^ 23
        f l = bit (i.getLsbD (c l)) ∧
        (ex = 255 ∧ fr ≠ 0 → c l = if w.getLsbD 22 then 1 else 0) ∧ (ex = 255 ∧ fr = 0 → c l = 2) ∧
        (ex ≠ 255 ∧ ex ≠ 0 → c l = if w.getLsbD 31 then 3 else 7) ∧
        (ex = 0 ∧ fr ≠ 0 → c l = if w.getLsbD 31 then 4 else 6) ∧ (ex = 0 ∧ fr = 0 → c l = 5))

/-- R175 to R177: floating arithmetic, minimum and maximum, comparisons and classes. -/
def Obligations.FloatResults : Prop := Sys2Proof.Claims.FloatArithmeticResults ∧ Sys2Proof.Claims.FloatCompareResults

/-- R178: the ten functions of FUN. FNEG and FABS change the sign alone; FRCP, FRSQ and FSQRT round the exact value once; the
five approximations are the fixed functions of Flags.lean, whose value off the table and the exact points is free within its
bound (log entry 5). -/
def Sys2Proof.Claims.FunctionResults : Prop :=
  ∀ (S : BitVec 3) (d a : RegName) (s : State) (g : Group) (e : Ent),
    let A := fun l => readReg s g l a
    let sn := fun l => isSnan (dec32 (A l))
    let sign := fun (f : Word → Word) l => if isNan (dec32 (A l)) then 0x7FC00000 else f (A l)
    FpGives (.fneg S d a) S d 4 (sign (fun w => w ^^^ 0x80000000)) sn s g e ∧
    FpGives (.fabs S d a) S d 4 (sign (fun w => w &&& 0x7FFFFFFF)) sn s g e ∧
    FunGives (.frcp S d a) S d (fun l => rnd32 (rcpV (dec32 (A l)))) sn s g e ∧
    FunGives (.frsq S d a) S d (fun l => rnd32 (rsqV (dec32 (A l)))) sn s g e ∧
    FunGives (.fsqrt S d a) S d (fun l => rnd32 (sqrtV (dec32 (A l)))) sn s g e ∧
    FunGives (.fex2 S d a) S d (fun l => fex2F (A l)) sn s g e ∧
    FunGives (.flg2 S d a) S d (fun l => flg2F (A l)) sn s g e ∧
    FunGives (.fsin S d a) S d (fun l => fsinF (A l)) sn s g e ∧
    FunGives (.fcos S d a) S d (fun l => fcosF (A l)) sn s g e ∧
    FunGives (.ftanh S d a) S d (fun l => ftanhF (A l)) sn s g e

/-- R178: the special rows of its table, for every input they cover, whatever the free values are. -/
def Sys2Proof.Claims.FunctionSpecials : Prop :=
  (∀ w : Word, isNan (dec32 w) = true →
    frcpF w = 0x7FC00000 ∧ frsqF w = 0x7FC00000 ∧ fsqrtF w = 0x7FC00000 ∧ fex2F w = 0x7FC00000 ∧ flg2F w = 0x7FC00000 ∧
    fsinF w = 0x7FC00000 ∧ fcosF w = 0x7FC00000 ∧ ftanhF w = 0x7FC00000) ∧
  (frcpF 0 = 0x7F800000 ∧ frsqF 0 = 0x7F800000 ∧ fsqrtF 0 = 0 ∧ fex2F 0 = 0x3F800000 ∧ flg2F 0 = 0xFF800000 ∧ fsinF 0 = 0 ∧
    fcosF 0 = 0x3F800000 ∧ ftanhF 0 = 0) ∧
  (frcpF 0x80000000 = 0xFF800000 ∧ frsqF 0x80000000 = 0xFF800000 ∧ fsqrtF 0x80000000 = 0x80000000 ∧
    fex2F 0x80000000 = 0x3F800000 ∧ flg2F 0x80000000 = 0xFF800000 ∧ fsinF 0x80000000 = 0x80000000 ∧
    fcosF 0x80000000 = 0x3F800000 ∧ ftanhF 0x80000000 = 0x80000000) ∧
  (frcpF 0x7F800000 = 0 ∧ frsqF 0x7F800000 = 0 ∧ fsqrtF 0x7F800000 = 0x7F800000 ∧ fex2F 0x7F800000 = 0x7F800000 ∧
    flg2F 0x7F800000 = 0x7F800000 ∧ fsinF 0x7F800000 = 0x7FC00000 ∧ fcosF 0x7F800000 = 0x7FC00000 ∧ ftanhF 0x7F800000 = 0x3F800000) ∧
  (frcpF 0xFF800000 = 0x80000000 ∧ frsqF 0xFF800000 = 0x7FC00000 ∧ fsqrtF 0xFF800000 = 0x7FC00000 ∧ fex2F 0xFF800000 = 0 ∧
    flg2F 0xFF800000 = 0x7FC00000 ∧ fsinF 0xFF800000 = 0x7FC00000 ∧ fcosF 0xFF800000 = 0x7FC00000 ∧ ftanhF 0xFF800000 = 0xBF800000) ∧
  (∀ w : Word, ltV (dec32 w) (dec32 0x80000000) = true →
    frsqF w = 0x7FC00000 ∧ fsqrtF w = 0x7FC00000 ∧ flg2F w = 0x7FC00000) ∧
  (∀ w : Word, ltV (dec32 0x49800000) (dec32 (w &&& 0x7FFFFFFF)) = true → fsinF w = 0x7FC00000 ∧ fcosF w = 0x7FC00000) ∧
  (∀ w : Word, ltV (dec32 w) (dec32 0x43000000) = false → isNan (dec32 w) = false → fex2F w = 0x7F800000 ∧ ftanhF w = 0x3F800000) ∧
  (∀ w : Word, ltV (dec32 0xC3160000) (dec32 w) = false → isNan (dec32 w) = false → fex2F w = 0 ∧ ftanhF w = 0xBF800000) ∧
  (∀ w : Word, ltV (dec32 (w &&& 0x7FFFFFFF)) (dec32 0x41100000) = false → isNan (dec32 w) = false →
    ftanhF w = if w.getLsbD 31 then 0xBF800000 else 0x3F800000)

/-- R178: the functions of FUN, and the special rows of its table. -/
def Obligations.FunctionClaims : Prop := Sys2Proof.Claims.FunctionResults ∧ Sys2Proof.Claims.FunctionSpecials

/-- R179, R180: the packed half instructions, element by element, in FP16 or BF16. -/
def Obligations.HalfResults : Prop :=
  ∀ (S : BitVec 3) (X : BitVec 1) (d a b : RegName) (s : State) (g : Group) (e : Ent),
    let F := if X = 1 then bf16 else fp16
    let code := fun (r : RegName) l h => (readReg s g l r).toNat / 2 ^ (16 * h) % 2 ^ 16
    let val := fun (r : RegName) l h => decodeIEEE F (code r l h)
    let pack := fun (f : Nat → Nat → Nat) l => BitVec.ofNat 32 (f l 1 * 2 ^ 16 + f l 0)
    let rnd := fun (f : Nat → Nat → FVal) => pack (fun l h => roundIEEE F true .rne (f l h))
    let sn := fun (rs : List RegName) l => rs.any (fun r => isSnan (val r l 0) || isSnan (val r l 1))
    FpGives (.hadd2 S X d a b) S d 4 (rnd (fun l h => addV (val a l h) (val b l h))) (sn [a, b]) s g e ∧
    FpGives (.hmul2 S X d a b) S d 4 (rnd (fun l h => mulV (val a l h) (val b l h))) (sn [a, b]) s g e ∧
    FpGives (.hfma2 S X d a b) S d 4 (rnd (fun l h => addV (mulV (val a l h) (val b l h)) (val d l h))) (sn [d, a, b]) s g e ∧
    FpGives (.hmin2 S X d a) S d 4 (pack (fun l h => minMaxCode F false false (code a l h) (code d l h))) (sn [d, a]) s g e ∧
    FpGives (.hmin2P S X d a) S d 4 (pack (fun l h => minMaxCode F false true (code a l h) (code d l h))) (sn [d, a]) s g e ∧
    FpGives (.hmax2 S X d a) S d 4 (pack (fun l h => minMaxCode F true false (code a l h) (code d l h))) (sn [d, a]) s g e ∧
    FpGives (.hmax2P S X d a) S d 4 (pack (fun l h => minMaxCode F true true (code a l h) (code d l h))) (sn [d, a]) s g e ∧
    FpGives (.hneg2 S X d a) S d 4 (pack (fun l h => if isNan (val a l h) then F.nan else (code a l h + 2 ^ 15) % 2 ^ 16)) (sn [a]) s g e ∧
    FpGives (.habs2 S X d a) S d 4 (pack (fun l h => if isNan (val a l h) then F.nan else code a l h % 2 ^ 15)) (sn [a]) s g e

/-- R182 to R185: CVTS and CVTX under a format slot, with slot-mismatch before any effect and SRCNT advanced under ROUND = 2; a lane
issued again draws with the SRCNT of its first issue (R130). CVTB by blocks. -/
def Sys2Proof.Claims.SlotConversionResults : Prop :=
  ∀ (S : BitVec 3) (d a : RegName) (p : BitVec 2) (f : BitVec 3) (s : State) (g : Group) (e : Ent),
    let slot := slotOf s g f.toNat
    let w := elemWidth (slotElem slot)
    let count := fun l => match g.srReplay.find? (fun k => k.1 == e.pc && bitAt k.2.1 l) with
      | some k => k.2.2
      | none => g.srcnt
    let draw := fun l i => drawU (slotSeed slot) (BitVec.ofNat 32 (teamLin s g)) (count l) (BitVec.ofNat 32 (4 * laneIndex0 g l + i))
    let next := fun (t : State) => if slotRound slot = 2 then modGroup t g.gid (srNext e.pc e.mask 0) else t
    let A := fun l => readReg s g l a
    let cvts := fun l => cvtsF slot p.toNat (draw l p.toNat) (readReg s g l d) (A l)
    let elem := fun l => decodeElem (slotElem slot) ((A l).toNat / 2 ^ (w * p.toNat) % 2 ^ w)
    let run := fun l => (List.range (slotBlk slot)).map (fun j => readRegAt s g l a j)
    (Clear (.cvts S d a p f) s g e → exec (.cvts S d a p f) s = .next (
      if 32 / w ≤ p.toNat then settle (raise s g.gid e.prio e.pc ⟨e.mask, 0x101, e.pc, 0⟩) g.team
      else fpDone g e (next (fixedResult s g e S d 6 cvts)) (fun l => isSnan (dec32 (A l))))) ∧
    (e.mask ≠ 0 → (∀ k, k ∈ g.srReplay → k.1 ≠ e.pc) → (srNext e.pc e.mask 0 g).srcnt = g.srcnt + 1) ∧
    (∀ l j, j < 32 → p.toNat < 32 / w → (cvts l).getLsbD j =
      if w * p.toNat ≤ j ∧ j < w * p.toNat + w then
        (encodeElem (slotElem slot) (slotIeee slot) (slotMode slot (draw l p.toNat)) (dec32 (A l))).testBit (j - w * p.toNat)
      else (readReg s g l d).getLsbD j) ∧
    (Clear (.cvtx S d a p f) s g e → exec (.cvtx S d a p f) s = .next (
      if 32 / w ≤ p.toNat then settle (raise s g.gid e.prio e.pc ⟨e.mask, 0x101, e.pc, 0⟩) g.team
      else fpDone g e (next (fixedResult s g e S d 6 (fun l =>
          if slotElem slot = 8 then BitVec.ofNat 32 (roundIEEE fp32 true (slotMode slot (draw l 0)) (elem l)) else rnd32 (elem l))))
        (fun l => isSnan (elem l)))) ∧
    (Clear (.cvtb S d a f) s g e → exec (.cvtb S d a f) s = .next (
      if slotScale slot = false ∨ slotRound slot = 2 then settle (raise s g.gid e.prio e.pc ⟨e.mask, 0x101, e.pc, 0⟩) g.team
      else fpDone g e (moved ((List.range (slotBlk slot / 4 + 1)).foldl (fun t j => pushWrite t g.gid
          ⟨.v (g.vwb + d.toNat + j), e.mask, laneVals e.mask (fun l => (cvtbF slot (run l)).getD j 0), some (g.opp + 7), 0⟩) s) g e S)
        (fun l => (run l).any (fun x => isSnan (dec32 x)))))

/-- R186, R188: CVTI with its own rounding mode, and CVTH between FP32 and the halves. -/
def Sys2Proof.Claims.PlainConversionResults : Prop :=
  ∀ (S : BitVec 3) (d a : RegName) (u v : BitVec 1) (r : BitVec 2) (s : State) (g : Group) (e : Ent),
    let A := fun l => readReg s g l a
    let D := fun l => readReg s g l d
    let sn := fun l => isSnan (dec32 (A l))
    let mode := if r = 0 then RMode.rne else if r = 1 then .rz else if r = 2 then .rdn else .rup
    let low := fun (F : Fmt) l => BitVec.ofNat 32 ((D l).toNat / 2 ^ 16 * 2 ^ 16 + roundIEEE F true .rne (dec32 (A l)))
    let high := fun (F : Fmt) l => BitVec.ofNat 32 (roundIEEE F true .rne (dec32 (A l)) * 2 ^ 16 + (D l).toNat % 2 ^ 16)
    let half := fun (F : Fmt) h l => decodeIEEE F ((A l).toNat / 2 ^ (16 * h) % 2 ^ 16)
    let wide := fun (F : Fmt) h l => rnd32 (half F h l)
    FpGives (.cvti S d a u v r) S d 6 (fun l =>
      if v = 0 then low32 (if u = 1 then roundInt 0 4294967295 mode (dec32 (A l)) else roundInt (-2147483648) 2147483647 mode (dec32 (A l)))
      else BitVec.ofNat 32 (roundIEEE fp32 true mode (intVal (if u = 1 then ((A l).toNat : Int) else (A l).toInt))))
      (fun l => v == 0 && sn l) s g e ∧
    FpGives (.cvthF2hl S d a) S d 6 (low fp16) sn s g e ∧ FpGives (.cvthF2hh S d a) S d 6 (high fp16) sn s g e ∧
    FpGives (.cvthF2bl S d a) S d 6 (low bf16) sn s g e ∧ FpGives (.cvthF2bh S d a) S d 6 (high bf16) sn s g e ∧
    FpGives (.cvthHl2f S d a) S d 6 (wide fp16 0) (fun l => isSnan (half fp16 0 l)) s g e ∧
    FpGives (.cvthHh2f S d a) S d 6 (wide fp16 1) (fun l => isSnan (half fp16 1 l)) s g e ∧
    FpGives (.cvthBl2f S d a) S d 6 (wide bf16 0) (fun l => isSnan (half bf16 0 l)) s g e ∧
    FpGives (.cvthBh2f S d a) S d 6 (wide bf16 1) (fun l => isSnan (half bf16 1 l)) s g e

/-- R182 to R188: the conversions. -/
def Obligations.ConversionResults : Prop := Sys2Proof.Claims.SlotConversionResults ∧ Sys2Proof.Claims.PlainConversionResults

namespace Sys2Proof.Claims

/-- A cause of kind "before" in every lane of the entry, and what follows from it at once (R367, R381). -/
def trapped (s : State) (g : Group) (e : Ent) (c : Cause) (x : DWord) : State :=
  settle (raise s g.gid e.prio e.pc ⟨e.mask, c, e.pc, x⟩) g.team
/-- The link value PC + 4 in the pair d:d+1 of the lanes m (R195). -/
def linked (s : State) (g : Group) (d : RegName) (m : Mask) (pc : DWord) : State :=
  if m = 0 then s
  else writeNow (writeNow s g.gid ⟨.v (g.vwb + d.toNat), m, laneVals m (fun _ => (pc + 4).extractLsb' 0 32), none, 0⟩) g.gid
    ⟨.v (g.vwb + d.toNat + 1), m, laneVals m (fun _ => (pc + 4).extractLsb' 32 32), none, 0⟩
/-- The lanes of an entry that satisfy `p` go to `target`, the others to PC + 4 (R27, R193). -/
def branched (s : State) (g : Group) (e : Ent) (S : BitVec 3) (target : DWord) (p : Nat → Bool) : State :=
  let t := lanesWhere e.mask p
  moveLanes (loopBack s g e [(target, t)]) g.gid e.prio [(target, t), (e.pc + 4, minus e.mask t)] S.toNat .ready
/-- The frontier of a group (R23): its entries hold its live lanes, each in one entry, and none is empty. -/
def Frontier (g : Group) : Prop :=
  (∀ e, e ∈ g.ents → e.mask ≠ 0) ∧ g.ents.Pairwise (fun x y => x.mask &&& y.mask = 0) ∧ g.ents.foldl (fun m e => m ||| e.mask) 0 = g.live
/-- The parts of R194: each lane of m lies in the one part that has its target. -/
def DividedBy (m : Mask) (target : Nat → DWord) (parts : List (DWord × Mask)) : Prop :=
  (parts.map Prod.fst).Nodup ∧ (∀ p, p ∈ parts → ∀ l, bitAt p.2 l = true ↔ bitAt m l = true ∧ target l = p.1) ∧
  ∀ l, bitAt m l = true → ∃ p, p ∈ parts ∧ p.1 = target l
/-- No lane of the team waits anywhere else than at instructions of a kind, no cause is pending, no trap is being handled
locally, every group has a live lane, no barrier is full, and the cycle of the team's core has no other issue to make (R381). -/
structure Calm (k : Instr → Bool) (s : State) (g : Group) (t : Team) : Prop where
  team : teamOf s g.team = some t
  live : ∀ h, h ∈ s.groups → h.team = g.team → h.live ≠ 0 ∧ h.ltrap = none
  only : ∀ h, h ∈ s.groups → h.team = g.team → ∀ x, x ∈ h.ents → ∀ p, x.st = .parked p → k p.i = true
  none_pending : ∀ h, h ∈ s.groups → h.team = g.team → ∀ x, x ∈ h.ents → ∀ r, x.st ≠ .pending r
  bars : ∀ b, b ∈ t.bars → barFull s t.tid b = false
  last : (coreOf s t.core).issueq = []
/-- What follows an instruction that has completed in its lanes: a debug-step (R288), then all that completes by it (R381). -/
def settled (s : State) (g : Group) (e : Ent) : State := settle (debugAfter s g.gid e.mask) g.team
/-- The entry has issued and is Stalled at its PC (R25, R148); no deferral awaits it any longer (R29). -/
def stalls (s : State) (g : Group) (e : Ent) (S : BitVec 3) (w : Why) : State :=
  modGroup (stallEnt s g.gid e S.toNat w) g.gid (fun h => { h with ents := strikeOff [(e.pc, e.prio)] h.ents })
/-- A parked entry's lanes go on at PC + 4 (R28); their core keeps no L1 line older than what they may have learnt (R292). -/
def goOn (s : State) (g : Group) (e : Ent) : State :=
  moveLanes (dropStale s g.core) g.gid e.prio [(e.pc + 4, e.mask)] 0 .ready
/-- What R381 makes of the first completion `x` found in `p`. -/
def after (p x : State) (tid : Nat) : State := settleN 999 (fireStep p x tid) tid
/-- An asynchronous operation has been started in handle h (R101): it has the next identity, is in the given state, and the
handle names it. -/
def Started (s t : State) (g : Group) (h : Nat) (k : AKind) (st : AState) : Prop :=
  ∃ o : AOp, aopOf t s.nextId = some o ∧ o.kind = k ∧ o.st = st ∧ o.core = g.core ∧ o.team = g.team ∧ o.gid = g.gid ∧
    o.ctx = g.ctxid ∧ ∃ g', groupOf t g.gid = some g' ∧ readH g' h = s.nextId

end Sys2Proof.Claims

/-- R192, R197: BLK and NOP only move on, YIELD defers its lanes at PC + 4 behind the entries that were
Ready when it was chosen, EXIT ends them. -/
def Sys2Proof.Claims.CtlEffects : Prop :=
  ∀ (S : BitVec 3) (p : BitVec 8) (s : State) (g : Group) (e : Ent),
    (Clear (.blk S p) s g e → exec (.blk S p) s = .next (moved s g e S)) ∧
    (Clear (.nop S) s g e → exec (.nop S) s = .next (moved s g e S)) ∧
    (∀ c, s.sel = some c → Clear (.yield S) s g e →
      exec (.yield S) s = .next (moveLanes s g.gid e.prio [(e.pc + 4, e.mask)] S.toNat (.deferred 64 c.ready))) ∧
    (Clear (.exit S) s g e → ∃ t g', exec (.exit S) s = .next (settle t g.team) ∧ groupOf t g.gid = some g' ∧
      g'.live = g.live &&& ~~~e.mask ∧ (∀ x, x ∈ g'.ents → x.mask &&& e.mask = 0) ∧ t.ctl = s.ctl ∧ t.ten = s.ten ∧ t.ops = s.ops ∧
      t.aops = s.aops ∧ t.cores = s.cores)

/-- R193 and R143: each branch takes exactly its lanes to PC + 4 × the signed offset, and the others to PC + 4. -/
def Sys2Proof.Claims.BranchEffects : Prop :=
  ∀ (S : BitVec 3) (o : BitVec 8) (a : RegName) (m : BitVec 3) (s : State) (g : Group) (e : Ent),
    let target := e.pc + BitVec.ofInt 64 (4 * o.toInt)
    (Clear (.br S o) s g e → exec (.br S o) s = .next (branched s g e S target (fun _ => true))) ∧
    (Clear (.bz S o a) s g e → exec (.bz S o a) s = .next (branched s g e S target (fun l => readReg s g l a == 0))) ∧
    (Clear (.bnz S o a) s g e → exec (.bnz S o a) s = .next (branched s g e S target (fun l => readReg s g l a != 0))) ∧
    (Clear (.bms S o m) s g e → exec (.bms S o m) s = .next (branched s g e S target (fun l => (readM g m.toNat).getLsbD l))) ∧
    (Clear (.bmc S o m) s g e → exec (.bmc S o m) s = .next (branched s g e S target (fun l => !(readM g m.toNat).getLsbD l)))

/-- R194, R195: CALL, JMP, CALLI and RET. Lanes with a misaligned target raise illegal-operand where they stand, and no link of
theirs is written; the others move to their targets, one part for each target. -/
def Sys2Proof.Claims.JumpCallEffects : Prop :=
  ∀ (S : BitVec 3) (o : BitVec 8) (d a : RegName) (s : State) (g : Group) (e : Ent),
    let tgt := fun l => readPair s g l a
    let bad := lanesWhere e.mask (fun l => (tgt l).toNat % 4 != 0)
    let go := e.mask &&& ~~~bad
    let jump := fun (t : State) (parts : List (DWord × Mask)) =>
      let u := moveLanes (loopBack t g e parts) g.gid e.prio parts S.toNat .ready
      if bad = 0 then u else settle (raise u g.gid e.prio e.pc ⟨bad, 0x001, e.pc, 0⟩) g.team
    (Clear (.call S o d) s g e → exec (.call S o d) s =
      .next (branched (linked s g d e.mask e.pc) g e S (e.pc + BitVec.ofInt 64 (4 * o.toInt)) (fun _ => true))) ∧
    ∃ parts, DividedBy go tgt parts ∧
      (Clear (.jmp S a) s g e → exec (.jmp S a) s = .next (jump s parts)) ∧
      (Clear (.ret S a) s g e → exec (.ret S a) s = .next (jump s parts)) ∧
      (Clear (.calli S d a) s g e → exec (.calli S d a) s = .next (jump (linked s g d go e.pc) parts))

/-- R23, R24, R27: a move of lanes keeps the frontier: the entries' masks stay nonempty and disjoint and make up the live lanes; each lane that
moves is then in an entry at its target PC with the priority R24 gives it, and every other lane stays in one at its PC and priority. -/
def Sys2Proof.Claims.MovesKeepFrontier : Prop :=
  ∀ (s : State) (gid : Nat) (g : Group) (p : Byte) (parts : List (DWord × Mask)) (n : Nat) (st : EntSt),
    groupOf s gid = some g → Frontier g → parts.Pairwise (fun x y => x.2 &&& y.2 = 0) → (∀ q, q ∈ parts → q.2 &&& ~~~g.live = 0) →
    ∃ g', groupOf (moveLanes s gid p parts n st) gid = some g' ∧ Frontier g' ∧ g'.live = g.live ∧
      (∀ q, q ∈ parts → ∀ l, bitAt q.2 l = true → ∃ e, e ∈ g'.ents ∧ bitAt e.mask l = true ∧ e.pc = q.1 ∧ e.prio = prioAt s g q.1 p) ∧
      (∀ e, e ∈ g.ents → ∀ l, bitAt e.mask l = true → (∀ q, q ∈ parts → bitAt q.2 l = false) →
        ∃ x, x ∈ g'.ents ∧ bitAt x.mask l = true ∧ x.pc = e.pc ∧ x.prio = e.prio) ∧
      ∀ m, m ≠ gid → groupOf (moveLanes s gid p parts n st) m = groupOf s m

/-- R23, R24, R27, R192 to R197: control transfer, and what a move of lanes leaves of the frontier. -/
def Obligations.ControlTransfer : Prop := Sys2Proof.Claims.CtlEffects ∧ Sys2Proof.Claims.BranchEffects ∧ Sys2Proof.Claims.JumpCallEffects ∧
  Sys2Proof.Claims.MovesKeepFrontier

namespace Sys2Proof.Claims

/-- Minimum by an integer reading of the words; the first on ties. -/
def leastBy (f : Word → Int) (a b : Word) : Word := if f a ≤ f b then a else b
/-- Maximum, likewise. -/
def mostBy (f : Word → Int) (a b : Word) : Word := if f a ≤ f b then b else a
/-- A NaN becomes the canonical one (R118). -/
def nan1 (w : Word) : Word := if isNan (dec32 w) then 0x7FC00000 else w
/-- What a cross-lane operation whose members M are all here gives lane l (R201, R136), and its destination: `A` and `B` are the
lanes' operands. A pair of MATCH is given as 64 bits. -/
def crossGives (g : Group) (M : Mask) (A B : Nat → Word) : Instr → Option (RegName × (Nat → Word))
  | .shfl _ _ d _ _ => some (d, fun l => let src := (B l).toNat % g.width; if bitAt M src then A src else A l)
  | .bcast _ _ d _ _ => some (d, fun _ => A ((B (lowest M)).toNat % g.width))
  | .voteAny _ _ d _ => some (d, fun _ => if (lanesOf M).any (fun l => A l != 0) then 1 else 0)
  | .voteAll _ _ d _ => some (d, fun _ => if (lanesOf M).all (fun l => A l != 0) then 1 else 0)
  | .redAdd _ _ d _ => some (d, fun _ => ((lanesOf M).map A).foldl (· + ·) 0)
  | .redMinS _ _ d _ => some (d, fun _ => ((lanesOf M).map A).foldl (leastBy (·.toInt)) 0x7FFFFFFF)
  | .redMinU _ _ d _ => some (d, fun _ => ((lanesOf M).map A).foldl (leastBy (fun w => w.toNat)) 0xFFFFFFFF)
  | .redMaxS _ _ d _ => some (d, fun _ => ((lanesOf M).map A).foldl (mostBy (·.toInt)) 0x80000000)
  | .redMaxU _ _ d _ => some (d, fun _ => ((lanesOf M).map A).foldl (mostBy (fun w => w.toNat)) 0)
  | .redAnd _ _ d _ => some (d, fun _ => ((lanesOf M).map A).foldl (· &&& ·) 0xFFFFFFFF)
  | .redOr _ _ d _ => some (d, fun _ => ((lanesOf M).map A).foldl (· ||| ·) 0)
  | .redXor _ _ d _ => some (d, fun _ => ((lanesOf M).map A).foldl (· ^^^ ·) 0)
  | .fredAdd _ _ d _ => some (d, fun _ => nan1 (treeFold add32 8 ((lanesOf M).map A)))
  | .fredMin _ _ d _ => some (d, fun _ => nan1 (treeFold (minMax32 false false) 8 ((lanesOf M).map A)))
  | .fredMinp _ _ d _ => some (d, fun _ => nan1 (treeFold (minMax32 false true) 8 ((lanesOf M).map A)))
  | .fredMax _ _ d _ => some (d, fun _ => nan1 (treeFold (minMax32 true false) 8 ((lanesOf M).map A)))
  | .fredMaxp _ _ d _ => some (d, fun _ => nan1 (treeFold (minMax32 true true) 8 ((lanesOf M).map A)))
  | .scanAdd _ _ d _ => some (d, fun l => (((lanesOf M).filter (· ≤ l)).map A).foldl (· + ·) 0)
  | .scanXadd _ _ d _ => some (d, fun l => (((lanesOf M).filter (· < l)).map A).foldl (· + ·) 0)
  | .scanFadd _ _ d _ => some (d, fun l => match ((lanesOf M).filter (· ≤ l)).map A with
      | [] => 0
      | x :: xs => nan1 (xs.foldl add32 x))
  | _ => none
/-- The operand fields of a cross-lane instruction; its one operand twice where it has one. -/
def crossOperands : Instr → Option (RegName × RegName)
  | .shfl _ _ _ a b => some (a, b)
  | .bcast _ _ _ a b => some (a, b)
  | .voteAny _ _ _ a => some (a, a)
  | .voteAll _ _ _ a => some (a, a)
  | .matchLanes _ _ _ a => some (a, a)
  | .redAdd _ _ _ a => some (a, a)
  | .redMinS _ _ _ a => some (a, a)
  | .redMinU _ _ _ a => some (a, a)
  | .redMaxS _ _ _ a => some (a, a)
  | .redMaxU _ _ _ a => some (a, a)
  | .redAnd _ _ _ a => some (a, a)
  | .redOr _ _ _ a => some (a, a)
  | .redXor _ _ _ a => some (a, a)
  | .fredAdd _ _ _ a => some (a, a)
  | .fredMin _ _ _ a => some (a, a)
  | .fredMinp _ _ _ a => some (a, a)
  | .fredMax _ _ _ a => some (a, a)
  | .fredMaxp _ _ _ a => some (a, a)
  | .scanAdd _ _ _ a => some (a, a)
  | .scanXadd _ _ _ a => some (a, a)
  | .scanFadd _ _ _ a => some (a, a)
  | _ => none
/-- FRED and SCAN.FADD raise fp-invalid for a signalling NaN operand (R133). -/
def crossFloat : Instr → Bool
  | .fredAdd _ _ _ _ => true
  | .fredMin _ _ _ _ => true
  | .fredMinp _ _ _ _ => true
  | .fredMax _ _ _ _ => true
  | .fredMaxp _ _ _ _ => true
  | .scanFadd _ _ _ _ => true
  | _ => false
/-- At completion under .OPT, m0 holds the members that have not ended (R199): here all of them. -/
def optMask (s : State) (g : Group) (e : Ent) : State := writeNow s g.gid ⟨.m 0, lowMask 64, [(0, e.mask)], none, 0⟩
/-- A parked cross-lane operation of one entry (R198): its members, the window its destination lies in (R96), and what its lanes
contribute. -/
def crossPark (s : State) (g : Group) (e : Ent) (i : Instr) (a b : RegName) : State :=
  parkEnt s g.gid e ⟨i, readM g 0, g.vwb, (lanesOf e.mask).map (fun l => (l, readReg s g l a, readReg s g l b)), 0⟩

end Sys2Proof.Claims

/-- R198, R199: a cross-lane instruction whose checks pass parks its lanes, each with what it contributes, and whatever is then
complete completes; a check that fails raises its cause. -/
def Obligations.CrossLaneIssue : Prop :=
  ∀ (i : Instr) (opt : Bool) (a b : RegName) (s : State) (g : Group) (e : Ent),
    crossOpt i = some opt → crossOperands i = some (a, b) → Clear i s g e →
    let M := readM g 0
    let cause : Option Cause :=
      if e.mask &&& ~~~M ≠ 0 then some 0x082
      else if opt = false ∧ M &&& ~~~g.live ≠ 0 then some 0x080
      else if g.ents.any (fun x => x.pc == e.pc && (match x.st with
          | .parked p => (crossOpt p.i).isSome && p.mem != M
          | _ => false)) then some 0x083
      else match i with
        | .bcast _ _ _ _ _ => if bitAt M ((readReg s g (lowest e.mask) b).toNat % g.width) then none else some 0x082
        | _ => none
    exec i s = .next (match cause with
      | some c => trapped s g e c 0
      | none => settle (crossPark s g e i a b) g.team)

/-- R199, R201, R136: a cross-lane operation whose members are exactly the entry's lanes completes at its own issue: every member
reads the same set of operands, the result stands in d, and the lanes go to PC + 4. -/
def Sys2Proof.Claims.CrossLaneCompletes : Prop :=
  ∀ (i : Instr) (a b d : RegName) (f : Nat → Word) (s : State) (g : Group) (e : Ent) (t : Team),
    crossOperands i = some (a, b) → Clear i s g e → Calm (fun j => (crossOpt j).isNone) s g t →
    readM g 0 = e.mask → e.mask ≠ 0 → e.mask &&& ~~~g.live = 0 →
    (∀ S x d' a' b', i = .bcast S x d' a' b' → bitAt e.mask ((readReg s g (lowest e.mask) b).toNat % g.width) = true) →
    crossGives g e.mask (fun l => readReg s g l a) (fun l => readReg s g l b) i = some (d, f) →
    (crossFloat i = true → lanesWhere e.mask (fun l => isSnan (dec32 (readReg s g l a))) = 0) →
    let p := crossPark s g e i a b
    let r := writeNow p g.gid ⟨dstOf g d 0, e.mask, valsFor d e.mask (fun l => (f l).setWidth 64), none, 0⟩
    exec i s = .next (after p (goOn (if crossOpt i = some true then optMask r g e else r) g e) g.team)

/-- R201: MATCH gives each lane the mask of the lanes whose operand equals its own, in the pair d:d+1. -/
def Sys2Proof.Claims.MatchCompletes : Prop :=
  ∀ (S : BitVec 3) (x : BitVec 1) (d a : RegName) (s : State) (g : Group) (e : Ent) (t : Team),
    Clear (.matchLanes S x d a) s g e → Calm (fun j => (crossOpt j).isNone) s g t →
    readM g 0 = e.mask → e.mask ≠ 0 → e.mask &&& ~~~g.live = 0 →
    ∃ f : Nat → DWord, (∀ l j, bitAt e.mask l = true →
        ((f l).getLsbD j = true ↔ bitAt e.mask j = true ∧ readReg s g j a = readReg s g l a)) ∧
      let p := crossPark s g e (.matchLanes S x d a) a a
      let r := writeNow (writeNow p g.gid ⟨.v (g.vwb + d.toNat), e.mask, laneVals e.mask (fun l => (f l).extractLsb' 0 32), none, 0⟩) g.gid
        ⟨.v (g.vwb + d.toNat + 1), e.mask, laneVals e.mask (fun l => (f l).extractLsb' 32 32), none, 0⟩
      exec (.matchLanes S x d a) s = .next (after p (goOn (if x = 1 then optMask r g e else r) g e) g.team)

/-- R199, R201: a cross-lane operation whose members are all here completes at its own issue. -/
def Obligations.CrossLaneResults : Prop := Sys2Proof.Claims.CrossLaneCompletes ∧ Sys2Proof.Claims.MatchCompletes

/-- R202, R51, R208: LANE writes the team lane index, or the position in the group; VOTE.BALLOT writes the whole mask register; WINB
sets VWB when the window lies in the budget. -/
def Obligations.LaneBallotWindow : Prop :=
  ∀ (S : BitVec 3) (X : BitVec 1) (d a : RegName) (m : BitVec 3) (i : BitVec 8) (s : State) (g : Group) (e : Ent),
    (Clear (.lane S X d) s g e → exec (.lane S X d) s = .next (fixedResult s g e S d 2 (fun l =>
      BitVec.ofNat 32 (if X = 1 then l else match octetOf g l with
        | some o => o.index + (l - o.pos)
        | none => l)))) ∧
    (Clear (.voteBallot S m a) s g e → exec (.voteBallot S m a) s = .next (moved (pushWrite (sent s g e.mask) g.gid
      ⟨.m m.toNat, lowMask 64, [(0, lanesWhere e.mask (fun l => readReg s g l a != 0))], none, s.nextId⟩) g e S)) ∧
    (Clear (.winb S i) s g e → exec (.winb S i) s = .next (
      if g.budget < i.toNat + 8 then trapped s g e 0x088 0
      else moved (modGroup s g.gid (fun h => { h with vwb := i.toNat })) g e S))

/-- R203 to R205: BAR.ARRIVE and BAR.SYNC mark their lanes arrived, with the accesses and register writes they made before (R206, R301),
and a lane that has already arrived raises; BAR.WAIT waits for
the phase it names to be over. -/
def Obligations.BarrierIssue : Prop :=
  ∀ (S : BitVec 3) (n : BitVec 5) (d a : RegName) (s : State) (g : Group) (e : Ent) (k : Bar),
    barName s g n.toNat = .ok k →
    let b := barOf s g.team k
    let twice := lanesWhere e.mask (fun l => b.arrived.contains (rfCell g l 0))
    let go := e.mask &&& ~~~twice
    let s1 := markRegs s g.gid go
    let arrived := setBar s1 g.team { b with
      arrived := insAll ((lanesOf go).map (fun l => rfCell g l 0)) b.arrived,
      before := insAll (undone s1 g.gid go) (b.before.filter (fun j => s1.ops.any (fun o => o.id == j))) }
    let done := fun (u : State) => settle (if twice = 0 then u else raise u g.gid e.prio e.pc ⟨twice, 0x085, e.pc, 0⟩) g.team
    (Clear (.barArrive S n d) s g e → exec (.barArrive S n d) s = .next (done (if go = 0 then s else
      moved (pushWrite (sent arrived g go) g.gid ⟨.v (g.vwb + d.toNat), go, laneVals go (fun _ => b.phase), none, s1.nextId⟩)
        g { e with mask := go } S))) ∧
    (Clear (.barSync S n) s g e → exec (.barSync S n) s = .next (done (if go = 0 then s else
      parkEnt arrived g.gid { e with mask := go } ⟨.barSync S n, 0, b.phase.toNat, [], 0⟩))) ∧
    (Clear (.barWait S n a) s g e → exec (.barWait S n a) s = .next (settle (parkEnt (setBar s g.team b) g.gid e
      ⟨.barWait S n a, 0, 0, (lanesOf e.mask).map (fun l => (l, readReg s g l a, 0)), 0⟩) g.team))

/-- R204, R206: a BAR.WAIT none of whose lanes names the phase in progress is over at its own issue: the lanes go to PC + 4, and their
later accesses follow those made before the arrivals. -/
def Sys2Proof.Claims.BarWaitCompletes : Prop :=
  ∀ (S : BitVec 3) (n : BitVec 5) (a : RegName) (s : State) (g : Group) (e : Ent) (t : Team) (k : Bar),
    Clear (.barWait S n a) s g e → Calm (fun _ => false) s g t → barName s g n.toNat = .ok k →
    (let b := barOf s g.team k
     barFull s t.tid b = false → (∀ l, bitAt e.mask l = true → readReg s g l a ≠ b.phase) →
     let p := parkEnt (setBar s g.team b) g.gid e
       ⟨.barWait S n a, 0, 0, (lanesOf e.mask).map (fun l => (l, readReg s g l a, 0)), 0⟩
     exec (.barWait S n a) s = .next (after p (goOn
       (addDeps p g.gid e.mask (b.before.filter (fun j => p.ops.any (fun o => o.id == j))) false) g e) g.team))

/-- R205: the arrival that completes a phase advances the count and clears the arrivals, so that the lanes it waited with at BAR.SYNC
go on. -/
def Sys2Proof.Claims.BarSyncCompletes : Prop :=
  ∀ (S : BitVec 3) (n : BitVec 5) (s : State) (g : Group) (e : Ent) (t : Team) (k : Bar),
    Clear (.barSync S n) s g e → Calm (fun _ => false) s g t → barName s g n.toNat = .ok k →
    let b := barOf s g.team k
    b.ops = [] → (∀ l, bitAt e.mask l = true → b.arrived.contains (rfCell g l 0) = false) → e.mask ≠ 0 →
    (∀ h, h ∈ barGroups s t.tid b → ∀ l, bitAt h.live l = true → b.arrived.contains (rfCell h l 0) = true ∨
      ∃ j, bitAt e.mask j = true ∧ rfCell g j 0 = rfCell h l 0) → (∃ h, h ∈ barGroups s t.tid b ∧ h.live ≠ 0) →
    let s1 := markRegs s g.gid e.mask
    let b1 : Bar := { b with
      arrived := insAll ((lanesOf e.mask).map (fun l => rfCell g l 0)) b.arrived,
      before := insAll (undone s1 g.gid e.mask) (b.before.filter (fun j => s1.ops.any (fun o => o.id == j))) }
    let p := parkEnt (setBar s1 g.team b1) g.gid e ⟨.barSync S n, 0, b.phase.toNat, [], 0⟩
    exec (.barSync S n) s = .next (after p (setBar p t.tid { b1 with phase := b.phase + 1, arrived := [] }) g.team)

/-- R204 to R206: waits at barriers that are over at once. -/
def Obligations.BarrierCompletes : Prop := Sys2Proof.Claims.BarWaitCompletes ∧ Sys2Proof.Claims.BarSyncCompletes

/-- R37, R46, R59: REGRP, TCALL and TRET collect the lanes of their scope. The last to come completes the regrouping (R37), the
call (R47 to R57) or the rejoin (R60, R63). -/
def Sys2Proof.Claims.CollectionsEnd : Prop :=
  ∀ (S : BitVec 3) (k f c : BitVec 7) (m n : BitVec 3) (r : RegName) (s : State) (g : Group) (e : Ent) (t : Team),
    let pr := parkEnt s g.gid e ⟨.regrp S k f c, 0, 0, [], 0⟩
    let pt := parkEnt s g.gid e ⟨.tret S, 0, 0, [], 0⟩
    let pc := parkEnt s g.gid e ⟨.tcall S m r n, 0, 0, [(lowest e.mask, readK g (kNum r), readK g (kNum r + 1))], 0⟩
    (∀ g1 e1, Clear (.regrp S k f c) s g e → Calm isRegrp s g t → g.path = [] → otherRoleRegrps s g = false →
      collected isRegrp (scopeAll pr g) = some (g1, e1) → e1.st = .parked ⟨.regrp S k f c, 0, 0, [], 0⟩ →
      exec (.regrp S k f c) s = .next (after pr (regroup pr (scopeAll pr g) e1 k f c.toNat) g.team)) ∧
    (∀ x, Clear (.tret S) s g e → Calm isTret s g t → g.path ≠ [] →
      t.frames.find? (frameDone pt t) = some x →
      exec (.tret S) s = .next (after pt (rejoin pt t x) g.team)) ∧
    (∀ g1 u, Clear (.tcall S m r n) s g e → Calm (fun _ => false) s g t → g.width ≠ 1 → scopeAll s g = [g] → g.ents = [e] →
      noGroupWrites g = true → s.ops.any (fun o => o.gid == g.gid) = false → g.pend = [] →
      edgesLeft s g (bit1 (lowest e.mask)) = false →
      groupOf pc g.gid = some g1 →
      teamCall pc (scopeGroups pc g) g1 { e with stall := 0, st := .parked ⟨.tcall S m r n, 0, 0,
        [(lowest e.mask, readK g (kNum r), readK g (kNum r + 1))], 0⟩ } m.toNat (mkPair (readK g (kNum r)) (readK g (kNum r + 1)))
        (n.toNat + 1) = .ok u → u.nextId ≠ pc.nextId →
      exec (.tcall S m r n) s = .next (after pc u g.team))

/-- R37: after the regrouping the role's live lanes hold its first positions, as many as there were, in one entry of their group at PC + 4. -/
def Sys2Proof.Claims.RegroupLeaves : Prop :=
  ∀ (s : State) (gs : List Group) (e : Ent) (key first : RegName) (n : Nat), DebugOff s → (gs.map (·.gid)).Nodup →
    (∀ g, g ∈ gs → groupOf s g.gid = some g) → (∀ g, g ∈ gs → g.width ≤ 64) →
    let t := regroup s gs e key first n
    let places := positions gs
    let held := places.take (places.filter (fun p => bitAt p.1.live p.2)).length
    (∀ g, g ∈ gs → ∃ g', groupOf t g.gid = some g' ∧ g'.path = g.path ∧ g'.octets = g.octets ∧ g'.core = g.core ∧
      (∀ l, l < 64 → (bitAt g'.live l = true ↔ ∃ p, p ∈ held ∧ p.1.gid = g.gid ∧ p.2 = l)) ∧
      (if g'.live = 0 then g'.ents = [] else ∃ pr, g'.ents = [⟨e.pc + 4, pr, g'.live, 0, .ready⟩])) ∧
    (∀ m, (∀ g, g ∈ gs → g.gid ≠ m) → groupOf t m = groupOf s m) ∧
    t.teams.map (fun k => k.frames) = s.teams.map (fun k => k.frames) ∧ t.ctl = s.ctl ∧ t.ten = s.ten

/-- R47 to R53: a call that takes place puts one frame on the team's, with the callers, the return PC and the mask register; the callers' groups
are gone, and each new group belongs to one callee of it, keeps the team and the core, lives in octets of the callers' groups with the lanes
that were live there, and stands at one PC. -/
def Sys2Proof.Claims.TeamCallLeaves : Prop :=
  ∀ (s t : State) (gs : List Group) (g : Group) (e : Ent) (md n : Nat) (addr : DWord) (k : Team), DebugOff s →
    (∀ h, h ∈ s.groups → h.gid < s.nextId) → teamOf s g.team = some k → teamCall s gs g e md addr n = .ok t → t.nextId ≠ s.nextId →
    ∃ f : Frame, (∃ k', teamOf t g.team = some k' ∧ k'.frames = k.frames ++ [f]) ∧ k.frames.length < 8 ∧ f.retPc = e.pc ∧ f.maskReg = md ∧
      f.callers.map (fun c => (c.gid, c.live, c.path, c.octets)) = gs.map (fun c => (c.gid, c.live, c.path, c.octets)) ∧
      ∀ h, h ∈ t.groups → (h ∈ s.groups ∧ ∀ c, c ∈ gs → c.gid ≠ h.gid) ∨
        (∃ c j, c ∈ gs ∧ j < n ∧ h.path = (f.fid, j) :: c.path ∧ h.team = c.team ∧ h.core = c.core ∧
          (∀ l, l < 64 → bitAt h.live l = true → ∃ c', c' ∈ gs ∧ bitAt c'.live l = true ∧ ∃ o, o ∈ c'.octets ∧ o.pos ≤ l ∧ l < o.pos + 8) ∧
          ∃ pc, ∀ x, x ∈ h.ents → x.pc = pc ∧ x.st = .ready ∧ x.mask &&& ~~~h.live = 0)

/-- R60, R63: a rejoin takes the frame from the team's, with its callees' groups and barriers; each caller is back with those of its lanes that
are still live in a callee, all at the return PC + 4, and the mask register holds the callees that ran. -/
def Sys2Proof.Claims.RejoinLeaves : Prop :=
  ∀ (s : State) (t : Team) (f : Frame), DebugOff s → teamOf s t.tid = some t →
    let subs := s.groups.filter (fun g => g.team == t.tid && g.path.any (fun p => p.1 == f.fid))
    let cells := (subs.map (fun g => ((lanesOf g.live).map (fun l => rfCell g l 0)))).flatten
    let u := rejoin s t f
    (∃ t', teamOf u t.tid = some t' ∧ t'.frames = t.frames.filter (fun x => x.fid != f.fid) ∧
      t'.bars = t.bars.filter (fun b => b.frame != f.fid)) ∧
    (∀ c, c ∈ f.callers → ∃ c', c' ∈ u.groups ∧ c'.gid = c.gid ∧ c'.path = c.path ∧ c'.octets = c.octets ∧
      (∀ l, l < 64 → (bitAt c'.live l = true ↔ bitAt c.live l = true ∧ rfCell c l 0 ∈ cells)) ∧
      (if c'.live = 0 then c'.ents = [] else ∃ pr, c'.ents = [⟨f.retPc + 4, pr, c'.live, 0, .ready⟩]) ∧
      c'.m = mapSet 0 c.m f.maskReg (f.ran &&& lowMask c.width)) ∧
    (∀ h, h ∈ u.groups → (∃ h0, h0 ∈ s.groups ∧ h0 ∉ subs ∧ h0.gid = h.gid) ∨ ∃ c, c ∈ f.callers ∧ c.gid = h.gid)

/-- R37, R46 to R53, R59, R60, R63: the collections, and what the regrouping, the call and the rejoin leave of groups, lanes and frames. That
the results in flight go with their lanes at a regrouping and take effect at a call, and where a call reads its table, are the model's choices
(log entries 68 and 82). -/
def Obligations.CollectionsComplete : Prop := Sys2Proof.Claims.CollectionsEnd ∧ Sys2Proof.Claims.RegroupLeaves ∧
  Sys2Proof.Claims.TeamCallLeaves ∧ Sys2Proof.Claims.RejoinLeaves

namespace Sys2Proof.Claims

/-- The lanes' accesses, nothing of them performed yet, each behind what R293 puts before it in its own lane. -/
def lanesAccs (s : State) (g : Group) (e : Ent) (kind : OpKind) (size : Nat) (va : Nat → DWord) (x : Nat → Xlat)
    (data : Nat → DWord × DWord) : List Acc :=
  (lanesOf e.mask).map (fun l =>
    let a : Acc := ⟨l, va l, (x l).at_, size, (data l).1, (data l).2, false, false, (x l).sectors, [], false⟩
    { a with after := laneAfter s g kind a })
/-- The core's L1 copies of the lines that a condition picks are dropped (R214). -/
def linesDropped (s : State) (g : Group) (e : Ent) (x : Nat → Xlat) (drop : Xlat → Bool) : State :=
  let lines := (lanesOf e.mask).filterMap (fun l => match (x l).at_ with
    | .ten a => if drop (x l) then some (a / 64) else none
    | _ => none)
  if lines = [] then s else modCore s g.core (fun c => { c with l1 := c.l1.filter (fun y => !lines.contains y.line) })
/-- What translating and reaching the lanes' places leaves: the sectors read are held in T (R80), and the structures passed through are
owned (R421). -/
def accessed (s : State) (g : Group) (e : Ent) (x : Nat → Xlat) (drop : Xlat → Bool) (ps : List (Nat × DWord × Xlat)) : State :=
  ps.foldl (fun s p => ownPlace s g.core g.ctxid p.2.2.at_)
    (linesDropped (fillT s (.core g.core) (ps.foldl (fun xs p => insAll p.2.2.sectors xs) [])) g e x drop)
/-- An access in flight (R83): one lane each at its address and place, nothing performed yet but what a runahead group's load of it has
already returned (R42), ordered after what R294 says; the register
writes that await it; and the lanes at PC + 4. -/
def memGives (s : State) (g : Group) (e : Ent) (S : BitVec 3) (kind : OpKind) (size : Nat) (va : Nat → DWord) (x : Nat → Xlat)
    (data : Nat → DWord × DWord) (writes : Nat → List PWrite) (drop : Xlat → Bool := fun _ => false) : State :=
  let ps := (lanesOf e.mask).map (fun l => (l, va l, x l))
  let accs := lanesAccs s g e kind size va x data
  let made := accs.map (aheadAcc g e kind)
  let u := aheadPast (accessed s g e x drop ps) g made
  let v : State := { u with nextId := u.nextId + 1 }
  moved (pushAll { v with ops := v.ops ++ [⟨u.nextId, kind, g.core, g.gid, g.team, g.ctxid, g.kernel, e.mask, made,
    afterOf s g e.mask kind accs, false, [], nearOf s g e.mask kind, e.pc⟩] } g.gid (writes u.nextId)) g e S
/-- The register writes of a load: d, or d and d + 1 (R216). -/
def loads (g : Group) (d : RegName) (pair : Bool) (m : Mask) (tok : Nat) : List PWrite :=
  ⟨.v (g.vwb + d.toNat), m, [], none, tok⟩ :: (if pair then [⟨.v (g.vwb + d.toNat + 1), m, [(64, 1)], none, tok⟩] else [])
/-- Some lane's page has NC = 1 (R214). -/
def uncached (e : Ent) (x : Nat → Xlat) : Bool := (lanesOf e.mask).any (fun l => (x l).leaf.getLsbD 8)
/-- Nothing keeps an access of these lanes from issuing: no page-table write that it follows is still to be performed (R85), and no
write of fixed latency to a register that it reaches in window space (R293). -/
def Unheld (s : State) (g : Group) (e : Ent) (kind : OpKind) (size : Nat) (va : Nat → DWord) (x : Nat → Xlat) : Prop :=
  let accs := lanesAccs s g e kind size va x (fun _ => (0, 0))
  ptWrites s accs (insAll (nearOf s g e.mask kind) (afterOf s g e.mask kind accs)) = [] ∧ ∀ a, a ∈ accs → ∀ w, w ∈ regPend g a → w.tok ≠ 0
/-- Every lane's access passes the checks of R212 and reaches its place; where it reads, the word there is sound, in memory and in the
core's L1 (R410, R411, R413); and nothing keeps it from issuing. -/
def Reaches (s : State) (g : Group) (e : Ent) (use : Use) (va : Nat → DWord) (size : Nat) (kind : OpKind) (reads : Bool)
    (x : Nat → Xlat) : Prop :=
  (∀ l, bitAt e.mask l = true → translate s (.core g.core) g.ctxid g.kernel use (va l) size = .ok (x l) ∧
    (reads = true → (x l).nonRes = false → placeBad s g.core (x l).at_ size = none ∧
      loadBad s g.core (pastL1 kind) (x l).at_ size = none)) ∧
  Unheld s g e kind size va x

end Sys2Proof.Claims

/-- R212, R216, R218: LD, LD.B64, LD.B8 and LD.B16 start one access for each active lane at pair + 4, 8, 1 or 2 times the index. -/
def Sys2Proof.Claims.LoadsIssue : Prop :=
  ∀ (S : BitVec 3) (c : BitVec 1) (d a b : RegName) (s : State) (g : Group) (e : Ent) (x : Nat → Xlat), e.mask ≠ 0 →
    let va := fun (n : Nat) l => readPair s g l a + BitVec.ofInt 64 (n * (readReg s g l b).toInt)
    let cg := fun (o : Bool) => OpKind.load (o || uncached e x)
    let none2 := fun (_ : Nat) => ((0, 0) : DWord × DWord)
    (Clear (.ld S c d a b) s g e → Reaches s g e .load (va 4) 4 (cg (c == 1)) true x →
      exec (.ld S c d a b) s = .next (memGives s g e S (cg (c == 1)) 4 (va 4) x none2 (loads g d false e.mask))) ∧
    (Clear (.ldB64 S c d a b) s g e → Reaches s g e .load (va 8) 8 (cg (c == 1)) true x →
      exec (.ldB64 S c d a b) s = .next (memGives s g e S (cg (c == 1)) 8 (va 8) x none2 (loads g d true e.mask))) ∧
    (Clear (.ldB8 S d a b) s g e → Reaches s g e .load (va 1) 1 (cg false) true x →
      exec (.ldB8 S d a b) s = .next (memGives s g e S (cg false) 1 (va 1) x none2 (loads g d false e.mask))) ∧
    (Clear (.ldB16 S d a b) s g e → Reaches s g e .load (va 2) 2 (cg false) true x →
      exec (.ldB16 S d a b) s = .next (memGives s g e S (cg false) 2 (va 2) x none2 (loads g d false e.mask)))

/-- R91: LD.NR writes the mask of its non-resident lanes, whose accesses are already over and read zero. -/
def Sys2Proof.Claims.NonResidentLoadIssues : Prop :=
  ∀ (S : BitVec 3) (c : BitVec 1) (d a : RegName) (m : BitVec 3) (s : State) (g : Group) (e : Ent) (x : Nat → Xlat), e.mask ≠ 0 →
    Clear (.ldNr S c d a m) s g e → Reaches s g e .loadNr (fun l => readPair s g l a) 4 (.load (c == 1 || uncached e x)) true x →
    let nr := lanesWhere e.mask (fun l => (x l).nonRes)
    let owed := (g.nrReplay.filter (fun k => k.1 == e.pc)).foldl (fun m k => m ||| k.2) 0
    let t := memGives s g e S (.load (c == 1 || uncached e x)) 4 (fun l => readPair s g l a) x (fun _ => (0, 0))
      (fun tok => loads g d false e.mask tok ++ [⟨.m m.toNat, if e.mask &&& ~~~owed = 0 then e.mask else lowMask 64,
        [(0, nr)], none, tok⟩])
    exec (.ldNr S c d a m) s = .next (modGroup { t with ops := t.ops.map (fun o => if o.id = s.nextId then
        { o with accs := o.accs.map (fun y => if bitAt nr y.lane then { y with done := true } else y) } else o) } g.gid
      (fun h => nrAfter h e.pc e.mask 0))

/-- R40, R41: the loads that a core's runahead groups issue past an unresolved branch are a step of their own, and leave the memories,
teams, accesses in flight, waiting records and messages as they are, every core but for its L1, and every group but for the loads it has
ahead: no register, mask or handle is written, no lane moves and no fault is raised. -/
def Sys2Proof.Claims.LoadsAhead : Prop :=
  ∀ (n : Nat) (rest : List Move) (s : State), s.powered = true → s.agenda = .ahead n :: rest → (s.cores.map Prod.fst).Pairwise (· < ·) →
    ∃ t, step s = .next t ∧ t.ten = s.ten ∧ t.ctl = s.ctl ∧ t.teams = s.teams ∧ t.ops = s.ops ∧ t.aops = s.aops ∧ t.trapWait = s.trapWait ∧
      t.out = s.out ∧ t.agenda = rest ∧
      (∀ c, { coreOf t c with l1 := [] } = { coreOf s c with l1 := [] }) ∧
      t.groups.map (fun g => { g with ahead := [] }) = s.groups.map (fun g => { g with ahead := [] })

/-- R40, R41, R91, R212, R216, R218: the loads. The model's choices: which loads go ahead of a branch (log entry 9), and which lanes a reissued
LD.NR has left to replay (log entry 29). -/
def Obligations.LoadForms : Prop :=
  Sys2Proof.Claims.LoadsIssue ∧ Sys2Proof.Claims.NonResidentLoadIssues ∧ Sys2Proof.Claims.LoadsAhead

/-- R212, R216, R217: ST, ST.B64, ST.B8 and ST.B16 start one store for each active lane; under .CG, and to a page with NC = 1, the
core's L1 copies go first (R214). -/
def Sys2Proof.Claims.StoresIssue : Prop :=
  ∀ (S : BitVec 3) (c : BitVec 1) (d a b : RegName) (s : State) (g : Group) (e : Ent) (x : Nat → Xlat), e.mask ≠ 0 →
    let va := fun (n : Nat) l => readPair s g l a + BitVec.ofInt 64 (n * (readReg s g l b).toInt)
    let word := fun l => ((readReg s g l d).setWidth 64, (0 : DWord))
    let st := fun (n : Nat) (o : Bool) (v : Nat → DWord × DWord) =>
      memGives s g e S .store n (va n) x v (fun _ => []) (fun y => o || y.leaf.getLsbD 8)
    (Clear (.st S c d a b) s g e → Reaches s g e .store (va 4) 4 .store false x →
      exec (.st S c d a b) s = .next (st 4 (c == 1) word)) ∧
    (Clear (.stB64 S c d a b) s g e → Reaches s g e .store (va 8) 8 .store false x →
      exec (.stB64 S c d a b) s = .next (st 8 (c == 1) (fun l => (readPair s g l d, 0)))) ∧
    (Clear (.stB8 S d a b) s g e → Reaches s g e .store (va 1) 1 .store false x → exec (.stB8 S d a b) s = .next (st 1 false word)) ∧
    (Clear (.stB16 S d a b) s g e → Reaches s g e .store (va 2) 2 .store false x → exec (.stB16 S d a b) s = .next (st 2 false word))

/-- R219: LDSP and STSP at the team-relative offset U32(a) + 4 × U32(b) modulo 2^32; the scratchpad's own checks raise misaligned and
spad-range before any effect. -/
def Obligations.ScratchpadIssue : Prop :=
  ∀ (S : BitVec 3) (d a b : RegName) (s : State) (g : Group) (e : Ent), e.mask ≠ 0 →
    let off := fun l => ((readReg s g l a).toNat + 4 * (readReg s g l b).toNat) % 2 ^ 32
    let bytes := bitsOf ((recOf s g).getD 4 0) 0 32
    let x := fun l => (⟨.spad (spBaseOf s g + off l), 0, 0, false, []⟩ : Xlat)
    let va := fun l => BitVec.ofNat 64 (off l)
    (∀ l, bitAt e.mask l = true → off l % 4 = 0 ∧ off l + 4 ≤ bytes) →
    (Clear (.ldsp S d a b) s g e → (∀ l, bitAt e.mask l = true → placeBad s g.core (x l).at_ 4 = none) → Unheld s g e .ldsp 4 va x →
      exec (.ldsp S d a b) s = .next (memGives s g e S .ldsp 4 va x (fun _ => (0, 0)) (loads g d false e.mask))) ∧
    (Clear (.stsp S d a b) s g e → Unheld s g e .stsp 4 va x →
      exec (.stsp S d a b) s = .next (memGives s g e S .stsp 4 va x (fun l => ((readReg s g l d).setWidth 64, 0)) (fun _ => [])))

/-- R220 to R223: ATOM, RATOM and CADD start one atomic for each active lane at the address in its pair. -/
def Obligations.AtomicsIssue : Prop :=
  ∀ (S : BitVec 3) (d a o : BitVec 7) (s : State) (g : Group) (e : Ent) (x : Nat → Xlat), e.mask ≠ 0 →
    let va := fun l => readPair s g l a
    let n := if 11 ≤ o.toNat then 8 else 4
    let data := fun l => (if o.toNat = 9 then ((readReg s g l d).setWidth 64, (readRegAt s g l d 1).setWidth 64)
      else if o.toNat = 13 then (readPair s g l d, mkPair (readRegAt s g l d 2) (readRegAt s g l d 3))
      else if 11 ≤ o.toNat then (readPair s g l d, 0) else ((readReg s g l d).setWidth 64, 0) : DWord × DWord)
    let far : Nat → Xlat := fun _ => ⟨.ten 0, 0, 0, false, []⟩
    let w := if o.toNat = 2 then 8 else 4
    (Clear (.atom S d a o) s g e → Reaches s g e .store va n (.atom o.toNat) true x → (∀ l, bitAt e.mask l = true → (x l).nonRes = false) →
      exec (.atom S d a o) s = .next (memGives s g e S (.atom o.toNat) n va x data (loads g d (n == 8) e.mask))) ∧
    (Clear (.ratom S d a o) s g e →
      (∀ l, bitAt e.mask l = true → spaceCheck (va l) = none ∧ (va l).toNat / 2 ^ 62 = 1 ∧ (va l).toNat % n = 0) →
      Unheld s g e (.ratom o.toNat (mapGet 0 s.lrank g.ctxid.toNat).toNat) n va far →
      exec (.ratom S d a o) s = .next (memGives s g e S (.ratom o.toNat (mapGet 0 s.lrank g.ctxid.toNat).toNat) n va far data
        (loads g d (n == 8) e.mask))) ∧
    (Clear (.cadd S d a o) s g e → Reaches s g e .store va w (.cadd o.toNat) false x →
      (∀ l, bitAt e.mask l = true → (va l).toNat / 2 ^ 62 = 0) →
      exec (.cadd S d a o) s = .next (memGives s g e S (.cadd o.toNat) w va x
        (fun l => (if w = 8 then readPair s g l d else (readReg s g l d).setWidth 64, 0)) (fun _ => [])))

/-- R93, R367, R368: where lanes of a store raise, the others are performed and move on, and the raising lanes share one trap with the
code and address of the lowest of them. -/
def Sys2Proof.Claims.StoreFaultsSplit : Prop :=
  ∀ (S : BitVec 3) (c : BitVec 1) (d a b : RegName) (s : State) (g : Group) (e : Ent) (x : Nat → Xlat) (F : Mask) (code : Cause),
    let va := fun l => readPair s g l a + BitVec.ofInt 64 (4 * (readReg s g l b).toInt)
    let go := e.mask &&& ~~~F
    Clear (.st S c d a b) s g e → F ≠ 0 → go ≠ 0 → F &&& ~~~e.mask = 0 →
    Reaches s g { e with mask := go } .store va 4 .store false x →
    translate s (.core g.core) g.ctxid g.kernel .store (va (lowest F)) 4 = .fault code →
    (∀ l, bitAt F l = true → ∃ k, translate s (.core g.core) g.ctxid g.kernel .store (va l) 4 = .fault k ∧ faultLeaves s (.core g.core)
      g.ctxid (va l) 4 = s) →
    exec (.st S c d a b) s = .next (settle (raise (memGives s g { e with mask := go } S .store 4 va x
      (fun l => ((readReg s g l d).setWidth 64, 0)) (fun _ => []) (fun y => c == 1 || y.leaf.getLsbD 8)) g.gid e.prio e.pc
      ⟨F, code, e.pc, va (lowest F)⟩) g.team)

/-- R93, R212, R216, R217, R367, R368: the stores. -/
def Obligations.StoreForms : Prop := Sys2Proof.Claims.StoresIssue ∧ Sys2Proof.Claims.StoreFaultsSplit

/-- R224 to R227, R297: the fences order and move on; FENCE at core scope and wider orders copies too; one that covers no other core makes the
lanes wait for their loads and tensor stores only as far as their own core sees them; PREF changes nothing that a program can
read. That FENCE with code 0 orders nothing is the model's choice (log entry 14). -/
def Obligations.FencesIssue : Prop :=
  ∀ (S : BitVec 3) (c l a : BitVec 7) (s : State) (g : Group) (e : Ent),
    (Clear (.fence S c) s g e →
      let u := markRegs s g.gid e.mask
      let before := undone u g.gid e.mask
      let near := fun i => !scopeWide u g c.toNat && staysNear u g.core i
      let t := if c = 0 then s else addNear (addDeps u g.gid e.mask (before.filter (fun i => !near i)) (decide (3 ≤ c.toNat))) g.gid e.mask
        (before.filter near) (decide (3 ≤ c.toNat))
      exec (.fence S c) s = .next (moved (if scopeWide s g c.toNat then modCore t g.core (fun k => { k with l1 := [] }) else t) g e S)) ∧
    (Clear (.fenceTc S) s g e → exec (.fenceTc S) s = .next (moved (modGroup s g.gid (fun h =>
      { h with tcDeps := insAll (tcAwaits s g) h.tcDeps })) g e S)) ∧
    (Clear (.fenceQ S a) s g e →
      let qs := (readK g (a.toNat - 96)).toNat % 256
      exec (.fenceQ S a) s = .next (moved (if qs = 0 then s else modGroup s g.gid (fun h =>
        { h with qJoins := h.qJoins ++ [(qs, joined s g qs)] })) g e S)) ∧
    (Clear (.pref S l a) s g e → (s.cores.map Prod.fst).Pairwise (· < ·) → ∃ t, exec (.pref S l a) s = .next (moved t g e S) ∧ t.ctl = s.ctl ∧ t.ten = s.ten ∧ t.ap = s.ap ∧
      t.groups = s.groups ∧ t.ops = s.ops ∧ (∀ n, n ≠ g.core → coreOf t n = coreOf s n) ∧
      ∃ ls, coreOf t g.core = { coreOf s g.core with l1 := ls })

namespace Sys2Proof.Claims

/-- A scoreboarded result of the whole group in a destination that may be uniform (R215, R242). -/
def boardAny (s : State) (g : Group) (e : Ent) (S : BitVec 3) (d : RegName) (v : Word) : State :=
  moved (pushWrite (sent s g e.mask) g.gid ⟨dstOf g d 0, e.mask, valsFor d e.mask (fun _ => v.setWidth 64), none, s.nextId⟩) g e S
/-- No operation of the package has the next identity yet, and it is not that of no operation. -/
def FreshId (s : State) : Prop := s.nextId ≠ 0 ∧ ∀ o, o ∈ s.aops → o.id ≠ s.nextId
/-- The handle h of the group names the operation id. -/
def handled (s : State) (g : Group) (h id : Nat) : State := modGroup s g.gid (fun k => writeH k h id)

end Sys2Proof.Claims

/-- R230, R231: QPUSH appends one entry, with the words of the active positions and zero elsewhere, where there is room and no earlier
push waits; QPOP takes the oldest entry, its words in the active lanes and its whole mask. -/
def Obligations.HandOffQueues : Prop :=
  ∀ (S q m : BitVec 3) (d a : RegName) (s : State) (g : Group) (e : Ent) (depth : Nat) (es : List QEntry),
    queueOf s g.team q.toNat = some (depth, es) →
    (Clear (.qpush S q a) s g e → es.length < depth → queueWaiters s g.team pushQueue q.toNat = [] →
      let words := (List.range g.width).map (fun l => if bitAt e.mask l then readReg s g l a else 0)
      let u := markRegs s g.gid e.mask
      exec (.qpush S q a) s = .next (settle (moved (setQueue u g.team q.toNat (es ++ [⟨words, e.mask, undone u g.gid e.mask⟩])) g e 0) g.team)) ∧
    (∀ y ys, es = y :: ys → Clear (.qpop S d m q) s g e → queueWaiters s g.team popQueue q.toNat = [] →
      let t := setQueue s g.team q.toNat ys
      let t := writeNow t g.gid ⟨.v (g.vwb + d.toNat), e.mask, laneVals e.mask (fun l => y.words.getD l 0), none, 0⟩
      let t := writeNow t g.gid ⟨.m m.toNat, lowMask 64, [(0, y.mask)], none, 0⟩
      exec (.qpop S d m q) s = .next (settle (moved (addDeps t g.gid (lowMask 64) (y.before.filter (fun i => t.ops.any (fun o => o.id == i))) false)
        g e 0) g.team))

/-- R232 to R236: a COPY whose descriptor is well formed starts one operation on its queue, after every earlier copy of that queue and
those a FENCE.Q joined, and names it in its handle. A handle that is still Pending raises handle-busy with no effect. -/
def Sys2Proof.Claims.CopyStarts : Prop :=
  ∀ (S : BitVec 3) (h : BitVec 4) (a : RegName) (q : BitVec 3) (s : State) (g : Group) (e : Ent),
    Clear (.copy S h a q) s g e → FreshId s →
    (handleSt s g h.toNat = .pending → exec (.copy S h a q) s = .next (trapped s g e 0x0E1 0)) ∧
    (∀ slot w sectors ps, handleSt s g h.toNat ≠ .pending → copiesOn s g.core < 64 → freeSlot s g.core false = some slot →
      ownReadsDone s g = true → readDesc s g e.mask (readPair s g (lowest e.mask) a) = .ok (w, sectors, ps) →
      descBad s g.ctxid w = false → descBar w = none →
      ∃ t o, exec (.copy S h a q) s = .next (settle (moved t g e S) g.team) ∧ Started s t g h.toNat (.copy q.toNat w) .pending ∧
        aopOf t s.nextId = some o ∧ o.slot = some slot ∧ o.done = [] ∧ o.after = copiesBefore s g q.toNat ∧
        o.deps = copyDeps s g e.mask ∧ t.ten = s.ten ∧ t.ops = s.ops)

/-- R92, R228: PGREQ completes at once when every page is resident, and otherwise starts one operation over the distinct pages that are
not, in the order of their lowest lanes. -/
def Sys2Proof.Claims.PageRequestStarts : Prop :=
  ∀ (S : BitVec 3) (h : BitVec 4) (a : RegName) (s : State) (g : Group) (e : Ent) (slot : Nat) (x : Nat → Xlat),
    Clear (.pgreq S h a) s g e → FreshId s → handleSt s g h.toNat ≠ .pending → freeSlot s g.core true = some slot →
    (∀ l, bitAt e.mask l = true → translate s (.core g.core) g.ctxid g.kernel .probe (readPair s g l a) 1 = .ok (x l)) →
    let away := (lanesOf e.mask).filter (fun l => (x l).nonRes)
    let pages := pagesOf (away.map (fun l => (l, readPair s g l a)))
    ∃ t, exec (.pgreq S h a) s = .next (settle (moved t g e S) g.team) ∧
      Started s t g h.toNat (.pages (if away = [] then [] else pages) []) (if away = [] then .done else .pending)

/-- R92, R228, R232 to R236: COPY and PGREQ start their operations. -/
def Obligations.AsyncStarts : Prop := Sys2Proof.Claims.CopyStarts ∧ Sys2Proof.Claims.PageRequestStarts

/-- R237, R239: the handle instructions. HWAIT on a handle that is not Pending completes, and on Error raises the recorded cause with the
handle Idle; HTEST reads the state; HEXPORT gives the token and frees the handle; HIMPORT of a valid token names its operation, which leaves
the teams none of whose handles names it; HCANCEL of
a handle that is not Pending makes it Idle. -/
def Obligations.HandleResults : Prop :=
  ∀ (S : BitVec 3) (h : BitVec 4) (d a : RegName) (s : State) (g : Group) (e : Ent),
    (Clear (.hwait S h) s g e →
      (handleSt s g h.toNat = .idle ∨ handleSt s g h.toNat = .done →
        exec (.hwait S h) s = .next (settle (goOn s g e) g.team)) ∧
      (∀ c x, handleSt s g h.toNat = .error c x →
        exec (.hwait S h) s = .next (settle (raise (handled s g h.toNat 0) g.gid e.prio e.pc ⟨e.mask, c, e.pc, x⟩) g.team)) ∧
      (handleSt s g h.toNat = .pending → postBroken s g h.toNat = none →
        exec (.hwait S h) s = .next (settle (parkEnt s g.gid e ⟨.hwait S h, 0, 0, [], 0⟩) g.team))) ∧
    (Clear (.htest S d h) s g e → exec (.htest S d h) s = .next (boardAny s g e S d (match handleSt s g h.toNat with
      | .idle => 0
      | .pending => 1
      | .done => 2
      | .error c _ => BitVec.ofNat 32 (3 + c.toNat * 65536)))) ∧
    (∀ o n, Clear (.hexport S d h) s g e → aopOf s (readH g h.toNat) = some o → o.st ≠ .idle → o.slot = some n →
      exec (.hexport S d h) s = .next (boardAny (handled (setAop s { o with exported := some g.ctxid.toNat, exporter := g.gid }) g h.toNat 0) g e S d
        (BitVec.ofNat 32 (2 ^ 31 + o.gen * 2 ^ 20 + n)))) ∧
    (∀ o, Clear (.himport S h a) s g e → handleSt s g h.toNat ≠ .pending → readReg s g (lowest e.mask) a ≠ 0 →
      tokenOp s g (readReg s g (lowest e.mask) a) = some o →
      let t := setAop s { o with exported := none }
      let names := fun (k : Team) => (s.groups.filter (fun x => x.team = k.tid) ++ (k.frames.map (·.callers)).flatten).any (fun x =>
        x.h.any (fun p => p.2 = o.id))
      let t := { t with teams := t.teams.map (fun k => if names k then k else { k with ops := delNat o.id k.ops }) }
      let t := if o.st = .pending then modTeam t g.team (fun k => { k with ops := delNat o.id k.ops ++ [o.id] }) else t
      exec (.himport S h a) s = .next (settle (moved (handled t g h.toNat o.id) g e S) g.team)) ∧
    (∀ o, Clear (.hcancel S h) s g e → aopOf s (readH g h.toNat) = some o → o.st ≠ .pending →
      exec (.hcancel S h) s = .next (settle (moved (handled s g h.toNat 0) g e S) g.team)) ∧
    (∀ o, Clear (.hcancel S h) s g e → aopOf s (readH g h.toNat) = some o → o.st = .pending →
      exec (.hcancel S h) s = .next (settled (moved (cancelAop s o) g e S) g e))

/-- R243 to R246: MACQ takes a free engine at once, and MREL of the owner releases it. A group whose context is not AOWN's raises
aown-mismatch, and one that does not own the engine raises not-owner; one that waits for the engine's return stalls and raises neither. -/
def Sys2Proof.Claims.EngineOwnership : Prop :=
  ∀ (S : BitVec 3) (s : State) (g : Group) (e : Ent),
    let c := coreOf s g.core
    let named := c.aown.getLsbD 16 = true ∧ c.aown.extractLsb' 0 16 = g.ctxid
    let owns := ∃ w, c.owner = some w ∧ w.gid = g.gid ∧ c.released = false
    (Clear (.macq S) s g e → named → c.owner = none → c.fifo = [] →
      exec (.macq S) s = .next (settle (moved (setCore s g.core { c with owner := some ⟨g.gid, g.team⟩, released := false }) g e 0) g.team)) ∧
    (Clear (.mrel S) s g e → named → g.engineWait = false → owns →
      exec (.mrel S) s = .next (settle (moved (modCore s g.core (fun k => { k with released := true })) g e S) g.team)) ∧
    (Clear (.macq S) s g e → ¬named → exec (.macq S) s = .next (trapped s g e 0x0C1 0)) ∧
    (Clear (.mrel S) s g e → g.engineWait = true → exec (.mrel S) s = .next (stallEnt s g.gid e 0 .engine)) ∧
    (Clear (.mrel S) s g e → ¬named → g.engineWait = false → exec (.mrel S) s = .next (trapped s g e 0x0C1 0)) ∧
    (Clear (.mrel S) s g e → named → g.engineWait = false → ¬owns → exec (.mrel S) s = .next (trapped s g e 0x0C0 0))

/-- R246, R252, R253, R256: for the engine's owner, a matrix operation that passes its checks and finds room enters the stream with the
operands read at issue, in the order of issue. -/
def Sys2Proof.Claims.MatrixOperationsEnter : Prop :=
  ∀ (S : BitVec 3) (x : BitVec 1) (t : BitVec 3) (a b : RegName) (s : State) (g : Group) (e : Ent),
    let c := coreOf s g.core
    let aw := readPair s g 0 a
    let bw := readReg s g 0 b
    c.aown.getLsbD 16 = true → c.aown.extractLsb' 0 16 = g.ctxid → g.engineWait = false → c.owner = some ⟨g.gid, g.team⟩ →
    c.released = false → c.stream.length < 16 →
    (∀ bar, Clear (.mma S x t a b) s g e → mmaOwn false a b s g = none → wordBar s g bw = .ok bar →
      exec (.mma S x t a b) s = .next (moved (enterStream s g (.mma S x t a b) aw bw t.toNat bar) g e S)) ∧
    (∀ bar, Clear (.mmaP S x t a b) s g e → mmaOwn true a b s g = none → wordBar s g bw = .ok bar →
      exec (.mmaP S x t a b) s = .next (moved (enterStream s g (.mmaP S x t a b) aw bw t.toNat bar) g e S)) ∧
    (Clear (.mzero S t) s g e → exec (.mzero S t) s = .next (moved (enterStream s g (.mzero S t) 0 0 t.toNat none) g e S)) ∧
    (∀ bar, Clear (.mloada S t a) s g e → tileOwn false a s g = none → wordBar s g (loWord aw) = .ok bar →
      exec (.mloada S t a) s = .next (moved (enterStream s g (.mloada S t a) aw (loWord aw) t.toNat bar) g e S)) ∧
    (∀ bar, Clear (.mstorea S t a) s g e → tileOwn true a s g = none → wordBar s g (loWord aw) = .ok bar →
      let u := enterStream s g (.mstorea S t a) aw (loWord aw) t.toNat bar
      exec (.mstorea S t a) s = .next (moved (if slotRound (slotOf s g (hiWord aw).toNat) = 2 then
        modGroup u g.gid (fun k => { k with srcnt := k.srcnt + 1 }) else u) g e S)) ∧
    (∀ i lo w n, ∃ m : MOp, (coreOf (enterStream s g i lo w n none) g.core).stream = c.stream ++ [m] ∧ m.i = i ∧ m.lo = lo ∧ m.b = w ∧
      m.gid = g.gid ∧ m.ctx = g.ctxid ∧ m.srcnt = g.srcnt ∧ m.op = s.nextId)

/-- R243 to R246, R252, R253, R256: the matrix engine's instructions. -/
def Obligations.MatrixInstructions : Prop := Sys2Proof.Claims.EngineOwnership ∧ Sys2Proof.Claims.MatrixOperationsEnter

/-- R261, R333 to R335, R340, R438: a POST of a closed binding, whose lists can be read, whose members differ and count this package's rank
among them, whose chunks lie in the buffer, whose buffer is at the own rank, and whose other members' packages are found in the rank table:
the binding is Open here, with the members in rank order and the chunks unfired, and its handle is Pending. -/
def Sys2Proof.Claims.CollectivePosts : Prop :=
  ∀ (S : BitVec 3) (h : BitVec 4) (c : BitVec 2) (s : State) (g : Group) (e : Ent) (ms h0 cs : List DWord) (sm sh sc : List Nat)
    (pm ph pc : List Place) (chunks : List Chunk) (look : Nat → Nat),
    s.hdieDelay = false → Clear (.collPost S h c) s g e → foundAt s g c.toNat = .closed → handleSt s g h.toNat ≠ .pending →
    ownReadsDone s g = true → FreshId s →
    let ctx := bindCtx s g
    let n := bitsOf (bindWord s g c.toNat 1) 32 10 + 1
    let map := BitVec.ofNat 64 (bitsOf (bindWord s g c.toNat 3) 0 48)
    let buf := bindWord s g c.toNat 2
    let own := (mapGet 0 s.lrank ctx).toNat
    let ranks := sortBy (fun a b => a < b) (memberEntries ms n)
    let u := readLeaves s g.core (insAll sm sc) (pm ++ pc)
    listRead s g e.mask (BitVec.ofNat 64 (bitsOf (bindWord s g c.toNat 0) 0 48)) ((n + 3) / 4) = .ok (ms, sm, pm) →
    listRead s g e.mask map 1 = .ok (h0, sh, ph) →
    listRead s g e.mask map (1 + min 4096 (bitsOf (h0.getD 0 0) 16 16)) = .ok (cs, sc, pc) →
    (∀ r, r ∈ ranks → r < 1024) → ranks.Pairwise (· < ·) → own ∈ ranks → chunksOf cs (bitsOf (bindWord s g c.toNat 1) 0 32) = some chunks →
    bitsOf buf 52 10 = own → look own = ownPkg s → (∀ r, r ∈ ranks → r ≠ own → ∃ q tt, rankLookup u ctx r 0 = .ok (look r) q tt) →
    (∀ r, r ∈ ranks → isLost s (look r) = false) → (∀ p, p ∈ s.early → ¬(p.ctx = ctx ∧ p.c = c.toNat)) →
    ∃ (w : State) (b : Bind), exec (.collPost S h c) s = .next (settled (collPump (moved w g e S)) g e) ∧
      Started s w g h.toNat (.post c.toNat) .pending ∧ bindOf w ctx c.toNat = some b ∧ b.st = .open_ ∧ b.post = s.nextId ∧
      b.ranks = ranks.map (fun r => (r, look r)) ∧ b.ranks[b.pos]? = some (own, ownPkg s) ∧ b.chunks = chunks ∧
      (∀ k, k ∈ b.chunks → k.fired = false ∧ k.sent = false ∧ k.final = false) ∧ b.buf = buf ∧
      b.kind = bitsOf (bindWord s g c.toNat 0) 56 2 ∧ b.committed = false ∧ b.cancelling = false ∧ b.agrees = [] ∧
      (∀ x, x ∈ s.binds → ¬(x.ctx = ctx ∧ x.c = c.toNat) → x ∈ w.binds) ∧ w.ten = s.ten ∧ w.ops = s.ops

/-- R260 to R262, R334 to R337, R432, R434, R435: the collective instructions. An index that is not bound raises coll-unbound, and a POST of a
binding that is not closed or a FIRE, PROG or AGREE of a closed one raises coll-state, with no effect; FIRE fires the chunk it names, and raises
chunk-range for a chunk that the map lacks and chunk-refire for one already fired; PROG reads the progress, or what the members have agreed; AGREE on
a broken binding starts the agreement, and on one that agrees already joins it; a handle that is still Pending raises handle-busy. Bindings are
found by the team's context: the model's choice (log entry 38). -/
def Obligations.CollectiveIssue : Prop :=
  Sys2Proof.Claims.CollectivePosts ∧
  ∀ (S : BitVec 3) (h : BitVec 4) (c : BitVec 2) (d a : RegName) (s : State) (g : Group) (e : Ent),
    s.hdieDelay = false →
    let F := foundAt s g c.toNat
    let ctx := bindCtx s g
    let n := (readReg s g 0 a).toNat
    let is := [Instr.collPost S h c, .collFire S c a, .collProg S d c, .collAgree S h c]
    (∀ i, i ∈ is → Clear i s g e → F = .unbound → exec i s = .next (trapped s g e 0x140 0)) ∧
    (Clear (.collPost S h c) s g e → F ≠ .unbound → F ≠ .closed → exec (.collPost S h c) s = .next (trapped s g e 0x141 0)) ∧
    (∀ i, i ∈ is.tail → Clear i s g e → F = .closed → exec i s = .next (trapped s g e 0x141 0)) ∧
    (Clear (.collAgree S h c) s g e → F = .open_ → exec (.collAgree S h c) s = .next (trapped s g e 0x141 0)) ∧
    (Clear (.collPost S h c) s g e → F = .closed → handleSt s g h.toNat = .pending →
      exec (.collPost S h c) s = .next (trapped s g e 0x0E1 0)) ∧
    (∀ x r, Clear (.collAgree S h c) s g e → F = .failed x r → handleSt s g h.toNat = .pending →
      exec (.collAgree S h c) s = .next (trapped s g e 0x0E1 0)) ∧
    (∀ b, Clear (.collFire S c a) s g e → F = .open_ → bindOf s ctx c.toNat = some b →
      (b.chunks[n]? = none → exec (.collFire S c a) s = .next (trapped s g e 0x142 0)) ∧
      (∀ ch, b.chunks[n]? = some ch → exec (.collFire S c a) s = .next (if ch.fired then trapped s g e 0x143 0
        else settled (collPump (moved (fireChunk s ctx c.toNat n (fireAwaits s g)) g e S)) g e))) ∧
    (∀ x r, Clear (.collFire S c a) s g e → F = .failed x r → exec (.collFire S c a) s = .next (trapped s g e x 0)) ∧
    (∀ b, Clear (.collProg S d c) s g e → F = .open_ → bindOf s ctx c.toNat = some b →
      exec (.collProg S d c) s = .next (boardAny s g e S d (BitVec.ofNat 32 (progOf b)))) ∧
    (∀ x, Clear (.collProg S d c) s g e → F = .failed x none → exec (.collProg S d c) s = .next (trapped s g e x 0)) ∧
    (∀ x r, Clear (.collProg S d c) s g e → F = .failed x (some r) →
      exec (.collProg S d c) s = .next (boardAny s g e S d (BitVec.ofNat 32 r))) ∧
    (∀ x r b, Clear (.collAgree S h c) s g e → F = .failed x (some r) → handleSt s g h.toNat ≠ .pending →
      bindOf s ctx c.toNat = some b → FreshId s →
      ∃ t, exec (.collAgree S h c) s = .next (settle (moved t g e S) g.team) ∧ Started s t g h.toNat (.agree c.toNat) .done) ∧
    (∀ x b, Clear (.collAgree S h c) s g e → F = .failed x none → handleSt s g h.toNat ≠ .pending →
      bindOf s ctx c.toNat = some b → FreshId s → ∃ u, Started s u g h.toNat (.agree c.toNat) .pending ∧
        (b.st = .broken x →
          let others := (List.range b.ranks.length).filter (fun k => k != b.pos && !isLost u (b.ranks.getD k (0, 0)).2 &&
            inPaddock u (b.ranks.getD k (0, 0)).2)
          let v := modBind u ctx c.toNat (fun b => { b with st := .agreeing x, agrees := b.agrees ++ [s.nextId] })
          let v := others.foldl (fun s k => sendPlain s ctx 0 (.agreeStart (b.ranks.getD k (0, 0)).2 ctx c.toNat)) v
          exec (.collAgree S h c) s = .next (settled (moved (agreeReport v ctx c.toNat) g e S) g e)) ∧
        (b.st = .agreeing x → exec (.collAgree S h c) s =
          .next (settled (moved (modBind u ctx c.toNat (fun b => { b with agrees := b.agrees ++ [s.nextId] })) g e S) g e)))

/-- R263 to R267: work intake. DEQ takes the oldest item of its queue, ENQ appends one, LAUNCH appends one and names it in its handle, and
WFETCH asks for a team where one is left. A queue that is closed or another tenant's raises wq-denied, and a queue of the other kind
wq-kind, with no effect. That WFETCH without a team answers an open request first is the model's choice (log entry 37). -/
def Obligations.WorkIntake : Prop :=
  ∀ (S : BitVec 3) (h : BitVec 4) (d a : RegName) (s : State) (g : Group) (e : Ent),
    let q := (readK g (a.toNat - 96)).toNat % 64
    let ql := (readK g (a.toNat - 96 + 2)).toNat % 64
    (∀ y ys, Clear (.deq S d a) s g e → wqDenied s g q (some 0) = none → (wqOf s q).items = y :: ys → (wqOf s q).parked = [] →
      exec (.deq S d a) s = .next (settled (moved (deqGive (setItems s q ys) g d y) g e 0) g e)) ∧
    (∀ k, Clear (.deq S d a) s g e → wqDenied s g q (some 0) = some k → exec (.deq S d a) s = .next (trapped s g e k 0)) ∧
    (Clear (.enq S d a) s g e → wqDenied s g q none = none → (wqOf s q).items.length < 512 →
      let u := markRegs s g.gid e.mask
      exec (.enq S d a) s =
        .next (settled (moved (wqAppend u q ⟨readPair s g 0 d, g.ctxid, undone u g.gid e.mask, none, false⟩) g e S) g e)) ∧
    (∀ k, Clear (.enq S d a) s g e → wqDenied s g q none = some k → exec (.enq S d a) s = .next (trapped s g e k 0)) ∧
    (Clear (.launch S h a) s g e → wqDenied s g ql (some 1) = none → handleSt s g h.toNat ≠ .pending → (wqOf s ql).items.length < 512 →
      let v := markRegs s g.gid e.mask
      FreshId v → ∃ u, Started v u g h.toNat .launch .pending ∧ exec (.launch S h a) s =
        .next (settled (moved (wqAppend u ql ⟨readPair s g 0 a, g.ctxid, undone v g.gid e.mask, some v.nextId, false⟩) g e S) g e)) ∧
    (∀ t, Clear (.wfetch S d a) s g e → teamOf s g.team = some t →
      let off := (readK g (a.toNat - 96)).toNat
      let more := ((gridOf s t.grid).bind nextTeam).isSome
      off % 16 = 0 → off + 16 ≤ bitsOf ((recOf s g).getD 4 0) 0 32 →
      exec (.wfetch S d a) s = .next (if t.wfetch.isSome then boardAny s g e S d 2
        else if more then boardAny (modTeam s g.team (fun k => { k with wfetch := some off })) g e S d 0
        else boardAny s g e S d 1))

/-- R275, R276, R446: SRD reads the register it names, and SWR writes it: the group's own at once, a shared one after the group's earlier
loads and control-space stores; a register that the level may not write is ignored, and a VWB beyond the budget raises register-range. -/
def Sys2Proof.Claims.SystemRegisterAccess : Prop :=
  ∀ (S : BitVec 3) (r : BitVec 8) (d a : RegName) (s : State) (g : Group) (e : Ent),
    let v : DWord := if srWide r.toNat then readPair s g (lowest e.mask) a else (readReg s g (lowest e.mask) a).setWidth 64
    let x := srRead s g r.toNat
    (Clear (.srd S r d) s g e → srWide r.toNat = false → exec (.srd S r d) s = .next (boardAny s g e S d (x.extractLsb' 0 32))) ∧
    (Clear (.srd S r d) s g e → srWide r.toNat = true → exec (.srd S r d) s = .next (moved (pushWrite (pushWrite (sent s g e.mask) g.gid
        ⟨dstOf g d 0, e.mask, valsFor d e.mask (fun _ => (x.extractLsb' 0 32).setWidth 64), none, s.nextId⟩) g.gid
        ⟨dstOf g d 1, e.mask, valsFor d e.mask (fun _ => (x.extractLsb' 32 32).setWidth 64), none, s.nextId⟩) g e S)) ∧
    (Clear (.swr S r a) s g e → srIgnored g.kernel r.toNat = true → exec (.swr S r a) s = .next (moved s g e S)) ∧
    (Clear (.swr S r a) s g e → r = 0 → srIgnored g.kernel r.toNat = false → g.budget < bitsOf v 3 5 * 8 + 8 →
      exec (.swr S r a) s = .next (trapped s g e 0x088 0)) ∧
    (Clear (.swr S r a) s g e → srIgnored g.kernel r.toNat = false → srGroup r.toNat = true →
      (r = 0 → bitsOf v 3 5 * 8 + 8 ≤ g.budget) →
      exec (.swr S r a) s = .next (moved (modGroup s g.gid (fun h => swrGroup h r.toNat v)) g e S)) ∧
    (Clear (.swr S r a) s g e → srIgnored g.kernel r.toNat = false → srGroup r.toNat = false → ownReadsDone s g = true →
      ctlStoresLeft s g e.mask = false → (r = 7 → (coreOf s g.core).stream = []) →
      exec (.swr S r a) s = .next (settle (moved (swrShared s g r.toNat v) g e S) g.team))

/-- R103, R113, R114: the bits that SWR writes of a register, and that SRD then reads; of a scope register, those of cores it can name. That
the reserved bits of VWB are ignored on a write is the model's choice (log entry 32). -/
def Sys2Proof.Claims.srFields (s : State) (ctx : BitVec 16) (r : Nat) : DWord :=
  if r = 0x00 then 0xF8
  else if r = 0x01 ∨ r = 0x09 then 0xFFFFFFFF
  else if r = 0x02 then 0x1
  else if r = 0x03 then 0x3
  else if r = 0x04 then 0x3FF
  else if r = 0x05 then 0xFFFF
  else if r = 0x06 then 0xFFFFFFFFFFFF
  else if r = 0x07 then 0x1FFFF
  else if r = 0x10 ∨ r = 0x12 then 0xFFFFFFFFFFFFFFFF
  else if r = 0x11 then 0x1FF
  else if 0x40 ≤ r ∧ r < 0x80 then (scopeMask s ctx).extractLsb' (64 * (r % 8)) 64
  else 0

/-- R113: who may name and who may write each system register. Of the numbers of the table, SRD and SWR of CTXTAB, PREEMPT_TMO, XPC, XCAUSE and
XLMASK are for kernel level; no level writes CYCLE, TEAMDEPTH, LRADDR, TEAMXYZ and TEAMLIN, and user level none of VWB, SRCNT, LRANK, CTXID, AOWN
and the scope registers either. A number that is not in the table is no operand. -/
def Sys2Proof.Claims.SystemRegisterRights : Prop :=
  ∀ (S : BitVec 3) (r : BitVec 8) (d a : RegName) (kernel : Bool),
    let listed := r.toNat ≤ 0x0D ∨ (0x10 ≤ r.toNat ∧ r.toNat ≤ 0x12) ∨ (0x40 ≤ r.toNat ∧ r.toNat ≤ 0x7F)
    (listed → (kernelOnly (.srd S r d) = true ↔ r.toNat ∈ [0x06, 0x09, 0x10, 0x11, 0x12]) ∧
      (kernelOnly (.swr S r a) = true ↔ r.toNat ∈ [0x06, 0x09, 0x10, 0x11, 0x12]) ∧
      (srIgnored kernel r.toNat = true ↔ r.toNat ∈ [0x08, 0x0A, 0x0B, 0x0C, 0x0D] ∨
        (kernel = false ∧ (r.toNat ∈ [0x00, 0x01, 0x04, 0x05, 0x07] ∨ 0x40 ≤ r.toNat)))) ∧
    (¬listed → (Instr.srd S r d).wf = false ∧ (Instr.swr S r a).wf = false)

/-- R103, R113, R114: a read after a write of a system register gives the fields that were written, to every group of the register's scope, and
of every other register what it gave before; a register that no level writes gives what it names. -/
def Sys2Proof.Claims.SystemRegisterFields : Prop :=
  ∀ (s : State) (g : Group) (r : Nat) (v : DWord), groupOf s g.gid = some g →
    (r ∈ [0x00, 0x01, 0x05, 0x10, 0x11, 0x12] →
      let t := modGroup s g.gid (fun h => swrGroup h r v)
      let h := swrGroup g r v
      groupOf t g.gid = some h ∧ srRead t h r = v &&& srFields s g.ctxid r ∧
        (∀ n, n ≠ r → srListed n = true → n < 0x40 ∨ r ≠ 0x05 → r ≠ 0x05 ∨ (n ≠ 0x02 ∧ n ≠ 0x03 ∧ n ≠ 0x04) → srRead t h n = srRead s g n)) ∧
    (r ∈ [0x02, 0x03, 0x04, 0x06, 0x07, 0x09] ∨ (0x40 ≤ r ∧ r < 0x80) → KeysOk s.schk → KeysOk s.shadow → KeysOk s.lrank → KeysOk s.scope →
      CoresOk s → ∀ h : Group,
      let same := if r = 0x06 then True else if r = 0x07 ∨ r = 0x09 then h.core = g.core else h.ctxid = g.ctxid
      (same → srRead (swrShared s g r v) h r = v &&& srFields s g.ctxid r) ∧
      (¬same → srRead (swrShared s g r v) h r = srRead s h r) ∧
      (∀ n, n ≠ r → srListed n = true → n < 0x40 ∨ r ≠ 0x06 → srRead (swrShared s g r v) h n = srRead s h n)) ∧
    (∀ t, teamOf s g.team = some t → g.path.length ≤ 8 → t.x < 65536 → t.y < 65536 → t.z < 65536 → t.lin < 2 ^ 32 →
      srRead s g 0x08 = (coreOf s g.core).cycle ∧ (srRead s g 0x0A).toNat = g.path.length ∧ (srRead s g 0x0B).toNat = bitsOf t.lrAddr 0 48 ∧
      bitsOf (srRead s g 0x0C) 0 16 = t.x ∧ bitsOf (srRead s g 0x0C) 16 16 = t.y ∧ bitsOf (srRead s g 0x0C) 32 32 = t.z ∧
      (srRead s g 0x0D).toNat = t.lin)

/-- R103, R113, R114, R275, R276, R446: the system registers. The model's choice (log entry 32): SWR ignores the reserved bits of VWB. -/
def Obligations.SystemRegisterMoves : Prop :=
  Sys2Proof.Claims.SystemRegisterAccess ∧ Sys2Proof.Claims.SystemRegisterRights ∧ Sys2Proof.Claims.SystemRegisterFields

/-- R277, R279, R281, R283, R284: TRAP raises its software cause after moving on; KSET writes one uniform for the group; ISYNC drops what
was fetched ahead once the group's loads are done; SLEEP 0 on a compute core moves on; HALT stops the core. -/
def Sys2Proof.Claims.SystemEffects : Prop :=
  ∀ (S : BitVec 3) (n : BitVec 4) (k : BitVec 5) (a : RegName) (s : State) (g : Group) (e : Ent),
    (Clear (.trap S n) s g e → exec (.trap S n) s =
      .next (settle (raiseAfter (moved s g e S) g.gid e.mask (BitVec.ofNat 9 (0x1E0 + n.toNat)) 0) g.team)) ∧
    (Clear (.kset S k a) s g e → exec (.kset S k a) s = .next (moved (pushWrite s g.gid
      ⟨.k k.toNat, e.mask, [(lowest e.mask, (readReg s g (lowest e.mask) a).setWidth 64)], some (g.opp + 3), 0⟩) g e S)) ∧
    (Clear (.isync S) s g e → ownReadsDone s g = true → exec (.isync S) s =
      .next (moved (modGroup s g.gid (fun h => { h with loop := [], loopStale := false })) g e S)) ∧
    (Clear (.sleep S a) s g e → g.core < 288 → readReg s g (lowest e.mask) a = 0 → exec (.sleep S a) s = .next (moved s g e S)) ∧
    (Clear (.sleep S a) s g e → (g.core < 288 → readReg s g (lowest e.mask) a ≠ 0) →
      let v := (readReg s g (lowest e.mask) a).toNat
      let due := (coreOf s g.core).cycle.toNat + v
      exec (.sleep S a) s = .next (stalls s g e S (.sleep (if v = 0 then none else some due) (decide (288 ≤ g.core))))) ∧
    (Clear (.halt S) s g e → CoresOk s → ∃ t, exec (.halt S) s = .next (settle t g.team) ∧
      coreOf t g.core = { coreOf s g.core with halted := true } ∧ (∀ n, n ≠ g.core → coreOf t n = coreOf s n) ∧ t.ctl = s.ctl ∧ t.ten = s.ten ∧ t.ap = s.ap ∧ t.groups = (moved s g e S).groups)

/-- R280, R282, R285: ICINV of nothing moves on, and of a range stalls until the caches in scope have dropped it; XLATE, once
no earlier write of its lanes to a sector it walks is left, reports each lane's walk and changes no memory; CTXSAVE and CTXLOAD of no tile are done at once, of a misaligned address fail, and otherwise take their place in the matrix
stream. -/
def Sys2Proof.Claims.SystemOperations : Prop :=
  ∀ (S : BitVec 3) (h : BitVec 4) (c d a : BitVec 7) (s : State) (g : Group) (e : Ent),
    (Clear (.icinv S c a) s g e →
      let len := (readRegAt s g 0 a 2).toNat
      exec (.icinv S c a) s = .next (if len = 0 then moved s g e S
        else stalls s g e S (.icinv g.ctxid.toNat c.toNat (readPair s g 0 a).toNat len 0))) ∧
    (∀ x : Nat → XRes, Clear (.xlate S d a) s g e →
      (∀ l, x l = translate s (.core g.core) g.ctxid true .probe (readPair s g l a) 1) → (∀ l y, x l ≠ .held y) →
      let passed := (lanesOf e.mask).filterMap (fun l => match x l with
        | .ok y => some (l, readPair s g l a, y)
        | _ => none)
      let loads := passed.map (accOf s g ⟨.load false, 1, fun l => (readPair s g l a, x l), false, noData, noWrites, fun _ => false⟩)
      ptWrites s loads (afterOf s g e.mask (.load false) loads) = [] →
      ∃ u : State, u.ten = s.ten ∧ u.ctl = s.ctl ∧ u.ap = s.ap ∧ u.groups = s.groups ∧ u.ops = s.ops ∧ u.nextId = s.nextId ∧
        exec (.xlate S d a) s = .next (moved (pushWrite (pushWrite
            { u with nextId := s.nextId + 1, ops := s.ops ++ [{ resultOp g e.mask s.nextId with accs := passed.map xlateAcc }] } g.gid
          ⟨.v (g.vwb + d.toNat), e.mask, laneVals e.mask (fun l => (xlateReport s (readPair s g l a) (x l)).extractLsb' 0 32), none, s.nextId⟩) g.gid
          ⟨.v (g.vwb + d.toNat + 1), e.mask, laneVals e.mask (fun l => (xlateReport s (readPair s g l a) (x l)).extractLsb' 32 32), none, s.nextId⟩)
          g e S)) ∧
    (∀ save, FreshId s → handleSt s g h.toNat ≠ .pending →
      let i := if save then Instr.ctxsave S h a else .ctxload S h a
      let addr := readPair s g 0 a
      let sel := (readRegAt s g 0 a 2).toNat % 256
      Clear i s g e → ∃ t, exec i s = .next (settle (moved t g e S) g.team) ∧
        Started s t g h.toNat (.tiles save addr sel)
          (if sel = 0 then .done else if addr.toNat % 64 ≠ 0 then .error 0x04C addr else .pending) ∧
        (sel ≠ 0 → addr.toNat % 64 = 0 → (coreOf t g.core).moves = (coreOf s g.core).moves ++ [s.nextId]))

/-- R277, R279 to R285: the system instructions. That CTXSAVE and CTXLOAD of no tile are done at once whatever the address is the model's
choice (log entry 43). -/
def Obligations.SystemInstructions : Prop := Sys2Proof.Claims.SystemEffects ∧ Sys2Proof.Claims.SystemOperations

/-- R25, R29, R283, R280, R261: what ends a wait within a group. An event for a core that does not hold the group changes nothing. -/
def Sys2Proof.Claims.WaitsEnd : Prop :=
  ∀ (core gid : Nat) (pc : DWord) (prio : Byte) (s : State) (g : Group), groupOf s gid = some g → g.core = core →
    (exec (.stallCountExpiry core gid) s = .next (setGroup s { g with ents := g.ents.map (fun e => match e.st with
      | .stalled w => if stallOver s g w then { e with st := .ready } else e
      | _ => e) })) ∧
    (∀ e, g.ents.find? (fun x => unparked x && x.pc == pc && x.prio == prio) = some e → deferOver s g e = true →
      exec (.deferredRelease core gid pc prio) s =
        .next (setGroup s { g with ents := replFirst (fun x => x == e) { e with st := .ready } g.ents })) ∧
    (∀ e due i, g.ents.find? (fun x => x.pc == pc && x.prio == prio && sleepOver s g x) = some e → e.st = .stalled (.sleep (some due) i) →
      due ≤ (coreOf s core).cycle.toNat → DebugOff s → g.brkSkip = [] →
      exec (.sleepCountExpiry core gid pc prio) s =
        .next (settleOf (moveLanes (dropStale s core) gid e.prio [(e.pc + 4, e.mask)] e.stall .ready) gid)) ∧
    (∀ e ctx scope start len num, e.st = .stalled (.icinv ctx scope start len num) →
      g.ents.find? (fun x => x.pc == pc && x.prio == prio && (match x.st with
        | .stalled (.icinv _ _ _ _ _) => true
        | _ => false)) = some e → DebugOff s → g.brkSkip = [] →
      let away := (List.range 768).filter (fun p => scope = 13 && p != ownPkg s && inPaddock s p && !isLost s p)
      exec (.icinvComplete core gid pc prio) s = .next (
        if fencedDone s g e = false ∨ (∃ k, k ∈ s.icinvOwed ∧ k.1 = num) then s
        else if num = 0 ∧ away ≠ [] then icAsk s g e ctx scope start len
        else settleOf (moveLanes (dropStale (icDrop s (icCores s g scope) ctx start len) core) gid e.prio [(e.pc + 4, e.mask)] e.stall .ready) gid)) ∧
    (∀ e ctx scope start len, ∃ u : State, icAsk s g e ctx scope start len = (icPkgs s scope).foldl
        (fun t p => send t (.icinv p s.nextId (BitVec.ofNat 16 ctx) start len)) u ∧
      u = { s with nextId := s.nextId + 1, groups := u.groups, icinvOwed := s.icinvOwed ++ (icPkgs s scope).map (fun p => (s.nextId, p)) } ∧
      groupOf u g.gid = some { g with ents := g.ents.map (fun x => if x = e then { x with st := .stalled (.icinv ctx scope start len s.nextId) } else x) }) ∧
    (∀ n, n ≠ core → exec (.stallCountExpiry n gid) s = .next s ∧ exec (.deferredRelease n gid pc prio) s = .next s ∧
      exec (.pendingTrapRelease n gid) s = .next s)

/-- R261: when the H-die's check returns, the waiting member's instruction issues, with nothing else changed before it. -/
def Sys2Proof.Claims.CollectiveCheckReturns : Prop :=
  ∀ (core gid : Nat) (S : BitVec 3) (h : BitVec 4) (c : BitVec 2) (w : Word) (s : State) (g : Group) (e : Ent),
    groupOf s gid = some g → g.core = core → checkedEnt g = some e → g.halted = false → (coreOf s core).halted = false →
    s.tripped = false → s.lost = false → peekWord s g e.pc = some w → decode w = .ok (.collPost S h c) →
    exec (.collCheckReturn core gid) s = issue (.collPost S h c)
      (modGroup { s with sel := some ⟨g.gid, e.pc, e.prio, 0, []⟩ } g.gid (fun k => { k with
        ents := k.ents.map (fun x => if x == e then { x with st := .ready } else x) }))
      (collPostK S h.toNat c.toNat)

/-- R369, R372, R375, R385: the trap that a group takes next is taken once its trap entry can be read, and what then completes completes;
a group halted for a save takes none. -/
def Sys2Proof.Claims.PendingTrapTaken : Prop :=
  ∀ (core gid : Nat) (s : State) (g : Group) (r : Raise), groupOf s gid = some g → g.core = core → nextPending g = some r →
    (g.halted = false → trapHeld s g r.code = none →
      exec (.pendingTrapRelease core gid) s = .next (settle (takeTrap (modGroup s gid (fun h => { h with ents := h.ents.map (fun e =>
        match e.st with
        | .pending q => if q.code = r.code ∧ q.tpc = r.tpc ∧ r.lanes &&& q.lanes = r.lanes then { e with st := .ready } else e
        | _ => e) })) gid r) g.team)) ∧
    (∀ x, g.halted = false → trapHeld s g r.code = some x → exec (.pendingTrapRelease core gid) s = .next (askData s x)) ∧
    (g.halted = true → trapHeld s g r.code = none → exec (.pendingTrapRelease core gid) s = .next s)

/-- R25, R29, R261, R280, R283, R369: what ends a wait within a group. That lines of the L1 that differ from memory are dropped at the end of a
SLEEP and of an ICINV is the model's choice (log entry 13). -/
def Obligations.WaitsOver : Prop := Sys2Proof.Claims.WaitsEnd ∧ Sys2Proof.Claims.CollectiveCheckReturns ∧ Sys2Proof.Claims.PendingTrapTaken

/-- R82, R299, R300, R4: a store to tensor memory is performed lane by lane, for its own core first: its lane is marked and no byte changes.
Then it is performed for every agent: exactly its bytes change, little-endian, and every other byte of tensor memory and all of control
memory reads as before. -/
def Sys2Proof.Claims.TensorStorePerformed : Prop :=
  ∀ (id lane p : Nat) (s : State) (o : MemOp) (a : Acc),
    opOf s id = some o → o.kind = .store → o.accs.find? (fun y => y.lane == lane && !y.done) = some a → a.at_ = .ten p →
    (∀ b, b ∈ o.accs → b.stale = false) → accFollowed s o a = true → lowerFirst o a = false →
    (a.reached = false → nearWrite s o a = false → exec (.storePerformed id lane) s =
      .next (setOp s { o with accs := o.accs.map (fun b => if b.lane = a.lane then { b with reached := true } else b) })) ∧
    (a.reached = true → Memory.wf s.ten = true → CoresOk s → ∃ u, exec (.storePerformed id lane) s = .next (laneDone u o a) ∧
      (∀ y, memByte u.ten y = if p ≤ y ∧ y < p + a.size then BitVec.ofNat 8 (a.data.toNat / 256 ^ (y - p)) else memByte s.ten y) ∧
      u = { s with ten := u.ten, tenBad := u.tenBad, tenPoison := u.tenPoison, cores := u.cores, l2 := u.l2 } ∧
      (∀ n, n ≠ o.core → coreOf u n = coreOf s n) ∧ coreOf u o.core = { coreOf s o.core with l1 := (coreOf u o.core).l1 })

/-- R82, R86, R90, R300: a store to a control sector whose home is here, or which this package's caches hold alone, that no walker and no
other package may hold and no write waits for, is performed at once: exactly its bytes change; the core's cache alone holds the sector then,
in M, and of a sector of another home, or of one with a mirror, the package holds M. The line may drive another one out of that cache. -/
def Sys2Proof.Claims.ControlStorePerformed : Prop :=
  ∀ (id lane p : Nat) (s : State) (o : MemOp) (a : Acc),
    opOf s id = some o → o.kind = .store → o.accs.find? (fun y => y.lane == lane && !y.done) = some a → a.at_ = .ctl p →
    (∀ b, b ∈ o.accs → b.stale = false) → accFollowed s o a = true → lowerFirst o a = false → Memory.wf s.ctl = true → homeState s p = none → pinned s o a = false →
    isOurs s (p / 64) = true ∨ holdsAlone s (p / 64) = true → writeFree s (p / 64) = true → (dirOf s (p / 64)).blend = none →
    ∃ u, exec (.storePerformed id lane) s = .next (laneDone u o a) ∧
      (∀ y, memByte u.ctl y = if p ≤ y ∧ y < p + a.size then BitVec.ofNat 8 (a.data.toNat / 256 ^ (y - p)) else memByte s.ctl y) ∧
      linesOf u (p / 64) = [(cacheOf o.core, .m)] ∧
      (isOurs s (p / 64) = false ∨ hasMirror s (p / 64) = true → holdOf u (p / 64) = some .m) ∧
      u = { s with ctl := u.ctl, ctlBad := u.ctlBad, ctlPoison := u.ctlPoison, hold := u.hold, lines := u.lines,
                   mirrorOwed := u.mirrorOwed, out := u.out, waitOut := u.waitOut }

/-- R82, R84, R87: a store to a control sector that a walker holds does not happen yet: it waits for its completion point, at which every T
holder and every package of the region's set has answered, and memory is unchanged. -/
def Sys2Proof.Claims.ControlStoreWaits : Prop :=
  ∀ (id lane p : Nat) (s : State) (o : MemOp) (a : Acc),
    opOf s id = some o → o.kind = .store → o.accs.find? (fun y => y.lane == lane && !y.done) = some a → a.at_ = .ctl p →
    (∀ b, b ∈ o.accs → b.stale = false) → accFollowed s o a = true → lowerFirst o a = false → homeState s p = none → pinned s o a = false →
    isOurs s (p / 64) = true ∨ holdsAlone s (p / 64) = true →
    tHolders s (p / 64) ≠ [] → (∀ h, h ∈ s.heldWrites → h.sector ≠ p / 64) →
    ∃ t, exec (.storePerformed id lane) s = .next t ∧ t.ctl = s.ctl ∧ t.ten = s.ten ∧ t.ops = s.ops ∧
      t.heldWrites = s.heldWrites ++ [⟨p / 64, .lane o.id a.lane, tHolders s (p / 64) ++
        (regionPkgs s (p / 64)).filter (fun k => !(tHolders s (p / 64)).contains k), [], true⟩]

/-- R4, R82, R84, R90, R299, R300: stores are performed. -/
def Obligations.StoresPerformed : Prop := Sys2Proof.Claims.TensorStorePerformed ∧ Sys2Proof.Claims.ControlStorePerformed ∧ Sys2Proof.Claims.ControlStoreWaits

/-- R83, R151: a result that is only on its way arrives, and the registers that await it are written (VOTE.BALLOT, SRD, DIV, ...). -/
def Sys2Proof.Claims.ResultArrives : Prop :=
  ∀ (tok : Nat) (s : State) (o : MemOp), opOf s tok = some o → o.kind = .result → o.accs = [] → followed s o = true →
    exec (.loadResult tok) s = .next (removeOp (deliver s o.id o.mask (fun _ => 0)) o)

/-- R105, R299: a store through the window to a scratchpad is performed when it reaches the array, at another core after the agents of its
own core have seen it: exactly its bytes of that scratchpad change, and of the rest of the machine at most the marks of its words and lines
of the L1 of that core. R222: a RATOM lane whose target page is here but whose rank
is another goes to the port's channel 2 for it, with its context (R70, R331). -/
def Sys2Proof.Claims.WindowAndRemoteLanes : Prop :=
  ∀ (id lane : Nat) (s : State) (o : MemOp) (a : Acc), opOf s id = some o → o.accs.find? (fun y => y.lane == lane && !y.done) = some a →
    (∀ b, b ∈ o.accs → b.stale = false) → accFollowed s o a = true →
    (∀ c off, o.kind = .store → a.at_ = .win c 1 off → lowerFirst o a = false → nearWrite s o a = false →
      tileRecord s (.lane o.id a.lane) = none →
      (c ≠ o.core → a.reached = false → exec (.storePerformed id lane) s =
        .next (setOp s { o with accs := o.accs.map (fun b => if b.lane = a.lane then { b with reached := true } else b) })) ∧
      (CoresOk s → Memory.wf (coreOf s c).spad = true → ∃ u, exec (.windowAccessArrival id lane) s = .next (laneDone u o a) ∧
        (∀ y, memByte (coreOf u c).spad y = if off ≤ y ∧ y < off + a.size then BitVec.ofNat 8 (a.data.toNat / 256 ^ (y - off))
          else memByte (coreOf s c).spad y) ∧
        (coreOf u c = { coreOf s c with spad := (coreOf u c).spad, spadBad := (coreOf u c).spadBad, spadPoison := (coreOf u c).spadPoison,
                                        l1 := (coreOf u c).l1 }) ∧
        (∀ n, n ≠ c → coreOf u n = coreOf s n) ∧ u = { s with cores := u.cores })) ∧
    (∀ op rank pkg port ss, o.kind = .ratom op rank → o.flights.any (fun f => f.idx == lane) = false → bitsOf a.va 52 10 ≠ rank →
      route s o.ctx a.va = .ok pkg port ss →
      ∃ u q, exec (.ratomResult id lane .start) s = .next u ∧ u.queue = s.queue ++ [q] ∧ q.port = port ∧ q.vc = 2 ∧
        q.msg = .remote o.id a.lane port pkg o.ctx a.va (.atom op (operandWords a)) ∧ u.ten = s.ten ∧
        u.ops = (setOp s { o with flights := o.flights ++ [⟨a.lane, a.lane, pkg, port, ss⟩] }).ops)

/-- R83, R97, R151: what the delivery of a result leaves, where it goes to a vector register of one group: in each lane that awaits it the
register holds the low word of what arrived, the high word (of a pair's second register), or the value that was known at issue; every other
register of every lane, and all else, is as before; and the waits of the team are looked at again. -/
def Sys2Proof.Claims.ResultWritten : Prop :=
  ∀ (s : State) (g : Group) (w : PWrite) (tok r : Nat) (m : Mask) (f : Nat → DWord) (x : Nat → Word),
    groupOf s g.gid = some g → (s.groups.map (fun h => h.gid)).Nodup → (∀ h, h ∈ s.groups → awaitsTok h tok m = true → h = g) →
    (∀ v, v ∈ s.saved → ∀ h, h ∈ v.groups → awaitsTok h tok m = false) → g.pend = [w] → w.tok = tok → w.due = none → w.dst = .v r →
    w.lanes ≠ 0 → w.lanes &&& ~~~m = 0 →
    (w.vals = [] ∧ x = (fun l => (f l).extractLsb' 0 32)) ∨ (w.vals = [(64, 1)] ∧ x = (fun l => (f l).extractLsb' 32 32)) ∨
      w.vals = (lanesOf w.lanes).map (fun l => (l, (x l).setWidth 64)) →
    CoresOk s → KeysOk (coreOf s g.core).rf → (∀ l, bitAt w.lanes l = true → (octetOf g l).isSome = true) →
    (∀ k l, bitAt w.lanes k = true → bitAt w.lanes l = true → rfCell g k r = rfCell g l r → k = l) →
    ∃ u, deliver s tok m f = settleOf u g.gid ∧ u = { s with cores := u.cores, groups := u.groups } ∧
      groupOf u g.gid = some { g with pend := [] } ∧ (∀ n, n ≠ g.gid → groupOf u n = groupOf s n) ∧
      (∀ l, bitAt w.lanes l = true → readRf u g l r = x l) ∧
      (∀ h j q, h.core ≠ g.core ∨ (∀ l, bitAt w.lanes l = true → rfCell h j q ≠ rfCell g l r) → readRf u h j q = readRf s h j q)

/-- R83, R105, R151, R222: results and remote lanes. -/
def Obligations.ResultsArrive : Prop :=
  Sys2Proof.Claims.ResultArrives ∧ Sys2Proof.Claims.ResultWritten ∧ Sys2Proof.Claims.WindowAndRemoteLanes

namespace Sys2Proof.Claims

/-- Bytes [p, p + n) of tensor memory become `bs`, little end first; every other byte of it and every byte of control memory read
as before. -/
def TenWritten (s t : State) (p : Nat) (bs : List Byte) : Prop :=
  (∀ y, memByte t.ten y = if p ≤ y ∧ y < p + bs.length then bs.getD (y - p) 0 else memByte s.ten y) ∧ ∀ y, ctlByte t y = ctlByte s y
/-- The same for control memory, as a read sees it. -/
def CtlWritten (s t : State) (p : Nat) (bs : List Byte) : Prop :=
  (∀ y, ctlByte t y = if p ≤ y ∧ y < p + bs.length then bs.getD (y - p) 0 else ctlByte s y) ∧ t.ten = s.ten
/-- Aperture word `off` reads `v`, and every other word reads as before. -/
def ApSet (s t : State) (off : Nat) (v : DWord) : Prop := ∀ o, apWord t o = if o = off then v else apWord s o

end Sys2Proof.Claims

/-- R235, R236, R299, R332, R412: an element of a copy. A source in the box is read by one step, and what was read, or the fill value of a
source outside it, is written where the window puts it by another; a store that is performed for the core's agents only is waited for.
With a destination at another rank a fill value is gathered as what is read is, and it leaves by the port that the rank
table names, in one packet with what else goes to that 4 KiB page, and the acknowledgement performs them all; and a copy whose every
element is performed is Done. -/
def Obligations.CopyElements : Prop :=
  ∀ (id i0 i1 i2 i3 q : Nat) (w : List DWord) (s : State) (o : AOp),
    aopOf s id = some o → o.kind = .copy q w →
    let n := elemNo w i0 i1 i2 i3
    let dst := dstAddr w n
    let has := fun (bs : List Byte) (bad : Bool) => (srcAddr w n = none ∧ (∀ h, h ∈ o.got → h.1 ≠ n) ∧ bs = fillBytes w ∧ bad = false) ∨
      o.got.find? (fun h => h.1 == n) = some (n, bs, bad)
    i0 < descN w 0 → i1 < descN w 1 → i2 < descN w 2 → i3 < descN w 3 → o.st = .pending → o.cancelled = false →
    (n ∉ o.done → (∀ f, f ∈ o.flight → f.idx ≠ n) → (∀ h, h ∈ o.held → h.1 ≠ n) → (∀ a, a ∈ o.after ++ o.deps → gone s a = true) →
      (∀ src y r, srcAddr w n = some src → (∀ h, h ∈ o.got → h.1 ≠ n) → isRemote s o.ctx src = false →
        translate s (.core o.core) o.ctx o.kernel .load src (min (descES w) 8) = .ok y → y.at_ = .ten r →
        nearMeets s o.core y.at_ (descES w) = false → Memory.wf s.ctl = true → DirOk s →
        ∃ t o' bad, exec (.copyElement id i0 i1 i2 i3 .start) s = .next t ∧ aopOf t id = some o' ∧ o'.done = o.done ∧
          o'.got = o.got ++ [(n, (List.range (descES w)).map (fun i => memByte s.ten (r + i)), bad)] ∧ t.ten = s.ten ∧
          ∀ y, ctlByte t y = ctlByte s y) ∧
      (∀ bs bad x p, has bs bad → isRemote s o.ctx dst = false →
        translate s (.core o.core) o.ctx o.kernel .store dst (descES w) = .ok x → x.at_ = .ten p →
        nearMeets s o.core x.at_ bs.length = false → Memory.wf s.ten = true → Memory.wf s.ctl = true → DirOk s →
        ∃ t o', exec (.copyElement id i0 i1 i2 i3 .start) s = .next t ∧ TenWritten s t p bs ∧ aopOf t id = some o' ∧
          o'.done = o.done ++ [n] ∧ o'.st = .pending) ∧
      (srcAddr w n = none → (∀ h, h ∈ o.got → h.1 ≠ n) → isRemote s o.ctx dst = true →
        exec (.copyElement id i0 i1 i2 i3 .start) s = .next (setAop s { o with got := o.got ++ [(n, fillBytes w, false)] })) ∧
      (∀ bs bad pkg port ss, o.got.find? (fun h => h.1 == n) = some (n, bs, bad) → s.lost = false → isRemote s o.ctx dst = true → spaceCheck dst = none → route s o.ctx dst = .ok pkg port ss →
        ∃ t k, exec (.copyElement id i0 i1 i2 i3 .start) s = .next t ∧ t.ten = s.ten ∧ t.queue = s.queue ++ [k] ∧ k.port = port ∧
          k.vc = 2 ∧ k.msg = .remote id n port pkg o.ctx (dst &&& 0xFFFFFFFFFFFFF000) (packet o w (gather o w n bs bad)))) ∧
    (∀ f, f ∈ o.flight → f.lead = n → isRemote s o.ctx dst = true → exec (.copyElement id i0 i1 i2 i3 .ack) s = .next (setAop s { o with
        done := o.done ++ (o.flight.filter (fun f => f.lead == n)).map (fun f => f.idx), flight := o.flight.filter (fun f => f.lead != n) })) ∧
    (o.flight = [] → o.held = [] → o.got = [] → o.done.length = copyCount w →
      exec (.copyComplete id) s = .next (let t := endAop s id .done; if t.binds = [] then t else collPump t))

/-- R246, R251, R254, R285, R228, R229: the other engines. MZERO at its turn clears its tile and retires; the last unit of a CTXSAVE goes to
memory and of a CTXLOAD to the accumulator store, and the operation is Done; a page-request record of the first six
pages that are not resident is written to the context's ring and TAIL counts it; while the ring is full nothing happens. -/
def Obligations.EnginesComplete : Prop :=
  (∀ (core : Nat) (S : BitVec 3) (t : BitVec 3) (m : MOp) (ms : List MOp) (s : State),
    (coreOf s core).stream = m :: ms → m.i = .mzero S t → (∀ a, a ∈ m.after → gone s a = true) →
    (∀ x, x ∈ (coreOf s core).moves → m.op ≤ x) → CoresOk s →
    KeysOk (coreOf s core).acc →
    ∃ u, exec (.matrixOpRetire core false) s = .next (streamEnd u core m ⟨false, false, false, false⟩ t.toNat false) ∧
      (∀ n, mapGet 0 (coreOf u core).acc n = if 1024 * t.toNat ≤ n ∧ n < 1024 * t.toNat + 1024 then 0 else mapGet 0 (coreOf s core).acc n) ∧
      (∀ c, c ≠ core → coreOf u c = coreOf s c)) ∧
  (∀ (id u sel : Nat) (save : Bool) (addr : DWord) (s : State) (o : AOp) (x y : Xlat) (p : Nat),
    aopOf s id = some o → o.kind = .tiles save addr sel → o.st = .pending → o.cancelled = false → o.held = [] →
    (coreOf s o.core).moves.contains id = true → (∀ m, m ∈ (coreOf s o.core).stream → id ≤ m.op) →
    (∀ a, a ∈ o.after → gone s a = true) →
    (natsWhere 1024 (fun k => sel.testBit (k / 128))).filter (fun k => !o.done.contains k) = [u] →
    translate s (.core o.core) o.ctx o.kernel (if save then .store else .load) (unitAddr addr u) 4 = .ok x → x.at_ = .ten p →
    (save = false → translate s (.core o.core) o.ctx o.kernel .load (unitAddr addr u) 8 = .ok y ∧ y.at_ = .ten p) →
    nearMeets s o.core x.at_ 32 = false → Memory.wf s.ten = true → CoresOk s →
    KeysOk (coreOf s o.core).acc →
    ∃ t, exec (.ctxmoveComplete id) s = .next (releaseMove t { o with done := o.done ++ [u] } .done) ∧
      (save = true → ∀ k, memByte t.ten k = if p ≤ k ∧ k < p + 32
        then byteOf (mapGet 0 (coreOf s o.core).acc (8 * u + (k - p) / 4)) ((k - p) % 4) else memByte s.ten k) ∧
      (save = false → t.ten = s.ten ∧ ∀ k, mapGet 0 (coreOf t o.core).acc k = if 8 * u ≤ k ∧ k < 8 * u + 8
        then BitVec.ofNat 32 (leNat ((List.range 4).map (fun i => memByte s.ten (p + 4 * (k - 8 * u) + i)))) else mapGet 0 (coreOf s o.core).acc k)) ∧
  (∀ (id : Nat) (todo : List (DWord × Mask)) (s : State) (o : AOp),
    let ring := pageRing s o.ctx
    let tail := ctlWord64 s (ring + 8)
    let absent := todo.filter (fun p => !pageIn s o p.1)
    let now := absent.take 6
    aopOf s id = some o → o.kind = .pages todo [] → o.st = .pending → absent ≠ [] → s.devWrites = [] → ctlUnread s ring = false →
    ctlUnread s (ring + 8) = false →
    ((tail - ctlWord64 s ring).toNat = 15 → exec (.pageRequestRecordPost id) s = .next s) ∧
    ((tail - ctlWord64 s ring).toNat ≠ 15 →
      exec (.pageRequestRecordPost id) s = .next (devWrite (setAop s { o with kind := .pages (todo.filter (fun p => !now.contains p)) now })
        (devWords (ring + 0x40 + 64 * (tail.toNat % 15)) ([BitVec.ofNat 64 (o.ctx.toNat * 2 ^ 48 + o.core * 2 ^ 39 +
            o.slot.getD 0 % 128 * 2 ^ 32 + (if absent.drop 6 = [] then 0 else 8) + now.length),
            now.foldl (fun m (p : DWord × Mask) => m ||| p.2) 0] ++
            (now.map (fun (p : DWord × Mask) => p.1) ++ List.replicate 6 (0 : DWord)).take 6) ++
          [⟨ring + 8, leBytes 8 (tail + 1).toNat, (tenantOf s o.ctx).map (fun t => (t, 0)), false, false, []⟩]))))

/-- R81, R82, R84, R85: an invalidation drops what the agent derived from the sector and leaves memory alone; the acknowledgement takes the
agent from the sector's T list once it owes nothing, and changes nothing before: of what a core has translated through the sector, only
accesses that can be performed now keep it waiting, the others give that translation up; the held write is performed when every holder has
acknowledged, and not before. -/
def Obligations.CompletionPoints : Prop :=
  (∀ (ag : Agent) (x : Nat) (s : State),
    ∃ u, exec (.invalidation ag x) s = .next (pageAgent u) ∧ u.ctl = s.ctl ∧ u.ten = s.ten ∧ u.dir = s.dir ∧
      (∀ p, p ∈ u.tlb ↔ p ∈ s.tlb ∧ p ≠ (ag, x)) ∧
      u.heldWrites = s.heldWrites.map (fun h => if h.sector = x ∧ ag ∈ h.invalidate
        then { h with invalidate := h.invalidate.filter (fun a => a != ag), owed := h.owed ++ [ag] } else h)) ∧
  (∀ (ag : Agent) (x : Nat) (s : State),
    let w := match ag with
      | .core n => giveBack s n x
      | _ => s
    (agentBusy w ag x = true → exec (.tAcknowledge ag x) s = .next s) ∧
    (agentBusy w ag x = false → (bootStopped s = false ∨ ownAgent ag = true) → DirOk s →
      ∃ u, exec (.tAcknowledge ag x) s = .next (drainDev (s.devWrites.length + 1) u) ∧
        (∀ n o a, ag = .core n → o ∈ u.ops → o.core = n → a ∈ o.accs → a.done = false → x ∈ a.sectors →
          heldOn s x (.lane o.id a.lane) = true) ∧ u.ctl = s.ctl ∧ u.ten = s.ten ∧
        (dirOf u x).t = (dirOf s x).t.filter (fun a => a != ag) ∧ (∀ y, y ≠ x → dirOf u y = dirOf s y) ∧
        (∀ h, h ∈ u.heldWrites → h.sector = x → ag ∉ h.invalidate ∧ ag ∉ h.owed))) ∧
  (∀ (x : Nat) (s : State) (h : HeldWrite), s.heldWrites.find? (fun h => h.sector == x) = some h →
    ((∃ a, a ∈ h.invalidate ++ h.owed ∧ agentLost s a = false) → exec (.completionPoint x) s = .next s) ∧
    (∀ id lane o a p, h.invalidate = [] → h.owed = [] → writeAway s x = false → pkgHome s (x / 2 ^ 27) ≠ .rebuilding →
      h.writer = .lane id lane → opOf s id = some o → o.kind = .store → o.accs.find? (fun b => b.lane == lane && !b.done) = some a →
      a.at_ = .ctl p → p / 64 = x → (∀ b, b ∈ s.binds → b.pins = []) → s.pinsAway = [] → Memory.wf s.ctl = true → DirOk s →
      (p + a.size - 1) / 64 = p / 64 → 0 < a.size →
      ∃ u, exec (.completionPoint x) s = .next (let v := laneDone u o a; pageAgent (drainDev (v.devWrites.length + 1) v)) ∧
        CtlWritten s u p (leBytes a.size a.data.toNat) ∧ u.heldWrites = s.heldWrites.filter (fun k => k != h)))

/-- R87, R88, R90, R70, R222, R332, R409: requests that reach this package's memory from others. A read of a control sector that no other
package owns and no write waits on is answered with its bytes, merged if in Blend, and makes the reader a sharer, or the holder in E where no
one else holds it; what is merged or written back for it is made at the mirror home first; a store that meets no copy and no holder is
performed, and acknowledged when the mirror has it too; a remote access to local tensor memory is performed and
answered, one to another space raises remote-target with no effect; and a lost package gets no answer. The level at which such an access
walks is the model's choice (log entry 34). -/
def Sys2Proof.Claims.RequestsFromOthers : Prop :=
  (∀ (p x : Nat) (s : State), isLost s p = false → s.lost = false → bootStopped s = false → isOurs s x = true → apSector x = false →
    (∀ h, h ∈ s.heldWrites → h.sector ≠ x) → ownedNot s p x = false → Memory.wf s.ctl = true → DirOk s →
    let m := writeBack (mergeBlend s x) x
    (mirrorWaits m x = true → exec (.homeRequest (.readShared p x)) s = .next m) ∧
    (mirrorWaits m x = false →
    ∃ u k bits, exec (.homeRequest (.readShared p x)) s = .next (send u (.grant p x k (ctlBytes s (64 * x) 64) bits)) ∧
      ((k = 1 ∧ Agent.pkg p ∈ (dirOf u x).shared) ∨ (k = 2 ∧ (dirOf u x).owner = some (.pkg p, .e))) ∧
      p ∈ mapGet [] u.regions (x / 32) ∧ (∀ y, ctlByte u y = ctlByte s y) ∧ u.ten = s.ten)) ∧
  (∀ (p a : Nat) (bs : List Byte) (s : State), isLost s p = false → s.lost = false → bootStopped s = false → isOurs s (a / 64) = true →
    apSector (a / 64) = false → (∀ h, h ∈ s.heldWrites → h.sector ≠ a / 64) → regionPkgs s (a / 64) = [] → tHolders s (a / 64) = [] →
    (∀ b, b ∈ s.binds → b.pins = []) → s.pinsAway = [] → Memory.wf s.ctl = true → DirOk s → bs.length ≤ 64 - a % 64 →
    ∃ u, exec (.homeRequest (.store p a bs)) s = .next (if a / 64 ∈ u.mirrorOwed
        then { u with mirrorThen := u.mirrorThen ++ [(a / 64, .made p)] } else send u (.made p)) ∧
      (hasMirror s (a / 64) = true → a / 64 ∈ u.mirrorOwed) ∧ CtlWritten s u a bs) ∧
  (∀ (r : HomeReq) (s : State), isLost s (reqSector r).1 = true → exec (.homeRequest r) s = .next s) ∧
  (∀ (r : RemoteReq) (s : State), isLost s r.src = false → s.lost = false → spaceCheck r.addr = none →
    let port := Agent.port (r.port % 36)
    (bitsOf r.addr 62 2 ≠ 1 → exec (.remoteAccessRequest r) s = .next (sendPlain s r.ctx.toNat 0 (.answer r.src (.fail 0x04D)))) ∧
    (∀ x p, bitsOf r.addr 62 2 = 1 → remoteCrooked r = false → x.at_ = .ten p → Memory.wf s.ctl = true → DirOk s →
      (∀ n whole, r.op = .read n whole → walk s port r.ctx false .load r.addr = .ok x →
        ∃ u, exec (.remoteAccessRequest r) s = .next (sendPlain u r.ctx.toNat n
            (.answer r.src (.data ((List.range n).map (fun i => memByte s.ten (p + i))) (tenMark s p n whole)))) ∧
          u.ten = s.ten ∧ ∀ y, ctlByte u y = ctlByte s y) ∧
      (∀ parts, r.op = .write parts → walk s port r.ctx false .store r.addr = .ok x →
        ∃ u, exec (.remoteAccessRequest r) s = .next (sendPlain u r.ctx.toNat 0 (.answer r.src .ack)) ∧
          u.ten = parts.foldl (fun m k => memSetBytes m (p + k.1) k.2.1) s.ten ∧ ∀ y, ctlByte u y = ctlByte s y) ∧
      (∀ op ws, r.op = .atom op ws → walk s port r.ctx false .store r.addr = .ok x → p / 32 ∉ s.tenBad → p / 32 ∉ s.tenPoison →
        let old := BitVec.ofNat 64 (leNat ((List.range (atomSize op)).map (fun i => memByte s.ten (p + i))))
        ∃ u, exec (.remoteAccessRequest r) s = .next (sendPlain u r.ctx.toNat (atomSize op)
            (.answer r.src (.data (leBytes (atomSize op) old.toNat) .good))) ∧
          u.ten = memSetBytes s.ten p (leBytes (atomSize op) (atomNew op old (atomOperand ws 0) (atomOperand ws 1)).toNat))))

/-- R345, R349, R409 to R411: the host endpoint and the storage and network ports. A tensor read returns the bytes and whether a word of
them is bad, a tensor write stores them, a control write joins the device's writes, and the host reads an aperture word through BAR 0. -/
def Sys2Proof.Claims.PortsReachMemory : Prop :=
  (∀ (r : HostAccess) (s : State), r.data ≠ [] → physOk r.tensor r.addr = true → physOk r.tensor (r.addr + r.data.length - 1) = true →
    ∀ i : Instr, i = .hostEndpointAccess r ∨ (i = .storageNetworkTransfer r ∧ r.ctx = none) →
    (r.tensor = true → r.write = true → Memory.wf s.ten = true →
      ∃ t, exec i s = .next t ∧ TenWritten s t r.addr r.data ∧ t.out = s.out) ∧
    (r.tensor = true → r.write = false →
      ∃ t, exec i s = .next t ∧ t.ten = s.ten ∧ t.ctl = s.ctl ∧
        t.out = s.out ++ [.host ((List.range r.data.length).map (fun i => memByte s.ten (r.addr + i)))
          ((wordsAt r.addr r.data.length).any (fun w => s.tenBad.contains w || s.tenPoison.contains w))]) ∧
    (r.tensor = false → r.write = true → overAperture s r.addr r.data.length = false →
      (i = .storageNetworkTransfer r ∨ ∀ a, imageShut s a = false) →
      exec i s = .next (devWrite s ((cutSectors (r.data.length + 1) r.addr r.data).map (fun w => { w with poison := r.poisoned, via := [] })))) ∧
    (r.tensor = false → r.write = false → overAperture s r.addr r.data.length = false → portWaits s r.addr r.data.length = none →
      Memory.wf s.ctl = true → DirOk s →
      ∃ u bad, exec i s = .next (send u (.host (ctlBytes s r.addr r.data.length) bad)) ∧ ∀ y, ctlByte u y = ctlByte s y)) ∧
  (∀ (r : HostAccess) (s : State), r.tensor = false → r.write = false → r.data.length = 8 → homeBase s + 0x1FFFE0000 ≤ r.addr →
    r.addr < homeBase s + 0x200000000 → (r.addr - (homeBase s + 0x1FFFE0000)) % 8 = 0 →
    exec (.hostEndpointAccess r) s = .next (send s (.host (leBytes 8 (apRead s (r.addr - (homeBase s + 0x1FFFE0000))).toNat) false)))

/-- R70, R87, R90, R222, R332, R345, R349, R409 to R411: accesses from outside the package's cores. The model's choices: the level at which a
remote access walks (log entry 34), a host's access to the aperture (log entry 64), and the accesses of the storage and network ports (log
entry 75). -/
def Obligations.OutsideAccesses : Prop := Sys2Proof.Claims.RequestsFromOthers ∧ Sys2Proof.Claims.PortsReachMemory

/-- R306, R307, R308: the Drover's configuration words. A partition is written when it is well formed, free of the other tenants' and not
enabled over an enabled one; an enabled WQCFG takes only PRI and EN; a host item is appended with the context of the host's second word,
and an item for a queue that is disabled or full sets the overflow bit instead. -/
def Obligations.DroverConfiguration : Prop :=
  (∀ (t : Nat) (v : DWord) (s : State), ApOk s → t < 12 →
    (v &&& 0xFFFFFFFFFFFF70F0 = 0 → (apWord s (0x1000 + 8 * t)).getLsbD 15 = false →
      bitsOf v 8 4 ∈ [1, 2, 3, 4, 6, 12] → bitsOf v 0 4 % bitsOf v 8 4 = 0 → bitsOf v 0 4 + bitsOf v 8 4 ≤ 12 →
      (∀ u f z, u < 12 → u ≠ t → partition s u = some (f, z) → bitsOf v 0 4 + bitsOf v 8 4 ≤ f ∨ f + z ≤ bitsOf v 0 4) →
      ∃ u, exec (.tenantPartitionWrite t v) s = .next u ∧ ApSet s u (0x1000 + 8 * t) v ∧ u = { s with ap := u.ap }) ∧
    (v &&& 0xFFFFFFFFFFFF70F0 ≠ 0 → exec (.tenantPartitionWrite t v) s = .next s) ∧
    ((apWord s (0x1000 + 8 * t)).getLsbD 15 = true → (v.getLsbD 15 = true ∨ ∃ x, x ∈ s.teams ∧ x.tenant = t) →
      exec (.tenantPartitionWrite t v) s = .next s)) ∧
  (∀ (q : Nat) (v : DWord) (s : State), ApOk s → q < 64 → v &&& 0xFFFFFFFF10F8FFFE = 0 → bitsOf v 24 4 ≤ 11 →
    ∃ u, exec (.wqcfgWrite q v) s = .next u ∧ u = { s with ap := u.ap } ∧
      ((wqCfg s q).getLsbD 31 = false → ApSet s u (0x2000 + 8 * q) v) ∧
      ((wqCfg s q).getLsbD 31 = true → ApSet s u (0x2000 + 8 * q) ((wqCfg s q &&& ~~~0x80070000) ||| (v &&& 0x80070000)))) ∧
  (∀ (q : Nat) (v : DWord) (s : State), ApOk s → q < 64 → s.devWrites = [] →
    ((wqCfg s q).getLsbD 31 = true → (wqOf s q).items.length < 512 →
      exec (.hostItemAppend q v) s = .next (wqAppend s q ⟨v, BitVec.ofNat 16 (bitsOf (apWord s (0x2408 + 16 * q)) 0 16), [], none, true⟩)) ∧
    ((wqCfg s q).getLsbD 31 = false ∨ 512 ≤ (wqOf s q).items.length →
      ∃ u, exec (.hostItemAppend q v) s = .next u ∧ u = { s with ap := u.ap } ∧
        ApSet s u (0x2408 + 16 * q) (apWord s (0x2408 + 16 * q) ||| 0x8000000000000000)))

namespace Sys2Proof.Claims

/-- The queue q can have its oldest item checked (R309): enabled, of kind launch, with no team of its grid left to place, and nothing that
the item follows outstanding. -/
structure HeadReady (s : State) (q : Nat) (x : Item) : Prop where
  small : q < 64
  enabled : (wqCfg s q).getLsbD 31 = true
  launches : (wqCfg s q).getLsbD 0 = true
  between : currentGrid s q = none
  before : ∀ i, i ∈ x.before → gone s i = true
  tenant : x.host = true → tenantOf s x.ctx = some (bitsOf (wqCfg s q) 24 4)

end Sys2Proof.Claims

/-- R307, R309 to R311: launches. That an accepted record leaves its queue at once is the model's choice (log entry 41). An item that is no aligned control-space address, or whose record breaks R112, is refused: it leaves its queue and
the tenant's REFUSED word names it; a good record becomes the queue's grid; a team is placed on the first core, after the grid's last one, that it fits, its
groups at the level that the queue's PRIV bit gives then; and its scratchpad is zeroed. -/
def Sys2Proof.Claims.Launches : Prop :=
  (∀ (q : Nat) (s : State) (x : Item) (xs : List Item), (wqOf s q).items = x :: xs → HeadReady s q x →
    (x.val.toNat % 64 ≠ 0 ∨ bitsOf x.val 62 2 ≠ 0 → exec (.launchCheck q) s = .next (refuseLaunch s q x 0x1C8 0)) ∧
    (∀ r ss ks, x.val.toNat % 64 = 0 → bitsOf x.val 62 2 = 0 → recordRead s x.ctx x.val = .ok (r, ss, ks) →
      (recordOk ((wqCfg s q).getLsbD 29) r = false →
        ∃ u, exec (.launchCheck q) s = .next (refuseLaunch u q x 0x1C8 0) ∧ u.wqs = s.wqs ∧ u.ap = s.ap ∧ u.ten = s.ten) ∧
      (recordOk ((wqCfg s q).getLsbD 29) r = true → KeysOk s.wqs →
        ∃ (v : State) (d : Grid), exec (.launchCheck q) s = .next (match x.launch with
            | some n => endAop v n .done
            | none => v) ∧
          d ∈ v.grids ∧ d.rec_ = r ∧ d.ctx = x.ctx ∧ d.addr = x.val ∧ d.q = q ∧ d.next = 0 ∧ d.withdrawn = [] ∧
          d.control = (wqCfg s q).getLsbD 29 ∧
          (wqOf v q).current = some d.id ∧ (wqOf v q).items = xs ∧ v.ten = s.ten ∧ v.teams = s.teams ∧ v.groups = s.groups)) ∧
    (∀ t : Nat, t = bitsOf (wqCfg s q) 24 4 → x.launch = none → ApOk s →
      ∀ o, apWord (refuseLaunch s q x 0x1C8 0) o =
        if o = 0x6010 + 32 * t then 0x8000000000000000 ||| (x.val &&& 0x0000FFFFFFFFFFFF)
        else if o = 0x6008 + 32 * t then apWord s o ||| 2
        else if o = 0x2200 + 8 * q then BitVec.ofNat 64 xs.length else apWord s o)) ∧
  (∀ (part q l c : Nat) (d : Grid) (s : State), placeable s part q = some (d, l, c) → q < 64 →
    let prio := fun r => bitsOf (wqCfg s r) 16 3
    let last := mapGet 63 s.lastWin (part * 8 + prio q)
    last < 64 → (∀ r, r < 64 → r ≠ q → placeable s part r ≠ none →
      prio r < prio q ∨ (prio r = prio q ∧ (q + 63 - last) % 64 < (r + 63 - last) % 64)) →
    exec (.placeStep part) s = .next (placeOn { s with lastWin := mapSet 63 s.lastWin (part * 8 + prio q) q } d l c)) ∧
  (∀ (l c sp : Nat) (d : Grid) (s : State) (bs : List Bundle) (at_ : List (Nat × Nat × Bool)),
    spadFree s c (needOf d).alloc = some sp →
    bundleAll c d.ctx (needOf d).width s.nextId (coreOf s c).bundles (groupRoles (needOf d)) (newSlots s c (groupRoles (needOf d)).length) = some (bs, at_) →
    ∃ t : Team, (placeOn s d l c).teams = s.teams ++ [t] ∧ t.core = c ∧ t.lin = l ∧ t.grid = d.id ∧ t.ctx = d.ctx ∧ t.tenant = d.tenant ∧
      t.spBase = sp ∧ t.zeroing = true ∧ t.frames = [] ∧ t.ops = [] ∧ (placeOn s d l c).ctl = s.ctl ∧ (placeOn s d l c).ten = s.ten ∧
      ∀ g, g ∈ (placeOn s d l c).groups → g ∈ s.groups ∨ (g.team = t.tid ∧ g.core = c ∧ g.kernel = (wqCfg s d.q).getLsbD 30 ∧ g.ctxid = d.ctx ∧
        g.vwb = 0 ∧ g.srcnt = 0 ∧ g.m = [] ∧ g.h = [] ∧ g.width = (needOf d).width ∧ g.live = lowMask g.width ∧
        readK g 0 = 0 ∧ ∀ j, 1 ≤ j → j ≤ 31 → readK g j = if j % 2 = 0 then loWord (d.rec_.getD (8 + j / 2) 0) else hiWord (d.rec_.getD (8 + j / 2) 0))) ∧
  (∀ (core tid : Nat) (s : State) (t : Team), teamOf s tid = some t → t.core = core → t.zeroing = true → CoresOk s →
    Memory.wf (coreOf s core).spad = true →
    ∃ u, exec (.scratchpadZeroingComplete core tid) s = .next u ∧ teamOf u tid = some { t with zeroing := false } ∧
      (∀ a, memByte (coreOf u core).spad a = if t.spBase ≤ a ∧ a < t.spBase + t.alloc then 0 else memByte (coreOf s core).spad a) ∧
      u.ten = s.ten ∧ u.ctl = s.ctl ∧ u.groups = s.groups)

/-- R238, R267, R268, R337: the mailbox and the release. The Drover answers WFETCH with the coordinates and number of the next team, withdrawing it,
or with 3 when none is left; a team without groups whose operations, and those its handles named, have left Pending gives up its place, and
nothing happens before. -/
def Sys2Proof.Claims.MailboxAndRelease : Prop :=
  (∀ (core tid off : Nat) (s : State) (t : Team) (d : Grid), teamOf s tid = some t → t.core = core → t.wfetch = some off →
    gridOf s t.grid = some d → CoresOk s → Memory.wf (coreOf s core).spad = true →
    ∃ u, exec (.mailboxWrite core tid) s = .next u ∧
      (∃ t', teamOf u tid = some t' ∧ t'.wfetch = none ∧
        t'.fetched = (match nextTeam d with
          | some l => t.fetched ++ [l]
          | none => t.fetched)) ∧
      (∀ a, memByte (coreOf u core).spad a = if t.spBase + off ≤ a ∧ a < t.spBase + off + 16
        then (let gx := bitsOf (d.rec_.getD 3 0) 0 16
              let gy := bitsOf (d.rec_.getD 3 0) 16 16
              let k := a - (t.spBase + off)
              let w : Nat := match nextTeam d with
                | some l => [l / gx % gy * 65536 + l % gx, l / gx / gy, l, 1].getD (k / 4) 0
                | none => [0, 0, 0, 3].getD (k / 4) 0
              BitVec.ofNat 8 (w / 256 ^ (k % 4)))
        else memByte (coreOf s core).spad a) ∧ u.ten = s.ten ∧ u.ctl = s.ctl) ∧
  (∀ (core tid : Nat) (s : State) (t : Team), teamOf s tid = some t → t.core = core →
    let owed := ∃ o, o ∈ s.aops ∧ o.id ∈ t.named ∧ o.st = .pending
    ((∃ g, g ∈ s.groups ∧ g.team = tid) ∨ t.ops ≠ [] ∨ owed → exec (.teamRelease core tid) s = .next s) ∧
    ((∀ g, g ∈ s.groups → g.team ≠ tid) → t.ops = [] → ¬owed → t.zeroing = false →
      ∃ u, exec (.teamRelease core tid) s = .next u ∧ u.teams = s.teams.filter (fun x => x.tid != tid) ∧ u.groups = s.groups ∧
        u.cores = s.cores ∧ u.ctl = s.ctl ∧ u.ten = s.ten))

/-- R237, R238, R265 to R268, R309 to R312, R337: launches, placement, the mailbox and the release. The model's choice (log entry 41): an
accepted record leaves its queue at acceptance. -/
def Obligations.WorkPlacement : Prop := Sys2Proof.Claims.Launches ∧ Sys2Proof.Claims.MailboxAndRelease

/-- R313 to R317, R385, R401, R402, R417, R424: pre-emption. The model's choices: a save writes no byte of its AREA, and a restore compares
AREA (log entry 15); what a forced save leaves (log entry 46). A save request takes the timeout and marks the core BUSY, and is over at once for a context with no
team there; a group that meets R314 halts Ready at its PC, and at the end of the timeout every group halts, but none on a core that is halted, tripped or held; with the last team the
context's groups leave the core and DONE is set; a restore puts them back when there is room, damaged state sets ERR, and nothing happens
while the home of an area is being rebuilt. -/
def Obligations.PreemptionSteps : Prop :=
  (∀ (core : Nat) (v : DWord) (s : State), core < 304 → ApOk s → (apWord s (preOff core)).getLsbD 63 = false →
    let ctx := v.extractLsb' 0 16
    (ctxTeams s core ctx = [] → ∃ u, exec (.preemptSave core v) s = .next u ∧ (apWord u (preOff core)).extractLsb' 62 2 = 1 ∧
      bitsOf (apWord u (preOff core)) 0 16 = bitsOf v 0 16 ∧ u.teams = s.teams ∧ u.ctl = s.ctl ∧ u.ten = s.ten) ∧
    (ctxTeams s core ctx ≠ [] → (coreOf s core).ptmo ≠ 0 → ∃ u, exec (.preemptSave core v) s = .next u ∧
      (apWord u (preOff core)).getLsbD 63 = true ∧ (apWord u (preOff core)).getLsbD 61 = false ∧
      u = { s with ap := u.ap, preempts := s.preempts ++ [⟨core, ctx, false, bitsOf (apWord s (preOff core + 8)) 6 42 * 64,
        (coreOf s core).ptmo.toNat, []⟩] }) ∧
    ((∃ w, w ∈ s.saved ∧ w.core = core ∧ w.ctx = ctx) → ∃ u, exec (.preemptRestore core v) s = .next u ∧
      (apWord u (preOff core)).getLsbD 63 = true ∧ (apWord u (preOff core)).getLsbD 60 = false ∧
      u = { s with ap := u.ap, preempts := s.preempts ++ [⟨core, ctx, true, bitsOf (apWord s (preOff core + 8)) 6 42 * 64, 0, []⟩] })) ∧
  (∀ (core : Nat) (v : DWord) (s : State), core < 304 → (apWord s (preOff core)).getLsbD 63 = true →
    ∀ i : Instr, i = .preemptSave core v ∨ i = .preemptRestore core v → ∃ u, exec i s = .next u ∧ u = { s with ap := u.ap }) ∧
  (∀ (core gid : Nat) (s : State) (p : Preempt) (g : Group), saveOn s core = some p → groupOf s gid = some g → g.halted = false →
    (∃ t, t ∈ ctxTeams s core p.ctx ∧ t.tid = g.team) → g.core = core →
    (lightOk g = false → exec (.groupHalt core gid) s = .next s) ∧
    (coreStopped s core = true → exec (.groupHalt core gid) s = .next s) ∧
    (lightOk g = true → coreStopped s core = false → exec (.groupHalt core gid) s = .next (settleCore (haltGroup s g false) core)) ∧
    (∀ e, g.ents = [e] → e.st = .ready → g.path = [] → g.ltrap = none → g.pend = [] → (coreOf s core).owner = none →
      groupOf (haltGroup s g false) gid = some { g with halted := true, forced := false, ahead := [], ents := [{ e with stall := 0 }] })) ∧
  (∀ (core : Nat) (s : State) (p : Preempt), saveOn s core = some p →
    (p.tmo ≠ 0 ∨ coreStopped s core = true → exec (.forcedSave core) s = .next s) ∧
    (p.tmo = 0 → coreStopped s core = false → ∃ u, exec (.forcedSave core) s = .next (settleCore u core) ∧
      ∀ h, h ∈ ctxGroups s core p.ctx → ∃ g, groupOf u h.gid = some g ∧ g.halted = true)) ∧
  (∀ (core tid : Nat) (s : State) (p : Preempt) (t : Team), saveOn s core = some p → teamOf s tid = some t → t.core = core → t.ctx = p.ctx →
    tid ∉ p.saved → (∀ g, g ∈ s.groups → g.team = tid → g.halted = true) → teamQuiet s t = true →
    (∀ x, x ∈ ctxTeams s core p.ctx → x.tid = tid ∨ x.tid ∈ p.saved) → ApOk s → core < 304 →
    ∃ u, exec (.teamStateSave core tid) s = .next u ∧ (apWord u (preOff core)).extractLsb' 62 2 = 1 ∧
      (∃ v, u.saved = s.saved ++ [v] ∧ v.core = core ∧ v.ctx = p.ctx ∧ v.teams = ctxTeams s core p.ctx ∧ v.groups = ctxGroups s core p.ctx) ∧
      (∀ g, g ∈ u.groups → ∀ h, h ∈ ctxGroups s core p.ctx → g.gid ≠ h.gid) ∧ (∀ x, x ∈ u.teams → x ∉ ctxTeams s core p.ctx) ∧
      (∀ q, q ∈ u.preempts → q.core ≠ core) ∧ u.ctl = s.ctl ∧ u.ten = s.ten) ∧
  (∀ (core : Nat) (damaged : Bool) (s : State) (p : Preempt) (v : Saved),
    s.preempts.find? (fun p => p.core == core && p.restore) = some p →
    savedAll s core p.ctx = some v → ApOk s → core < 304 →
    let bad := damaged = true ∨ areaBad s core p.ctx = true ∨ ∀ w, w ∈ s.saved → w.core = core → w.ctx = p.ctx → w.area ≠ p.area
    (areaHeld s core p.ctx = true → exec (.restoreResume core damaged) s = .next s) ∧
    (bad → areaHeld s core p.ctx = false → ∃ u, exec (.restoreResume core damaged) s = .next u ∧ (apWord u (preOff core)).extractLsb' 62 2 = 1 ∧
      (apWord u (preOff core)).getLsbD 60 = true ∧ u.saved = s.saved ∧ u.teams = s.teams) ∧
    (¬bad → owedDone v = false ∨ roomFor s v = false → exec (.restoreResume core damaged) s = .next s) ∧
    (¬bad → areaHeld s core p.ctx = false → owedDone v = true → roomFor s v = true →
      exec (.restoreResume core damaged) s = .next (preDone (putBack s v) core p.ctx false ((v.teams.map (·.tenant)).headD 0))))

/-- R371, R373, R374, R379: trap delivery. A waiting record is written to the tenant's ring and TAIL counts it, and waits while the ring is full;
TRAPBASE keeps LOST until 1 is written to it and ignores reserved bits; while XRES is BUSY a GO does nothing, an XRES that names no open trap sets ERR and changes nothing else, a resume sends
the lanes of the record's XLMASK to its XPC, and a kill ends every lane of the trap. -/
def Obligations.TrapDelivery : Prop :=
  (∀ (t : Nat) (s : State) (r : TrapRec), s.trapWait.find? (fun r => r.tenant == t) = some r → (trapBase s t).getLsbD 63 = true →
    s.devWrites = [] →
    let ring := bitsOf (trapBase s t) 13 35 * 8192 + 0x1000
    ctlUnread s ring = false → ctlUnread s (ring + 8) = false →
    let m := mergeBlend s (ring / 64)
    let tail := ctlWord64 m (ring + 8)
    ((tail - ctlWord64 m ring).toNat = 63 → exec (.trapRecordPost t) s = .next m) ∧
    ((tail - ctlWord64 m ring).toNat ≠ 63 → ∃ u, exec (.trapRecordPost t) s = .next (devWrite u
        (devWords (ring + 0x40 + 64 * (tail.toNat % 63)) (r.words ++ List.replicate (8 - r.words.length) 0) ++
          [⟨ring + 8, leBytes 8 (tail + 1).toNat, some (t, 3), false, false, []⟩])) ∧ u.ctl = m.ctl ∧ u.ap = s.ap ∧ u.groups = s.groups ∧
        u.openRecs = s.openRecs ++ (if r.trap = 0 then [] else [⟨t, tail.toNat, r.trap⟩]))) ∧
  (∀ (t : Nat) (v : DWord) (s : State), t < 12 → ApOk s →
    (v &&& 0x3FFF000000001FFF ≠ 0 → exec (.trapbaseWrite t v) s = .next s) ∧
    (v &&& 0x3FFF000000001FFF = 0 → v.getLsbD 63 = true ∨ (∀ r, r ∈ s.trapWait → r.tenant ≠ t) →
      ∃ u, exec (.trapbaseWrite t v) s = .next u ∧ u = { s with ap := u.ap } ∧
        ApSet s u (0xD000 + 8 * t) ((v &&& 0xBFFFFFFFFFFFFFFF) |||
          (if v.getLsbD 62 then 0 else apWord s (0xD000 + 8 * t) &&& 0x4000000000000000)))) ∧
  (∀ (v : DWord) (s : State), v.getLsbD 63 = true → ApOk s → Memory.wf s.ctl = true → DirOk s → (∀ r, r ∈ s.openRecs → r.tenant < 12) →
    (∀ w, s.xresBusy = some w → ∀ i : Instr, i = .trapResume v ∨ i = .trapKill v → ∃ u, exec i s = .next u ∧ u = { s with ap := u.ap }) ∧
    (s.xresBusy = none → (∀ r, r ∈ s.openRecs → ctlAway s (trapRing s r.tenant + 8) = false) →
      let found := xresFind s (bitsOf v 39 9) (bitsOf v 29 10) (bitsOf v 0 16)
      (found = none → ∀ i : Instr, i = .trapResume v ∨ i = .trapKill v →
        ∃ u, exec i s = .next u ∧ u = { s with ap := u.ap } ∧ (apWord u 0xE000).getLsbD 61 = true ∧ ∀ o, o ≠ 0xE000 → apWord u o = apWord s o) ∧
      (∀ r gid team m, found = some (r, gid, team, m) →
        let a := trapRing s r.tenant + 0x40 + 64 * (r.n % 63)
        let xpc := ctlWord64 s (a + 8)
        let xl := ctlWord64 s (a + 16)
        (ctlUnread s a = false → xl &&& ~~~m = 0 → bitsOf xpc 0 2 = 0 →
          ∃ u, exec (.trapResume v) s = .next (settle (resumeLanes u gid r.trap xpc xl) team) ∧ u.groups = s.groups ∧
            u.openRecs = (if m &&& ~~~xl = 0 then s.openRecs.filter (fun x => x != r) else s.openRecs) ∧
            (apWord u 0xE000).getLsbD 61 = false ∧ (∀ y, ctlByte u y = ctlByte s y) ∧ u.ten = s.ten) ∧
        (ctlAway s a = false → xl &&& ~~~m ≠ 0 ∨ bitsOf xpc 0 2 ≠ 0 →
          ∃ u, exec (.trapResume v) s = .next u ∧ u.groups = s.groups ∧ u.openRecs = s.openRecs ∧
            (apWord u 0xE000).getLsbD 61 = true ∧ (∀ y, ctlByte u y = ctlByte s y) ∧ u.ten = s.ten) ∧
        ∃ u, exec (.trapKill v) s = .next (settle (endLanes u gid m) team) ∧
          u = { s with ap := u.ap, openRecs := s.openRecs.filter (fun x => x != r) } ∧ (apWord u 0xE000).getLsbD 61 = false))) ∧
  (∀ (gid trap : Nat) (xpc : DWord) (w : Mask) (s : State) (g : Group), groupOf s gid = some g → w ≠ 0 →
    ∃ g', groupOf (resumeLanes s gid trap xpc w) gid = some g' ∧ g'.live = g.live ∧
      ((∀ l, bitAt w l = true → ∃ e, e ∈ g.ents ∧ bitAt e.mask l = true) →
        ∀ l, bitAt w l = true → ∃ e, e ∈ g'.ents ∧ bitAt e.mask l = true ∧ e.pc = xpc))

/-- R380, R387, R284, R287: kills and the debug release. A kill that is asked for on a core that is not BUSY ends the held lanes that a resume or an
ERET left, or every lane of the context, and marks the core BUSY, once the groups of a save that is due have halted; when their operations are over DONE is set and vector 4 raised; DCTL.REL
lets a halted core issue again. -/
def Obligations.KillsAndDebugRelease : Prop :=
  (∀ (core : Nat) (v : DWord) (s : State), core < 304 → ApOk s →
    ((apWord s (0xC000 + 8 * core)).getLsbD 63 = false → (∀ p, saveOn s core = some p → p.ctx ≠ v.extractLsb' 0 16) →
      ∀ (i : Instr) (m : Group → Mask),
      (i = .killHeld core v ∧ m = leftHeld) ∨ (i = .killContext core v ∧ m = Group.live) →
      ∃ w ops, w = { s with ap := w.ap } ∧ (∀ o, o ≠ 0xC000 + 8 * core → apWord w o = apWord s o) ∧
        bitsOf (apWord w (0xC000 + 8 * core)) 0 16 = bitsOf v 0 16 ∧
        (let x := killLanes w core (v.extractLsb' 0 16) m
         exec i s = .next (apPut { x with kills := x.kills ++ [⟨core, v.extractLsb' 0 16, ops⟩] } (0xC000 + 8 * core) 63 1 1))) ∧
    ((apWord s (0xC000 + 8 * core)).getLsbD 63 = true → ∀ i : Instr, i = .killHeld core v ∨ i = .killContext core v →
      ∃ u, exec i s = .next u ∧ u = { s with ap := u.ap })) ∧
  (∀ (core : Nat) (s : State) (k : Kill), s.kills.find? (fun k => k.core == core) = some k → ApOk s → core < 304 →
    ((∃ i, i ∈ k.ops ∧ gone s i = false) → exec (.killDone core) s = .next s) ∧
    ((∀ i, i ∈ k.ops → gone s i = true) →
      ∃ u, exec (.killDone core) s = .next u ∧ (apWord u (0xC000 + 8 * core)).extractLsb' 62 2 = 1 ∧
        (apWord u (0x6008 + 32 * (tenantOf s k.ctx).getD 0)).getLsbD 4 = true ∧ u.kills = s.kills.filter (fun x => x.core != core) ∧
        u.ctl = s.ctl ∧ u.ten = s.ten ∧ u.groups.map (·.live) = s.groups.map (·.live))) ∧
  (∀ (ch : Nat) (v : DWord) (s : State), ch < 4 → bitsOf v 48 9 < 304 → ApOk s → CoresOk s →
    ∃ u, exec (.debugRelease ch v) s = .next u ∧ (coreOf u (bitsOf v 48 9)).halted = false ∧
      (∀ c, c ≠ bitsOf v 48 9 → coreOf u c = coreOf s c) ∧ ApSet s u (0x10000 + 0x20 * ch) (v &&& 0x01FF000000000007) ∧
      u.groups = s.groups ∧ u.ctl = s.ctl ∧ u.ten = s.ten)

/-- R261, R380, R284: events that carry out what a group or a host waits for. The check of a member at the H-die returns and its COLL.PROG gives
the progress of the open binding; a kill that is asked for on a core that is not BUSY is under way, with BUSY set; one whose operations
are over is DONE; and a core whose release is asked for is halted no more. -/
def Obligations.EventsComplete : Prop :=
  (∀ (core gid : Nat) (S : BitVec 3) (d : RegName) (c : BitVec 2) (w : Word) (s : State) (g : Group) (e : Ent) (b : Bind),
    groupOf s gid = some g → g.core = core → checkedEnt g = some e → g.halted = false → (coreOf s core).halted = false →
    s.tripped = false → s.lost = false → peekWord s g e.pc = some w → decode w = .ok (.collProg S d c) →
    let e' : Ent := { e with st := .ready }
    let g' : Group := { g with ents := g.ents.map (fun x => if x == e then e' else x) }
    let r := modGroup { s with sel := some ⟨g.gid, e.pc, e.prio, 0, []⟩ } g.gid (fun k => { k with
      ents := k.ents.map (fun x => if x == e then { x with st := .ready } else x) })
    Clear (.collProg S d c) r g' e' → (bindWord r g' c.toNat 0).getLsbD 63 = true → bindOf r (bindCtx r g') c.toNat = some b → b.st = .open_ →
    exec (.collCheckReturn core gid) s = .next (boardResult r g' e' S d (fun _ => BitVec.ofNat 32 (progOf b)))) ∧
  (∀ (core : Nat) (v : DWord) (s : State), core < 304 → ApOk s → (apWord s (0xC000 + 8 * core)).getLsbD 63 = false →
    (∃ t ops, exec (.killHeld core v) s = .next t ∧ (apWord t (0xC000 + 8 * core)).getLsbD 63 = true ∧
      ⟨core, v.extractLsb' 0 16, ops⟩ ∈ t.kills) ∧
    (∃ t ops, exec (.killContext core v) s = .next t ∧ (apWord t (0xC000 + 8 * core)).getLsbD 63 = true ∧
      ⟨core, v.extractLsb' 0 16, ops⟩ ∈ t.kills)) ∧
  (∀ (core : Nat) (s : State) (k : Kill), s.kills.find? (fun k => k.core == core) = some k → ApOk s → core < 304 →
    (∀ i, i ∈ k.ops → gone s i = true) → ∃ t, exec (.killDone core) s = .next t ∧
      (apWord t (0xC000 + 8 * core)).getLsbD 62 = true ∧ (apWord t (0xC000 + 8 * core)).getLsbD 63 = false ∧ ∀ x, x ∈ t.kills → x.core ≠ core) ∧
  (∀ (ch : Nat) (v : DWord) (s : State), ch < 4 → bitsOf v 48 9 < 304 → ApOk s → CoresOk s →
    ∃ t, exec (.debugRelease ch v) s = .next t ∧ (coreOf t (bitsOf v 48 9)).halted = false)

/-- R326, R330, R331, R426 to R428, R431, R435: the paddock and the ports. That what is on its way to a removed package is abandoned at the
release of its circuit, and not at the paddock write, is the model's choice (log entry 51). A paddock write that would clear the own bit is
ignored; after another, agreements go on without a package that has left; a pause holds one
virtual channel of one port and a resume lets it go on, with what waited for it leaving in order; a second lane without lock, or a seventeenth replay request for one flit, takes the port out of
service, and a flit that cannot be corrected is asked for again; a swap is proposed at a flit number 256 past the last and, accepted,
puts the logical lane on lane 4, and none is proposed while SWAPPED = 1; and a sample interval reports the weak lanes, the correction count and the worst margin. -/
def Obligations.FabricPorts : Prop :=
  (∀ (w : Nat) (v : DWord) (s : State), w < 12 → ApOk s →
    (ownPkg s / 64 = w → v.getLsbD (ownPkg s % 64) = false → exec (.paddockWrite w v) s = .next s) ∧
    (ownPkg s / 64 ≠ w ∨ v.getLsbD (ownPkg s % 64) = true →
      ∃ u, exec (.paddockWrite w v) s = .next (((List.range 64).filter (fun b => inPaddock s (64 * w + b) && !v.getLsbD b)).foldl
          (fun t b => leavesAgreement t (64 * w + b)) u) ∧ u = { s with ap := u.ap } ∧ ApSet s u (0x8000 + 8 * w) v)) ∧
  (∀ (pkg : Nat) (s : State), pkg < 768 →
    (inPaddock s pkg = true → exec (.circuitRelease pkg) s = .next s) ∧
    (inPaddock s pkg = false → onWayTo s pkg = false →
      exec (.circuitRelease pkg) s = .next (breakBinds (abandonFlights s pkg 0x146) pkg 0x146)) ∧
    (inPaddock s pkg = false → onWayTo s pkg = true → ApOk (breakBinds (abandonFlights s pkg 0x146) pkg 0x146) → ∃ u, exec (.circuitRelease pkg) s = .next u ∧
      (apWord u 0x8060).getLsbD 62 = true ∧ bitsOf (apWord u 0x8060) 0 10 = pkg ∧
      { u with ap := (breakBinds (abandonFlights s pkg 0x146) pkg 0x146).ap } = breakBinds (abandonFlights s pkg 0x146) pkg 0x146)) ∧
  (∀ (p vc : Nat) (s : State), p < 36 → vc < 4 → KeysOk s.ports →
    (∃ u, exec (.pauseFlit p vc) s = .next u ∧ u = { s with ports := u.ports } ∧ vc ∈ (portOf u p).paused ∧
      ∀ q, q ≠ p → portOf u q = portOf s q) ∧
    (∃ u, exec (.resumeFlit p vc) s = .next (collPump (s.waitOut.foldl send u)) ∧ u = { s with ports := u.ports, waitOut := [] } ∧
      vc ∉ (portOf u p).paused ∧
      ∀ q, q ≠ p → portOf u q = portOf s q)) ∧
  (∀ (p seq : Nat) (s : State), p < 36 → KeysOk s.ports → ApOk s →
    (∃ u, exec (.replayRequest p seq) s = .next u ∧ (portOf u p).tx = countFlit (portOf s p).tx seq ∧
      ((countFlit (portOf s p).tx seq).2 ≤ 16 → u.ap = s.ap) ∧
      (16 < (countFlit (portOf s p).tx seq).2 → (apWord u (0x12000 + 16 * p)).getLsbD 63 = true)) ∧
    (∃ u, exec (.uncorrectableFlit p seq) s = .next u ∧ (portOf u p).rx = countFlit (portOf s p).rx seq ∧
      ((countFlit (portOf s p).rx seq).2 ≤ 16 → u.ap = s.ap ∧ u.out = (send s (.replay p seq)).out) ∧
      (16 < (countFlit (portOf s p).rx seq).2 → (apWord u (0x12000 + 16 * p)).getLsbD 63 = true)) ∧
    ∀ lane, lane < 5 → ∃ u, exec (.laneLossOfLock p lane) s = .next u ∧ (portOf u p).unlocked = insNat lane (portOf s p).unlocked ∧
      ((insNat lane (portOf s p).unlocked).length < 2 → u.ap = s.ap) ∧
      (2 ≤ (insNat lane (portOf s p).unlocked).length → (apWord u (0x12000 + 16 * p)).getLsbD 63 = true)) ∧
  (∀ (p : Nat) (v : DWord) (s : State), p < 36 → KeysOk s.ports → ApOk s →
    (v &&& 0x3C00000000000000 ≠ 0 ∨ v &&& 0x00FFFFFFFF000000 ≠ 0 → exec (.swapRequest p v) s = .next s) ∧
    (v &&& 0x3CFFFFFFFF000000 = 0 → (apWord s (0x12000 + 16 * p)).getLsbD 62 = false →
      let n := (portOf s p).seq + 256
      ∃ u, exec (.swapRequest p v) s = .next u ∧ ApSet s u (0x12008 + 16 * p) (v &&& 0x8000000000FFFFFF) ∧
        u.out = (send s (.swap p (bitsOf v 56 2) n)).out ∧ (portOf u p).proposal = some (bitsOf v 56 2, n) ∧ (portOf u p).seq = n) ∧
    (v &&& 0x3CFFFFFFFF000000 = 0 → (apWord s (0x12000 + 16 * p)).getLsbD 62 = true →
      ∃ u, exec (.swapRequest p v) s = .next u ∧ u = { s with ap := u.ap } ∧ ApSet s u (0x12008 + 16 * p) (v &&& 0x8000000000FFFFFF))) ∧
  (∀ (p lane seq : Nat) (s : State), p < 36 → lane < 4 → KeysOk s.ports → ApOk s →
    let swapsTo := fun (u : State) => (apWord u (0x12000 + 16 * p)).getLsbD 62 = true ∧ bitsOf (apWord u (0x12000 + 16 * p)) 60 2 = lane
    ((portOf s p).proposal = some (lane, seq) → ∃ u, exec (.swapProposal p lane seq false) s = .next u ∧ swapsTo u ∧
      (portOf u p).proposal = none ∧ u.out = s.out) ∧
    ((portOf s p).proposal ≠ some (lane, seq) → 4 ∉ (portOf s p).weak → (apWord s (0x12000 + 16 * p)).getLsbD 62 = false →
      ∃ u, exec (.swapProposal p lane seq false) s = .next u ∧ swapsTo u ∧ u.out = (send s (.swapAnswer p true)).out) ∧
    ((portOf s p).proposal ≠ some (lane, seq) → 4 ∈ (portOf s p).weak ∨ (apWord s (0x12000 + 16 * p)).getLsbD 62 = true →
      exec (.swapProposal p lane seq false) s = .next (send s (.swapAnswer p false)))) ∧
  (∀ (p : Nat) (xs : List LinkSample) (s : State), p < 36 → xs.length = 5 → KeysOk s.ports → ApOk s →
    swapDue s p (weakLanes s p xs) = none →
    ∃ u, exec (.laneSampleInterval p xs false) s = .next u ∧ u.out = s.out ∧ (portOf u p).weak = weakLanes s p xs ∧
      (∀ i, i < 5 → ∀ x, xs[i]? = some x → ((apWord u (0x12000 + 16 * p)).getLsbD (48 + i) = true ↔
        bitsOf (apWord s (0x12008 + 16 * p)) 0 16 < x.corr ∨ x.margin < bitsOf (apWord s (0x12008 + 16 * p)) 16 8)) ∧
      bitsOf (apWord u (0x12000 + 16 * p)) 0 32 = min 4294967295 ((xs.map (·.corr)).foldl (· + ·) 0) ∧
      bitsOf (apWord u (0x12000 + 16 * p)) 40 8 = (xs.map (·.margin)).foldl min 255)

/-- R338 to R341, R435, R436, R439: what reaches a collective. A packet for a binding that is not open here waits in the early-arrival store and is acknowledged, or
is refused with a retry time when the tenant's share is full; an open binding takes it in when NMEMB and the sender's position agree, and fails with
0x147 otherwise; the acknowledgement of a packet on its way is counted for its chunk, and a refused one is sent again after its time, under
a new lookup; the member commits when every chunk is Final and acknowledged; a cancel that meets an open binding ends its handle in coll-aborted and closes it. -/
def Sys2Proof.Claims.CollectiveTraffic : Prop :=
  (∀ (p : CollPkt) (s : State), p.body ≠ .ack →
    let used := earlyUsed s p.ctx
    let n := (pktBytes p).length
    (isClosed s p.ctx p.c = true → used + n ≤ earlyShare s p.ctx →
      ∃ u, exec (.collPacketArrival p) s = .next u ∧ u.early = s.early ++ [p] ∧ u.out = (send s (.collAck p.pkg p)).out ∧
        u.ctl = s.ctl ∧ u.ten = s.ten ∧ u.binds = s.binds) ∧
    (isClosed s p.ctx p.c = true → earlyShare s p.ctx < used + n →
      exec (.collPacketArrival p) s = .next (sendPlain s p.ctx 0 (.retryAfter p.pkg (min 63 (1 + used / 65536)) p))) ∧
    (∀ b, bindOf s p.ctx p.c = some b → b.st = .open_ → b.cancelling = false →
      (p.nmemb + 1 = b.ranks.length → (b.ranks.getD p.pos (0, 0)).1 = p.rank →
        exec (.collPacketArrival p) s = .next (collPump (match p.body with
          | .partSum ws => modChunk (send s (.collAck p.pkg p)) b.ctx b.c p.chunk (fun k => { k with part := some ws })
          | _ => { send s (.collAck p.pkg p) with early := s.early ++ [p] }))) ∧
      (p.nmemb + 1 ≠ b.ranks.length ∨ (b.ranks.getD p.pos (0, 0)).1 ≠ p.rank →
        exec (.collPacketArrival p) s = .next (failPost s b 0x147 0)))) ∧
  (∀ (p : CollPkt) (us : Nat) (s : State) (b : Bind) (k : CollSent), bindOf s p.ctx p.c = some b →
    s.collSent.find? (fun k => k.ctx == p.ctx && k.c == p.c && k.chunk == p.chunk && k.way.pkg == p.pkg) = some k →
    (p.body = .ack → b.post = k.post → ∃ u x, exec (.collPacketArrival p) s = .next u ∧ u.collSent = s.collSent.erase k ∧
      bindOf u p.ctx p.c = some x ∧ ∀ i q, b.chunks[i]? = some q → ∃ r, x.chunks[i]? = some r ∧
        r.acks = (if i = k.chunk then q.acks.filter (fun a => a != k.way.idx) else q.acks)) ∧
    (b.st = .open_ → b.cancelling = false → exec (.retryAfter p us) s =
      .next { s with collSent := s.collSent.erase k, retries := s.retries ++ [(p, (coreOf s 288).cycle.toNat + 2100 * us)] })) ∧
  (∀ (p : CollPkt) (s : State) (b : Bind) (n due : Nat), bindOf s p.ctx p.c = some b → b.st = .open_ → b.cancelling = false →
    s.retries[n]? = some (p, due) →
    let k := (b.ranks.findIdx? (fun r => r.2 == p.pkg)).getD 0
    let rest := { s with retries := s.retries.take n ++ s.retries.drop (n + 1) }
    (∀ q r ss, due ≤ (coreOf s 288).cycle.toNat → lookAll s b p.chunk [k] = .ok q r ss → exec (.retryResend n) s =
      .next (sendPacket (registerAll rest b p.chunk [k]) b k { p with pkg := ownPkg s })) ∧
    ((coreOf s 288).cycle.toNat < due → exec (.retryResend n) s = .next s)) ∧
  (∀ (ctx c : Nat) (s : State) (b : Bind),
    let p := collPump s
    let complete := b.st = .open_ ∧ b.cancelling = false ∧ ∀ q, q ∈ b.chunks → q.final = true ∧ q.acks = []
    bindOf p ctx c = some b →
    (complete → exec (.collCommit ctx c) s =
      .next (endAop (modBind (shutBind p ctx c) ctx c (fun b => { b with committed := true })) b.post .done)) ∧
    (¬complete → exec (.collCommit ctx c) s = .next (payCancels p ctx c))) ∧
  (∀ (ctx c pkg : Nat) (s : State) (b : Bind), bindOf s ctx c = some b → b.st = .open_ → b.agrees = [] →
    ∃ u, exec (.collCancel ctx c pkg) s = .next (payCancels (endAop u b.post (.error 0x14A 0)) ctx c) ∧
      (∃ b', bindOf u ctx c = some b' ∧ b'.st = .closed ∧ b'.pins = [] ∧ b'.owe = b.owe ++ [pkg]) ∧
      (∀ p, p ∈ u.early ↔ p ∈ s.early ∧ ¬(p.ctx = ctx ∧ p.c = c)) ∧
      (∀ r, r ∈ u.retries ↔ r ∈ s.retries ∧ ¬(r.1.ctx = ctx ∧ r.1.c = c)) ∧ u.ctl = s.ctl ∧ u.ten = s.ten) ∧
  (∀ (ctx c rank : Nat) (s : State) (b : Bind), bindOf s ctx c = some b → b.cancelling = true →
    ((∀ r, r ∈ b.cancelOwed → r = rank) → exec (.cancelAck ctx c rank) s = .next (endAop (shutBind s ctx c) b.post .idle)) ∧
    ((∃ r, r ∈ b.cancelOwed ∧ r ≠ rank) → exec (.cancelAck ctx c rank) s =
      .next (modBind s ctx c (fun x => { x with cancelOwed := b.cancelOwed.filter (fun r => r != rank) }))))

/-- R435: an agreement. Its start makes an open binding agree; a member that does not lead sends the leader its progress, a closed one the
number of its chunks where it has committed, and the failure where it has not, and one that never opened the binding fails the agreement.
The last value gives the minimum to every member that is there, a failure fails it for all; and the result ends the
agreement's handles, in Done with a value and in coll-aborted without. The model's choices (log entry 39): what a package that knows no
members does, a start that meets a broken binding, and that a failed agreement leaves it broken. -/
def Sys2Proof.Claims.Agreement : Prop :=
  (∀ (ctx c : Nat) (s : State) (b : Bind), bindOf s ctx c = some b → leader s b ≠ b.pos →
    let tell := fun (u : State) (v : Option Nat) => sendPlain u ctx 0 (.agreeProgress (b.ranks.getD (leader s b) (0, 0)).2 ctx c v)
    (b.st = .open_ → b.cancelling = false → (∀ o, aopOf s b.post = some o → teamsNaming s o.id o.team = []) →
      ∃ u, exec (.agreementStart ctx c) s = .next (tell u (some (progOf b))) ∧ bindOf u ctx c = some { b with st := .agreeing 0x149 } ∧
        u = { s with binds := u.binds, retries := s.retries.filter (fun r => !(r.1.ctx == ctx && r.1.c == c)) }) ∧
    (b.st = .open_ → b.cancelling = true → exec (.agreementStart ctx c) s = .next s) ∧
    (∀ x, b.st = .broken x → ∃ u, exec (.agreementStart ctx c) s = .next (tell u (some (progOf b))) ∧
      bindOf u ctx c = some { b with st := .agreeing x } ∧ u = { s with binds := u.binds }) ∧
    (b.st = .closed → ∃ u, exec (.agreementStart ctx c) s = .next (tell u (if b.committed then some b.chunks.length else none)) ∧
      bindOf u ctx c = some { b with reported := true } ∧ u = { s with binds := u.binds })) ∧
  (∀ (ctx c : Nat) (s : State), bindOf s ctx c = none → exec (.agreementStart ctx c) s = .next (((List.range 768).filter (fun p =>
    decide (p ≠ ownPkg s) && !isLost s p && inPaddock s p)).foldl (fun t p => sendPlain t ctx 0 (.agreeResult p ctx c none)) s)) ∧
  (∀ (ctx c rank : Nat) (v : Option Nat) (x : Cause) (s : State) (b : Bind), bindOf s ctx c = some b → b.st = .agreeing x →
    leader s b = b.pos → (∃ r, r ∈ b.ranks ∧ r.1 = rank) →
    let u := modBind s ctx c (fun k => { k with progress := k.progress.filter (fun p => p.1 != rank) ++ [(rank, v)] })
    let ranks := (otherMembers s b).map (fun k => (b.ranks.getD k (0, 0)).1)
    let got := (b.progress.filter (fun p => p.1 != rank) ++ [(rank, v)]).filter (fun p => ranks.contains p.1)
    let ends := fun (r : Option Nat) => agreeEnd ((otherMembers s b).foldl (fun t k =>
      sendPlain t ctx 0 (.agreeResult (b.ranks.getD k (0, 0)).2 ctx c r)) u) ctx c r
    ((∃ p, p ∈ got ∧ p.2 = none) → exec (.agreeProgress ctx c rank v) s = .next (ends none)) ∧
    ((∀ p, p ∈ got → p.2 ≠ none) → (∃ r, r ∈ ranks ∧ ∀ p, p ∈ got → p.1 ≠ r) → exec (.agreeProgress ctx c rank v) s = .next u) ∧
    ((∀ p, p ∈ got → p.2 ≠ none) → (∀ r, r ∈ ranks → ∃ p, p ∈ got ∧ p.1 = r) →
      exec (.agreeProgress ctx c rank v) s = .next (ends (some (got.foldl (fun m p => min m (p.2.getD m)) (progOf b)))))) ∧
  (∀ (ctx c : Nat) (x : Cause) (v : Option Nat) (s : State) (b : Bind), bindOf s ctx c = some b → b.st = .agreeing x →
    ∃ u, exec (.agreeResult ctx c v) s = .next (b.agrees.foldl (fun s o => endAop s o (match v with
        | some _ => .done
        | none => .error 0x14A 0)) u) ∧
      (∃ b', bindOf u ctx c = some b' ∧ b'.agrees = [] ∧ b'.st = (match v with
        | some r => .agreed r x
        | none => .broken x)) ∧ u = { s with binds := u.binds })

/-- R338 to R341, R435, R436, R439: what reaches a collective, and agreements. The model's choices: bindings are found by their context (log
entry 38); what an agreement does with members that know nothing of it, or have broken (log entry 39). -/
def Obligations.CollectiveEvents : Prop := Sys2Proof.Claims.CollectiveTraffic ∧ Sys2Proof.Claims.Agreement

/-- R345 to R349, R351, R425: bring-up. The model's choices: the cores are released and DONE is set at the verification of the kernel image
(log entry 54), and the address of a report request (log entry 79). BOOTCFG takes legal identities until LOCK; the ROM waits for LOCK and stops with the code of the first check that
fails, or enters the hub firmware at its ENTRY; the hub's part stops on a bad link or identity and, with its boot region copied to the peer and
a good kernel image, enters that, releases every core and sets DONE; a report is asked for only after DONE; and module reset puts back every reset value and keeps the memories. -/
def Obligations.BringUp : Prop :=
  (∀ (v : DWord) (s : State), ApOk s →
    let bad := (apWord s 0).getLsbD 63 = true ∨ 767 < bitsOf v 0 10 ∨ 767 < bitsOf v 16 10 ∨ bitsOf v 0 10 = bitsOf v 16 10 ∨
      v &&& 0x7FFFFFFFFC00FC00 ≠ 0
    (bad → exec (.bootcfgWrite v) s = .next s) ∧
    (¬bad → ∃ u, exec (.bootcfgWrite v) s = .next u ∧ apWord u 0 = v ∧ u.ten = s.ten ∧
      (bitsOf v 0 10 = ownPkg s → u.ctl = s.ctl ∧ ApSet s u 0 v))) ∧
  (∀ (s : State), ApOk s → bootErr s = 0 → bootStage s ≤ 1 →
    let w := apPut s 8 0 4 1
    ((apWord s 0).getLsbD 63 = false → exec .romHubVerify s = .next w) ∧
    ((apWord s 0).getLsbD 63 = true →
      let e := imgCheck w 1 (homeBase w) none
      ∃ u, exec .romHubVerify s = .next u ∧
        (if e = 0 then u = apPut (imgAccept w 1 (homeBase w)) 8 0 4 2 ∧ u.entered = some (leNat (ctlBytes w (homeBase w + 0x18) 8))
          else u = { s with ap := u.ap } ∧ bootErr u = e ∧ bootStage u = 1))) ∧
  (∀ (p : PeerInfo) (s : State), ApOk s → bootErr s = 0 → bootStage s = 2 →
    (p.linkUp = false → ∃ u, exec (.hubKernelVerify p) s = .next u ∧ u = { s with ap := u.ap } ∧ bootErr u = 0x11 ∧ bootStage u = 2) ∧
    (p.linkUp = true → p.pkgid ≠ peerPkg s ∨ p.peer ≠ ownPkg s →
      ∃ u, exec (.hubKernelVerify p) s = .next u ∧ u = { s with ap := u.ap } ∧ bootErr u = 0x10 ∧ bootStage u = 2) ∧
    (p.linkUp = true → p.pkgid = peerPkg s → p.peer = ownPkg s → p.ready = false → exec (.hubKernelVerify p) s = .next s) ∧
    (p.linkUp = true → p.pkgid = peerPkg s → p.peer = ownPkg s → p.ready = true → CoresOk s →
      let z := zeroHomes (bootOut s)
      let hub := (z.images.find? (fun i => i.1 == 1)).map (fun i => (leNat ((i.2.2.drop 0x10).take 8), leNat ((i.2.2.drop 0x0C).take 4)))
      let e := imgCheck z 2 (homeBase z + 0x4000000) hub
      ∃ u, exec (.hubKernelVerify p) s = .next u ∧
        (if e = 0 then bootStage u = 3 ∧ bootDone u = true ∧ (∀ n, n < 304 → (coreOf u n).held = false) ∧
            u.entered = some (leNat (ctlBytes z (homeBase z + 0x4000018) 8))
          else bootErr u = e ∧ bootStage u = 2))) ∧
  (∀ (v : DWord) (s : State), attestBusy s = false → ApOk s →
    (bootDone s = false → exec (.attestRequest v) s = .next s) ∧
    (bootDone s = true → ∃ u, u = { s with ap := u.ap } ∧ ApSet s u 0x120 ((v &&& 0x0000FFFFFFFFFFC0) ||| 0x4000000000000000) ∧
      ∃ bs : List Byte, bs.length = 3629 ∧
        bs.take 32 = ((List.range 4).map (fun i => leBytes 8 (apWord s (0x100 + 8 * i)).toNat)).flatten ∧
        (bs.drop 0x20).take 8 = leBytes 8 (apWord s 0).toNat ∧
        (bs.drop 0x90).take 96 = ((List.range 12).map (fun t => leBytes 8 (apWord s (0x1000 + 8 * t)).toNat)).flatten ∧
        exec (.attestRequest v) s = .next (devWrite u (markLast (cutSectors (bs.length + 1) (bitsOf v 12 36 * 4096) bs))))) ∧
  (∀ s : State, ∃ u, exec .moduleReset s = .next u ∧ u.ap = State.reset.ap ∧ u.cores = State.reset.cores ∧ u.teams = [] ∧ u.groups = [] ∧
    u.aops = [] ∧ u.ops = [] ∧ u.binds = [] ∧ u.ten = s.ten ∧ (ownPkg s = 0 → u.ctl = s.ctl))

/-- R342, R343, R352, R424: power. A reading of 110 °C or more stops every core and sets TRIP, one of 125 °C removes power; TRIP is cleared by writing 1 only
below 100 °C; a floor write with a reserved bit, or whose floors break the limits, is ignored; and an interval moves at most 40 tokens between the pools, toward the one
with the higher demand, nonempty operation streams against queued bytes, by the weights of the event (log entry 80), and none where the
demands are equal (the model's choice, log entry 56); together they never
hold more than 1,540. -/
def Obligations.PowerLimits : Prop :=
  (∀ (die temp : Nat) (s : State), die < 4 → temp < 256 → ApOk s →
    ∀ i : Instr, i = .thermalTrip die temp ∨ (i = .powerRemove die temp ∧ 125 ≤ temp) →
      ∃ u, exec i s = .next u ∧ bitsOf (apWord u 0xB000) (8 * die) 8 = temp ∧ u.powered = (s.powered && decide (temp < 125)) ∧
        u.tripped = (s.tripped || decide (110 ≤ temp)) ∧ ((apWord u 0xB000).getLsbD 63 = ((apWord s 0xB000).getLsbD 63 || decide (110 ≤ temp))) ∧
        (110 ≤ temp → ∀ p, p ∈ u.cores → p.2.issueq = []) ∧ u.groups = s.groups ∧ u.ctl = s.ctl ∧ u.ten = s.ten) ∧
  (∀ (v : DWord) (s : State), ApOk s →
    ((∃ d, d < 4 ∧ 100 ≤ bitsOf (apWord s 0xB000) (8 * d) 8) → exec (.tripClear v) s = .next s) ∧
    ((∀ d, d < 4 → bitsOf (apWord s 0xB000) (8 * d) 8 < 100) →
      ∃ u, exec (.tripClear v) s = .next u ∧ u = { s with ap := u.ap, tripped := false } ∧
        ApSet s u 0xB000 (apWord s 0xB000 &&& 0x7FFFFFFFFFFFFFFF))) ∧
  (∀ (v : DWord) (s : State), ApOk s →
    let bad := bitsOf v 32 32 ≠ 0 ∨ bitsOf v 16 16 < 100 ∨ 1540 < bitsOf v 16 16 + bitsOf v 0 16
    (bad → exec (.governorFloorWrite v) s = .next s) ∧
    (¬bad → ∃ u, exec (.governorFloorWrite v) s = .next u ∧ u = { s with ap := u.ap } ∧ ApSet s u 0xA008 v)) ∧
  (∀ (perStream perByte : Nat) (s : State), ApOk s → (∀ d, d < 4 → bitsOf (apWord s 0xB000) (8 * d) 8 < 100) → matTok s + fabTok s ≤ 1540 →
    matFloor s ≤ matTok s → fabFloor s ≤ fabTok s →
    let mat := perStream * (s.cores.filter (fun p => !p.2.stream.isEmpty)).length
    let fab := perByte * (s.queue.map (fun q => q.bytes)).sum
    ∃ u, exec (.governorInterval perStream perByte []) s = .next u ∧ u = { s with ap := u.ap } ∧
      matTok u + fabTok u ≤ 1540 ∧ matFloor s ≤ matTok u ∧ fabFloor s ≤ fabTok u ∧
      matTok u ≤ matTok s + 40 ∧ fabTok u ≤ fabTok s + 40 ∧ matTok s ≤ matTok u + 40 ∧ fabTok s ≤ fabTok u + 40 ∧
      (fab < mat → matTok s ≤ matTok u ∧ fabTok u ≤ fabTok s) ∧ (mat < fab → fabTok s ≤ fabTok u ∧ matTok u ≤ matTok s) ∧
      (mat = fab → matTok u = matTok s ∧ fabTok u = fabTok s) ∧
      bitsOf (apWord u 0xA000) 32 32 = (bitsOf (apWord s 0xA000) 32 32 + 1) % 4294967296)

/-- R410, R411, R415 to R418, R421 to R423, R429: losses and errors. The model's choices: the six steps of a tenant reset are one event (log
entry 57), an emptied structure loses its marks (log entry 58), which register words a memory error poisons (log entry 59), and a structure
error is recorded only where TRAPBASE.V stands (log entry 61). The first report of another package's loss sets its LOST bit and is passed on, a later one
and one of the own number change nothing; a notice of the own loss stops every core; the home of the lost peer is rebuilt from the
surviving copies and the mirror, and the lines that are lost are poisoned, while that of another package is taken to be at its peer; an error in the only copy of a word poisons it and is counted; a structure error is reported to
the tenants that own entries there, whose marks an emptied cache loses; and a tenant reset ends the tenant's groups, clears its cores, and sets DONE. -/
def Obligations.LossesAndErrors : Prop :=
  (∀ (p : Nat) (s : State), p < 768 → ∀ i : Instr,
    i = .declareLost (BitVec.ofNat 64 p) ∨ i = .lossRequestTimeout p ∨ i = .switchLinksDown p ∨ (i = .lossNotice p ∧ p ≠ ownPkg s) →
    (p = ownPkg s ∨ isLost s p = true → exec i s = .next s) ∧
    (p ≠ ownPkg s → isLost s p = false → s.dir = [] → s.heldWrites = [] → s.devWrites = [] → s.early = [] → s.retries = [] → s.binds = [] →
      s.aops = [] → s.ops = [] → s.devMade = none → ApOk s →
      ∃ u, exec i s = .next u ∧ isLost u p = true ∧ (∀ q, q < 768 → q ≠ p → isLost u q = isLost s q) ∧
        (p ≠ peerPkg s → ∃ sent, sent = sendEach { s with
            out := s.out.filter (fun m => !awaitsPkg p m), waitOut := s.waitOut.filter (fun m => !awaitsPkg p m) }
            (((List.range 768).filter (fun q => q != ownPkg s)).map (fun q => Msg.lossNotice q p)) ∧
          u.out = sent.out ∧ u.waitOut = sent.waitOut) ∧
        (p = peerPkg s → (apWord u 0xF068).getLsbD 63 = true) ∧ u.groups = s.groups ∧ u.ctl = s.ctl ∧ u.ten = s.ten)) ∧
  (∀ (s : State), ∃ u, exec (.lossNotice (ownPkg s)) s = .next u ∧ u.lost = true ∧ (∀ p, p ∈ u.cores → p.2.issueq = []) ∧
    u = { s with lost := true, cores := u.cores }) ∧
  (∀ (p : Nat) (xs : List HeldCopy) (s : State),
    (isLost s p = false ∨ p ∈ s.rebuilt ∨ isLost s (mirrorOf s p) = true → exec (.homeRebuild p xs) s = .next s) ∧
    (isLost s p = true → p ∉ s.rebuilt → isLost s (mirrorOf s p) = false → p ≠ peerPkg s →
      exec (.homeRebuild p xs) s = .next (movePins { s with rebuilt := insNat p s.rebuilt } p)) ∧
    (isLost s p = true → p ∉ s.rebuilt → isLost s (mirrorOf s p) = false → xs = [] → p = peerPkg s → ApOk s → s.devWrites = [] →
      KeysOk s.ctl → KeysOk s.mirror → (∀ k, k ∈ s.mirror → k.1 < 2 ^ 33) →
      let kept := fun (x : Nat) => holdOf s x = some .m ∨ holdOf s x = some .o
      ∃ u, exec (.homeRebuild p xs) s = .next u ∧ p ∈ u.rebuilt ∧
        (∀ a, a / 2 ^ 33 = p → ¬kept (a / 64) → memByte u.ctl a = memByte s.mirror (a % 2 ^ 33)) ∧
        (∀ a, a / 2 ^ 33 ≠ p ∨ kept (a / 64) → memByte u.ctl a = memByte s.ctl a) ∧
        (∀ x, x ∈ s.dl → x / 2 ^ 27 = p → x ∉ u.dl ∧ (¬kept x → 2 * x ∈ u.ctlPoison ∧ 2 * x + 1 ∈ u.ctlPoison)) ∧
        (apWord u 0xF068).getLsbD 62 = true ∧ (apWord u 0xF068).getLsbD 63 = false ∧ bitsOf (apWord u 0xF068) 32 10 = p)) ∧
  (∀ (s : State), ApOk s → CoresOk s →
    (∃ u, exec (.eccError .corrected) s = .next u ∧ u = { s with ap := u.ap } ∧
      bitsOf (apWord u 0xF300) 32 32 = min 4294967295 (bitsOf (apWord s 0xF300) 32 32 + 1)) ∧
    (∀ w, ∃ u, exec (.eccError (.dirty (.ten w))) s = .next u ∧ w ∈ u.tenPoison ∧ w ∉ u.tenBad ∧ u.ten = s.ten ∧
      bitsOf (apWord u 0xF300) 0 32 = min 4294967295 (bitsOf (apWord s 0xF300) 0 32 + 1)) ∧
    (∀ w, ∃ u, exec (.eccError (.dirty (.ctl w))) s = .next u ∧ w ∈ u.ctlPoison ∧ w ∉ u.ctlBad ∧ u.ctl = s.ctl) ∧
    (∀ c n, ∃ u, exec (.eccError (.dirty (.reg c n))) s = .next u ∧ n ∈ (coreOf u c).rfPoison ∧ (coreOf u c).rf = (coreOf s c).rf)) ∧
  (∀ (unit eff t : Nat) (s : State), ApOk s → t < 12 → unit < 1024 → eff < 4 → KeysOk s.owned → (mapGet 0 s.owned (1024 + unit)).testBit t = true →
    (∀ k, k ≠ t → k < 12 → (mapGet 0 s.owned (1024 + unit)).testBit k = false) → (apWord s (0xF100 + 8 * t)).getLsbD 63 = false →
    ∃ u, exec (.structureError 1 unit eff []) s = .next u ∧ (∀ p, p ∈ u.tlb ↔ p ∈ s.tlb ∧ p.1 ≠ Agent.slice unit) ∧
      ApSet s u (0xF100 + 8 * t) (BitVec.ofNat 64 (2 ^ 63 + 2 ^ 40 + unit * 2 ^ 30 + eff)) ∧
      u.trapWait.length = s.trapWait.length + (if (trapBase s t).getLsbD 63 then 1 else 0) ∧ mapGet 0 u.owned (1024 + unit) = 0) ∧
  (∀ (t : Nat) (v : DWord) (s : State), t < 12 →
    (partition s t = none → v.getLsbD 61 = false → exec (.tenantReset t v) s = .next s) ∧
    (partition s t ≠ none → ApOk (resetOps (resetColls (resetLanes s t (tenantCores s t)) t) t (tenantCores s t)) →
      CoresOk (resetOps (resetColls (resetLanes s t (tenantCores s t)) t) t (tenantCores s t)) → v.getLsbD 61 = false →
      ∃ u, exec (.tenantReset t v) s = .next u ∧ (apWord u (0xF200 + 8 * t)).getLsbD 61 = true ∧
        (∀ g, g ∈ u.groups → inPartition s t g.core = false) ∧ (∀ x, x ∈ u.teams → inPartition s t x.core = false) ∧
        (∀ c, inPartition s t c = true → (coreOf u c).rf = [] ∧ (coreOf u c).spad = [] ∧ (coreOf u c).acc = [] ∧ (coreOf u c).bundles = [] ∧
          (coreOf u c).icache = [] ∧ (coreOf u c).l1 = [] ∧ (coreOf u c).stream = []))) ∧
  (∀ (off : Nat) (v : DWord) (s : State), ApOk s →
    (off % 8 ≠ 0 ∨ (0x120 < off ∧ off < 0x1000) ∨ (0x2200 ≤ off ∧ off < 0x2400) ∨ off = 0xA000 ∨ (0xF000 ≤ off ∧ off < 0xF060) ∨
        off = 0xF300 ∨ 0x12240 ≤ off →
      exec (.apertureRegisterWrite off v) s = .next s) ∧
    (∀ j, j < 4 → ∃ u, exec (.apertureRegisterWrite (0x100 + 8 * j) v) s = .next u ∧ u = { s with ap := u.ap } ∧ ApSet s u (0x100 + 8 * j) v) ∧
    (∀ t, t < 12 → ∃ u, exec (.apertureRegisterWrite (0x6008 + 32 * t) v) s = .next u ∧ u = { s with ap := u.ap } ∧
      ApSet s u (0x6008 + 32 * t) (apWord s (0x6008 + 32 * t) &&& ~~~v)))

namespace Sys2Proof.Claims

/-- The forms of R167 to R173. -/
def intForms (S : BitVec 3) (X : BitVec 1) (m : BitVec 8) (d a b : RegName) : List Instr :=
  [.add S X d a b, .sub S X d a b, .addi S m d a, .mul S d a b, .muli S m d a, .mulh S X d a b, .imad S d a b, .div S X d a b,
   .rem S X d a b, .and S d a b, .or S d a b, .xor S d a b, .andi S m d a, .ori S m d a, .xori S m d a, .movi S m d, .shl S d a b,
   .shr S X d a b, .shli S m d a, .shri S m d a, .shrai S m d a, .not S d a, .neg S d a, .abs S d a, .mov S d a, .clz S d a,
   .popc S d a, .brev S d a, .bfx S d a b, .bfi S d a b, .isetEq S d a b, .isetNe S d a b, .isetLt S X d a b, .isetLe S X d a b,
   .sel S d a b, .add64 S d a b, .addi64 S m d a, .lea S d a b]
/-- What an issue that only computes leaves alone: everything but its own group, the results on their way and the identities
given out. The group's registers, masks, handles, level and saved trap registers stay as they are; its lanes move, and writes to
the destination join those that are pending. -/
structure Frame (i : Instr) (s t : State) (g : Group) : Prop where
  rest : t = { s with groups := t.groups, ops := t.ops, nextId := t.nextId }
  others : ∀ n, n ≠ g.gid → groupOf t n = groupOf s n
  own : ∃ h, groupOf t g.gid = some h ∧ h = { g with ents := h.ents, pend := h.pend, ahead := h.ahead } ∧
    (∀ w, w ∈ g.pend → w ∈ h.pend) ∧ (∀ w, w ∈ h.pend → w ∈ g.pend ∨ w.dst ∈ writesOf s g i) ∧
    (∀ l r, readReg t h l r = readReg s g l r)
  tensor : ∀ a, memByte t.ten a = memByte s.ten a
  control : ∀ a, ctlByte t a = ctlByte s a
/-- The matrix instructions, which the control cores lack (R146). -/
def matrixForms (S : BitVec 3) (x : BitVec 1) (t : BitVec 3) (h : BitVec 4) (a b : RegName) : List Instr :=
  [.macq S, .mrel S, .mma S x t a b, .mmaP S x t a b, .mzero S t, .mloada S t a, .mstorea S t a, .ctxsave S h a, .ctxload S h a]
/-- The privileged instructions (R272). -/
def kernelForms (S : BitVec 3) (h : BitVec 4) (d a : RegName) : List Instr :=
  [.eret S, .xlate S d a, .halt S, .ctxsave S h a, .ctxload S h a]
/-- Lane l of a group stands at `pc` and can issue from there. -/
def standsAt (g : Group) (l : Nat) (pc : DWord) : Prop := ∃ e, e ∈ g.ents ∧ e.pc = pc ∧ bitAt e.mask l = true ∧ unparked e = true

end Sys2Proof.Claims

/-- R24, R32, R139: a step that an issue is due at runs exactly the instruction that the word at its entry's PC decodes to, in the state
in which the word is kept; a reserved encoding runs as ILLEGAL_OPCODE_WORD; an event on the agenda runs as it stands. A word that
is not held is the four bytes at the place its PC translates to, the lowest address first. -/
def Obligations.StepRunsDecoded : Prop :=
  (∀ (n : Nat) (rest : List Move) (s t : State) (g : Group) (e : Ent) (w : Word) (ss : List Nat) (c : Bool), s.powered = true →
    (s.agenda = .core n :: rest ∨ (s.agenda = [] ∧ rest = [] ∧ n = s.turn ∧ (coreOf s n).issueq ≠ [])) → coreStopped s n = false →
    takePick { s with agenda := rest } n = some t → selected t = some (g, e) → g.halted = false → fetchWord t g e.pc = .word w ss c →
    (∀ i, decode w = .ok i → step s = exec i (keepWord t g e.pc w ss c)) ∧
    (decode w = .illegalOpcode → step s = exec (.illegalOpcodeWord w) (keepWord t g e.pc w ss c))) ∧
  (∀ (i : Instr) (rest : List Move) (s : State), s.powered = true → s.agenda = .event i :: rest →
    step s = exec i { s with agenda := rest, sel := none }) ∧
  (∀ (s : State) (g : Group) (pc : DWord) (pa : Nat) (x : Xlat), heldWord s g pc = none →
    fetchAt s g.core g.ctxid g.kernel pc = .ok x → x.at_ = .ctl pa → ownedAway s (pa / 64) = false → s.ctlBad.contains (pa / 32) = false →
    s.ctlPoison.contains (pa / 32) = false →
    fetchWord s g pc = .word (ctlByte s (pa + 3) ++ ctlByte s (pa + 2) ++ ctlByte s (pa + 1) ++ ctlByte s pa) x.sectors false)

/-- R139 to R144, R152: words that the spec's encodings give, and the instructions they stand for. -/
def Obligations.DecodeSanity : Prop :=
  decode 0x00600048 = .ok (.blk 0 200) ∧ decode 0x54000000 = .ok (.lane 2 0 0) ∧ decode 0x02C00002 = .ok (.exit 0) ∧
  decode 0x048A1440 = .ok (.addi 0 64 40 40) ∧ decode 0x08CA4008 = .ok (.movi 0 8 41) ∧ decode 0x17807302 = .ok (.tcall 0 1 102 2) ∧
  decode 0x1B00B801 = .ok (.copy 0 2 112 1) ∧ decode 0x1B400100 = .ok (.hwait 0 2) ∧ decode 0x1C803C7A = .ok (.mma 0 0 0 120 122) ∧
  decode 0x1E00C000 = .ok (.collPost 0 3 0) ∧ decode 0x1F403A07 = .ok (.swr 0 7 116) ∧ decode 0x1F800001 = .ok (.eret 0) ∧
  decode 0x19CABAA8 = .ok (.ldsp 0 42 117 40) ∧ decode 0x00000000 = .illegalOpcode

/-- R139 to R145: decoding and encoding agree. The word of an instruction decodes to it, at every value of every operand, and a word
that decodes to an instruction is the one word of that instruction; a word with a nonzero unused field, and one of a reserved
encoding, are no instruction's word. -/
def Obligations.DecodeEncode : Prop :=
  ∀ (i : Instr) (w : Word),
    ((∀ v, i ≠ .illegalOpcodeWord v) → encode i = some w → decode w = .ok i) ∧
    (decode w = .ok i → encode i = some w) ∧
    (∀ j, decode w = .badOperand j ∨ decode w = .illegalOpcode → ∀ f, encodeFields i = some f → packWord f ≠ w)

/-- The two physical memories keep their one canonical form through every step of the machine: an issue, an event, or the beginning of a
core's cycle. -/
def Obligations.MemoryInvariant : Prop := ∀ s t : State, MemoriesOk s → step s = .next t → MemoriesOk t

/-- The memories have their canonical form right after reset, and list nothing. -/
def Obligations.ResetMemoriesOk : Prop := MemoriesOk State.reset ∧ State.reset.ctl = [] ∧ State.reset.ten = []

/-- R95, R113, R271, R287, R306, R307, R313, R320, R326, R331, R343, R346, R349, R352, R371, R379, R380, R415, R422, R423, R426, R431: what the
spec gives a reset value. Of the aperture, every word is as listed, and reads so; every accumulator is zero, and every system register of a
core, of the package or of a context. -/
def Obligations.ResetValues : Prop :=
  let s := State.reset
  let word := fun (off : Nat) => if off = 0x8000 then (1 : DWord)
    else if 0x9000 ≤ off ∧ off < 0x9060 then 1
    else if off = 0xA000 then 0x12204E2
    else if off = 0xA008 then 0xA002BC
    else if 0x12000 ≤ off ∧ off < 0x12240 ∧ off % 16 = 8 then 0x200400
    else 0
  (∀ off, off % 8 = 0 → apWord s off = word off ∧ apRead s off = word off) ∧
  (∀ n i, mapGet 0 (coreOf s n).acc i = 0) ∧
  (∀ n, (coreOf s n).ptmo = 0x0000A410 ∧ (coreOf s n).cycle = 0 ∧ (coreOf s n).aown = 0 ∧
    ((coreOf s n).held = false ↔ n = 288)) ∧
  s.ctxtab = 0 ∧ (∀ c, mapGet 0 s.lrank c = 0 ∧ mapGet false s.schk c = false ∧ mapGet 0 s.shadow c = 0 ∧ mapGet 0 s.scope c = 0) ∧
  (∀ p, p < 768 → isLost s p = false ∧ inPaddock s p = decide (p = 0)) ∧ s.groups = [] ∧ s.teams = []

/-- R97 to R100: what a write leaves in a register file. k0 reads 0 and discards writes; a mask register takes the bits of the lanes named
and keeps the others, and its positions from the width on read zero; a vector register keeps what is written until that lane's
register is written again; a pair is read with its low word first. R149, R152: a lane that reads a register whose new value is not due yet reads the value before it. -/
def Obligations.RegisterAccess : Prop :=
  (∀ (g : Group) (n k : Nat) (v : Word), KeysOk g.k → readK g 0 = 0 ∧
    readK (writeK g n v) k = if k = n ∧ n ≠ 0 then v else readK g k) ∧
  (∀ (g : Group) (n k l : Nat) (lanes v : Mask), KeysOk g.m →
    bitAt (readM (writeM g n lanes v) k) l =
      if k = n then decide (l < g.width) && (if bitAt lanes l then bitAt v l else bitAt (readM g n) l) else bitAt (readM g k) l) ∧
  (∀ (s : State) (g h : Group) (l r j q : Nat) (v : Word), CoresOk s → KeysOk (coreOf s g.core).rf → (octetOf g l).isSome →
    readRf (writeRf s g l r v) h j q = if h.core = g.core ∧ rfCell h j q = rfCell g l r then v else readRf s h j q) ∧
  (∀ (s : State) (g : Group) (l : Nat) (r : RegName),
    readPair s g l r = (readRegAt s g l r 1) ++ (readRegAt s g l r 0)) ∧
  (∀ (s : State) (g : Group) (l : Nat) (r : RegName), readReg s g l r = readRegAt s g l r 0 ∧
    (r.toNat < 96 → (∀ w, w ∈ g.pend → w.dst = .old (g.vwb + r.toNat) → bitAt w.lanes l = false) →
      readReg s g l r = readRf s g l (g.vwb + r.toNat)) ∧
    (∀ v lanes due ret rest more, r.toNat < 96 → g.pend = ⟨.old (g.vwb + r.toNat), lanes, (l, v) :: more, due, ret⟩ :: rest → bitAt lanes l = true →
      readReg s g l r = v.setWidth 32) ∧
    (96 ≤ r.toNat → readReg s g l r = readK g (r.toNat - 96)))

/-- R147 in its order, for every instruction with a word: unit-absent, privilege, illegal-operand, register-range, short-stall. The first
that fails is raised in every lane of the entry, and nothing else happens. R146, R272: which instructions the first two stop. R145: a
word that is no instruction raises illegal-opcode. R56, R154: a barrier number beyond the group's range is an illegal operand. R130, R383: a
conversion with ROUND = 2 is to draw with the SRCNT of this issue when its lanes issue again. -/
def Obligations.IssueChecks : Prop :=
  (∀ (i : Instr) (s : State) (g : Group) (e : Ent) (c : Cause), (encodeFields i).isSome = true → selected s = some (g, e) → DebugOff s →
    (i.wf = true → busy s g i e = false) →
    (if needsMatrix i = true ∧ 288 ≤ g.core then some 0x003
      else if kernelOnly i = true ∧ g.kernel = false then some 0x1C0
      else if i.wf = false ∨ barNumOk s g i = false then some 0x001
      else if (readsOf s g i ++ writesOf s g i).any (fun x => match x with
          | .v r => decide (g.budget ≤ r)
          | _ => false) = true then some 0x088
      else if schkOn s g = true ∧ tooEarly s g i e.mask = true then some 0x002
      else none) = some c →
    (i.wf = false ∨ drawsRandom s g i = false → exec i s = .next (trapped s g e c 0)) ∧
    (i.wf = true → drawsRandom s g i = true → exec i s = .next (settle
      (modGroup (raise s g.gid e.prio e.pc ⟨e.mask, c, e.pc, 0⟩) g.gid (fun h => srTrapped h e.pc e.mask)) g.team))) ∧
  (∀ S x t h a b, ∀ i, i ∈ matrixForms S x t h a b → needsMatrix i = true) ∧
  (∀ S h d a, ∀ i, i ∈ kernelForms S h d a → kernelOnly i = true) ∧
  (∀ (w : Word) (s : State) (g : Group) (e : Ent), selected s = some (g, e) → DebugOff s →
    exec (.illegalOpcodeWord w) s = .next (trapped s g e 0x000 0))

/-- R371 to R377, R384: taking a trap, once the fixed-latency writes have taken effect (R153) and the group's speculative loads are
discarded. With V = 0 the lanes end and LOST is set; a trap of the handler itself is routed; ACT = 2 ends the lanes; ACT = 3 sends them to
the trap PC, but not for the causes of R388; ACT = 1 starts the local handler at kernel level; ACT = 0 and a malformed entry post a
record and hold the lanes. -/
def Sys2Proof.Claims.TrapTaken : Prop :=
  ∀ (gid : Nat) (r : Raise) (s u : State) (g : Group) (act : Nat) (handler : DWord) (bad : Bool),
    u = dropAhead (applyDue s gid true) gid → groupOf u gid = some g → r.lanes ≠ 0 → r.lanes &&& ~~~g.live = 0 →
    let t := trapTenant u g
    let off := 0xD000 + 8 * t
    let v := (apWord u off).getLsbD 63
    let inHandler := match g.ltrap with
      | some l => r.lanes &&& ~~~l.lanes = 0
      | none => False
    let x := trapRead u t r.code
    let routed := fun (b : State) (nest badent : Bool) => ∃ w : State, takeTrap s gid r = w ∧ w = { b with
        groups := w.groups
        nextId := b.nextId + 1
        trapWait := b.trapWait ++ [⟨t, b.nextId, trapWords b g r nest badent⟩] } ∧
      ∃ h, groupOf w gid = some h ∧ h = { g with ents := h.ents } ∧
        ∀ l, bitAt r.lanes l = true → ∃ e, e ∈ h.ents ∧ bitAt e.mask l = true ∧ e.pc = r.tpc ∧ e.st = .held b.nextId
    trapEntry u t r.code = (act, handler, bad) →
    (v = false → takeTrap s gid r = endLanes (apSet u off (apWord u off ||| 0x4000000000000000)) gid r.lanes) ∧
    (v = true → inHandler → routed u true false) ∧
    (v = true → ¬inHandler → act = 2 → takeTrap s gid r = endLanes x gid r.lanes) ∧
    (v = true → ¬inHandler → act = 3 → (r.code.toNat < 0x080 ∨ 0x0BF < r.code.toNat) →
      ∃ (w : List Group) (h : Group), takeTrap s gid r = { x with groups := w } ∧ groupOf (takeTrap s gid r) gid = some h ∧
        h = { g with ents := h.ents, owes := h.owes } ∧ ∀ l, bitAt r.lanes l = true → standsAt h l r.tpc) ∧
    (v = true → ¬inHandler → act = 1 →
      ∃ (w : List Group) (h : Group) (ps : SMap Nat), takeTrap s gid r = { x with groups := w } ∧ groupOf (takeTrap s gid r) gid = some h ∧
        h = { g with ents := h.ents, owes := h.owes, xpc := r.tpc, xcause := r.code, xlmask := r.lanes, kernel := true, vwb := 0,
                     ltrap := some ⟨r.lanes, g.kernel, g.ctxid, g.vwb, g.srcnt, ps⟩ } ∧
        ∀ l, bitAt r.lanes l = true → standsAt h l handler) ∧
    (v = true → ¬inHandler → act = 0 ∨ (act = 3 ∧ 0x080 ≤ r.code.toNat ∧ r.code.toNat ≤ 0x0BF) → routed x false bad)

/-- R374: the words of a trap record, field by field. -/
def Sys2Proof.Claims.TrapRecordWords : Prop :=
  ∀ (s : State) (g : Group) (r : Raise) (nest badent : Bool) (t : Team), teamOf s g.team = some t → g.core < 304 → g.gslot < 1024 →
    g.path.length ≤ 8 → g.num < 16 → t.lin < 2 ^ 32 →
    ∃ w0 w4, trapWords s g r nest badent = [w0, r.tpc, r.lanes, r.xinfo, w4] ∧
      bitsOf w0 48 16 = g.ctxid.toNat ∧ bitsOf w0 39 9 = g.core ∧ bitsOf w0 29 10 = g.gslot ∧ bitsOf w0 20 9 = r.code.toNat ∧
      w0.getLsbD 19 = g.kernel ∧ w0.getLsbD 18 = nest ∧ w0.getLsbD 17 = badent ∧ bitsOf w0 0 17 = 0 ∧
      bitsOf w4 0 32 = t.lin ∧ bitsOf w4 32 4 = g.num ∧ bitsOf w4 36 4 = g.path.length ∧ bitsOf w4 40 24 = 0

/-- R371 to R377: taking a trap, and the words of its record. -/
def Obligations.TrapEntry : Prop := Sys2Proof.Claims.TrapTaken ∧ Sys2Proof.Claims.TrapRecordWords

/-- R278, R378: ERET. With no local trap open it raises eret-outside, and with XPC misaligned or XLMASK naming a live lane outside F
illegal-operand; otherwise level, context, VWB and SRCNT are restored, the lanes of XLMASK stand at XPC, where a break or a replay
at another PC concerns them no longer (R289), and the rest of F is held there. -/
def Obligations.TrapReturn : Prop :=
  ∀ (S : BitVec 3) (s : State) (g : Group) (e : Ent), Clear (.eret S) s g e →
    (g.ltrap = none → exec (.eret S) s = .next (trapped s g e 0x1C1 0)) ∧
    (∀ l, g.ltrap = some l → bitsOf g.xpc 0 2 ≠ 0 ∨ g.xlmask &&& g.live &&& ~~~l.lanes ≠ 0 →
      exec (.eret S) s = .next (trapped s g e 0x001 0)) ∧
    (∀ l, g.ltrap = some l → bitsOf g.xpc 0 2 = 0 → g.xlmask &&& g.live &&& ~~~l.lanes = 0 →
      ∃ (t : State) (h : Group), exec (.eret S) s = .next (settle t g.team) ∧ t = { s with groups := t.groups } ∧ groupOf t g.gid = some h ∧
        h = { leaveSkips g (g.xlmask &&& g.live &&& l.lanes) g.xpc with
          ents := h.ents, owes := h.owes, kernel := l.kernel, ctxid := l.ctx, vwb := l.vwb, srcnt := l.srcnt, ltrap := none, loop := [],
          loopStale := false } ∧
        (∀ j, bitAt (g.xlmask &&& g.live &&& l.lanes) j = true → standsAt h j g.xpc) ∧
        (∀ j, bitAt (l.lanes &&& g.live) j = true → bitAt g.xlmask j = false →
          ∃ x, x ∈ h.ents ∧ bitAt x.mask j = true ∧ x.pc = g.xpc ∧ x.st = .heldRet 0))

/-- R149 to R151: when a pending write takes effect. A fixed-latency write whose opportunity has come is made at the group's next
opportunity, and not before; behind a scoreboarded write to the same register it waits with it, a vector register only in the lanes of
both; and a scoreboarded write waits for its result. -/
def Obligations.PendingWrites : Prop :=
  ∀ (s : State) (g : Group), groupOf s g.gid = some g →
    let next : Group := { g with opp := g.opp + 1, ents := g.ents.map (fun e => { e with stall := e.stall - 1, st := (match e.st with
      | .deferred n w => .deferred (n - 1) w
      | x => x) }) }
    (∀ w n, g.pend = [w] → w.due = some n →
      (n ≤ g.opp + 1 → opportunity s g.gid = applyWrite (setGroup s { next with pend := [] }) g.gid w) ∧
      (g.opp + 1 < n → opportunity s g.gid = setGroup s next)) ∧
    (∀ w, g.pend = [w] → w.due = none → opportunity s g.gid = setGroup s next) ∧
    (∀ w v, g.pend = [w, v] → w.due = none → sameDst w v = true → v.lanes ≠ 0 → vecOf v.dst = none ∨ v.lanes &&& ~~~w.lanes = 0 →
      opportunity s g.gid = setGroup s next) ∧
    (∀ w v n k, g.pend = [w, v] → w.due = some n → v.due = some k → sameDst w v = true → k ≤ g.opp + 1 →
      (g.opp + 1 < n → v.lanes ≠ 0 → vecOf v.dst = none ∨ v.lanes &&& ~~~w.lanes = 0 → opportunity s g.gid = setGroup s next) ∧
      (n ≤ g.opp + 1 → opportunity s g.gid =
        applyWrite (applyWrite (setGroup s { next with pend := [] }) g.gid w) g.gid v)) ∧
    (∀ w v r k, g.pend = [w, v] → w.due = none → v.due = some k → k ≤ g.opp + 1 → w.dst = .v r → v.dst = .v r →
      v.lanes &&& w.lanes ≠ 0 → v.lanes &&& ~~~w.lanes ≠ 0 → opportunity s g.gid =
        applyWrite (setGroup s { next with pend := [w, { v with lanes := v.lanes &&& w.lanes }] }) g.gid
          { v with lanes := v.lanes &&& ~~~w.lanes }) ∧
    (∀ r m xs due tok, KeysOk g.k → ∀ n, r = Dst.k n → n ≠ 0 →
      ∃ h, groupOf (applyWrite s g.gid ⟨r, m, xs, due, tok⟩) g.gid = some h ∧
        readK h n = ((xs.headD (0, 0)).2).extractLsb' 0 32 ∧ ∀ k, k ≠ n → readK h k = readK g k)

/-- R424: nothing but the loss of power stops the machine. -/
def Obligations.OnlyPowerOffStops : Prop :=
  ∀ s : State, (s.powered = true → ∃ t, step s = .next t) ∧ (s.powered = false → step s = .fault .powerOff)

/-- The frame of the integer instructions (R167 to R173): nothing but the pending writes of the destination and the place of the entry's
lanes changes. -/
def Obligations.IntegerFrame : Prop :=
  ∀ (S : BitVec 3) (X : BitVec 1) (m : BitVec 8) (d a b : RegName) (i : Instr) (s t : State) (g : Group) (e : Ent),
    i ∈ intForms S X m d a b → Clear i s g e → exec i s = .next t → Frame i s t g

/-- R67, R70, R76: what stops an access. The checks on the address come first, a remote rank is refused, and the rows of the walk's table
apply to a leaf in their order, from top to bottom; non-resident stops all but LD.NR and the probes. -/
def Obligations.TranslationCauses : Prop :=
  (∀ va : DWord,
    (bitsOf va 62 2 = 3 → spaceCheck va = some 0x040) ∧
    (bitsOf va 62 2 = 1 → spaceCheck va = if bitsOf va 48 4 = 0 then none else some 0x041) ∧
    (bitsOf va 62 2 = 0 ∨ bitsOf va 62 2 = 2 → spaceCheck va = if bitsOf va 48 14 = 0 then none else some 0x041)) ∧
  (∀ (s : State) (ag : Agent) (ctx : BitVec 16) (kernel : Bool) (use : Use) (va : DWord) (n : Nat),
    (∀ c, spaceCheck va = some c → translate s ag ctx kernel use va n = .fault c) ∧
    (spaceCheck va = none → bitsOf va 62 2 = 1 → bitsOf va 52 10 ≠ (mapGet 0 s.lrank ctx.toNat).toNat →
      translate s ag ctx kernel use va n = .fault 0x048)) ∧
  (∀ (s : State) (tensor kernel : Bool) (use : Use) (pte : DWord) (level sh va : Nat) (ss : List Nat),
    let frame := bitsOf pte 12 36 * 4096
    let pa := frame + va % 2 ^ sh
    let out := leafCheck s tensor kernel use pte level sh va ss
    if frame % 2 ^ sh ≠ 0 ∨ physOk tensor pa = false then out = .fault 0x043
    else if use = .store ∧ pte.getLsbD 2 = false then out = .fault 0x044
    else if use = .fetch ∧ pte.getLsbD 3 = false then out = .fault 0x045
    else if kernel = false ∧ pte.getLsbD 4 = false then out = .fault 0x046
    else if pte.getLsbD 5 = true ∧ use ≠ .loadNr ∧ use ≠ .probe then out = .fault 0x047
    else ∃ x, out = .ok x ∧ x.leaf = pte ∧ x.level = level ∧ x.nonRes = pte.getLsbD 5 ∧ x.sectors = ss ∧
      (tensor = true → x.at_ = .ten pa) ∧
      (tensor = false → x.at_ = .ctl pa ∨ ∃ o, x.at_ = .ap o ∧ pa = ownPkg s * 2 ^ 33 + 0x1FFFE0000 + o ∧ o < 0x20000))
end

