-- ==== Sys2Proof/Laws/State.lean ====
section
/-! SUPPORT. What each update of State does to each field: one lemma per field and update. -/

namespace Sys2Proof.Machine

/-! ## setCore -/

@[simp] theorem setCore_ap (s : State) (n : Nat) (c : Core) : (setCore s n c).ap = s.ap := rfl
@[simp] theorem setCore_ctl (s : State) (n : Nat) (c : Core) : (setCore s n c).ctl = s.ctl := rfl
@[simp] theorem setCore_ctlPoison (s : State) (n : Nat) (c : Core) : (setCore s n c).ctlPoison = s.ctlPoison := rfl
@[simp] theorem setCore_ctlBad (s : State) (n : Nat) (c : Core) : (setCore s n c).ctlBad = s.ctlBad := rfl
@[simp] theorem setCore_ten (s : State) (n : Nat) (c : Core) : (setCore s n c).ten = s.ten := rfl
@[simp] theorem setCore_tenPoison (s : State) (n : Nat) (c : Core) : (setCore s n c).tenPoison = s.tenPoison := rfl
@[simp] theorem setCore_tenBad (s : State) (n : Nat) (c : Core) : (setCore s n c).tenBad = s.tenBad := rfl
@[simp] theorem setCore_ctxtab (s : State) (n : Nat) (c : Core) : (setCore s n c).ctxtab = s.ctxtab := rfl
@[simp] theorem setCore_lrank (s : State) (n : Nat) (c : Core) : (setCore s n c).lrank = s.lrank := rfl
@[simp] theorem setCore_schk (s : State) (n : Nat) (c : Core) : (setCore s n c).schk = s.schk := rfl
@[simp] theorem setCore_shadow (s : State) (n : Nat) (c : Core) : (setCore s n c).shadow = s.shadow := rfl
@[simp] theorem setCore_scope (s : State) (n : Nat) (c : Core) : (setCore s n c).scope = s.scope := rfl
@[simp] theorem setCore_dir (s : State) (n : Nat) (c : Core) : (setCore s n c).dir = s.dir := rfl
@[simp] theorem setCore_regions (s : State) (n : Nat) (c : Core) : (setCore s n c).regions = s.regions := rfl
@[simp] theorem setCore_hold (s : State) (n : Nat) (c : Core) : (setCore s n c).hold = s.hold := rfl
@[simp] theorem setCore_tHeld (s : State) (n : Nat) (c : Core) : (setCore s n c).tHeld = s.tHeld := rfl
@[simp] theorem setCore_lines (s : State) (n : Nat) (c : Core) : (setCore s n c).lines = s.lines := rfl
@[simp] theorem setCore_mirror (s : State) (n : Nat) (c : Core) : (setCore s n c).mirror = s.mirror := rfl
@[simp] theorem setCore_mirrorPoison (s : State) (n : Nat) (c : Core) : (setCore s n c).mirrorPoison = s.mirrorPoison := rfl
@[simp] theorem setCore_mirrorBad (s : State) (n : Nat) (c : Core) : (setCore s n c).mirrorBad = s.mirrorBad := rfl
@[simp] theorem setCore_dl (s : State) (n : Nat) (c : Core) : (setCore s n c).dl = s.dl := rfl
@[simp] theorem setCore_mirrorOwed (s : State) (n : Nat) (c : Core) : (setCore s n c).mirrorOwed = s.mirrorOwed := rfl
@[simp] theorem setCore_mirrorThen (s : State) (n : Nat) (c : Core) : (setCore s n c).mirrorThen = s.mirrorThen := rfl
@[simp] theorem setCore_devMade (s : State) (n : Nat) (c : Core) : (setCore s n c).devMade = s.devMade := rfl
@[simp] theorem setCore_l2 (s : State) (n : Nat) (c : Core) : (setCore s n c).l2 = s.l2 := rfl
@[simp] theorem setCore_arrived (s : State) (n : Nat) (c : Core) : (setCore s n c).arrived = s.arrived := rfl
@[simp] theorem setCore_icinvOwed (s : State) (n : Nat) (c : Core) : (setCore s n c).icinvOwed = s.icinvOwed := rfl
@[simp] theorem setCore_heldWrites (s : State) (n : Nat) (c : Core) : (setCore s n c).heldWrites = s.heldWrites := rfl
@[simp] theorem setCore_tileWrites (s : State) (n : Nat) (c : Core) : (setCore s n c).tileWrites = s.tileWrites := rfl
@[simp] theorem setCore_devWrites (s : State) (n : Nat) (c : Core) : (setCore s n c).devWrites = s.devWrites := rfl
@[simp] theorem setCore_tlb (s : State) (n : Nat) (c : Core) : (setCore s n c).tlb = s.tlb := rfl
@[simp] theorem setCore_rebuilt (s : State) (n : Nat) (c : Core) : (setCore s n c).rebuilt = s.rebuilt := rfl
@[simp] theorem setCore_teams (s : State) (n : Nat) (c : Core) : (setCore s n c).teams = s.teams := rfl
@[simp] theorem setCore_groups (s : State) (n : Nat) (c : Core) : (setCore s n c).groups = s.groups := rfl
@[simp] theorem setCore_ops (s : State) (n : Nat) (c : Core) : (setCore s n c).ops = s.ops := rfl
@[simp] theorem setCore_aops (s : State) (n : Nat) (c : Core) : (setCore s n c).aops = s.aops := rfl
@[simp] theorem setCore_wqs (s : State) (n : Nat) (c : Core) : (setCore s n c).wqs = s.wqs := rfl
@[simp] theorem setCore_grids (s : State) (n : Nat) (c : Core) : (setCore s n c).grids = s.grids := rfl
@[simp] theorem setCore_lastWin (s : State) (n : Nat) (c : Core) : (setCore s n c).lastWin = s.lastWin := rfl
@[simp] theorem setCore_binds (s : State) (n : Nat) (c : Core) : (setCore s n c).binds = s.binds := rfl
@[simp] theorem setCore_early (s : State) (n : Nat) (c : Core) : (setCore s n c).early = s.early := rfl
@[simp] theorem setCore_retries (s : State) (n : Nat) (c : Core) : (setCore s n c).retries = s.retries := rfl
@[simp] theorem setCore_collSent (s : State) (n : Nat) (c : Core) : (setCore s n c).collSent = s.collSent := rfl
@[simp] theorem setCore_pinsAway (s : State) (n : Nat) (c : Core) : (setCore s n c).pinsAway = s.pinsAway := rfl
@[simp] theorem setCore_ports (s : State) (n : Nat) (c : Core) : (setCore s n c).ports = s.ports := rfl
@[simp] theorem setCore_out (s : State) (n : Nat) (c : Core) : (setCore s n c).out = s.out := rfl
@[simp] theorem setCore_waitOut (s : State) (n : Nat) (c : Core) : (setCore s n c).waitOut = s.waitOut := rfl
@[simp] theorem setCore_queue (s : State) (n : Nat) (c : Core) : (setCore s n c).queue = s.queue := rfl
@[simp] theorem setCore_deficit (s : State) (n : Nat) (c : Core) : (setCore s n c).deficit = s.deficit := rfl
@[simp] theorem setCore_served (s : State) (n : Nat) (c : Core) : (setCore s n c).served = s.served := rfl
@[simp] theorem setCore_trapWait (s : State) (n : Nat) (c : Core) : (setCore s n c).trapWait = s.trapWait := rfl
@[simp] theorem setCore_openRecs (s : State) (n : Nat) (c : Core) : (setCore s n c).openRecs = s.openRecs := rfl
@[simp] theorem setCore_xresBusy (s : State) (n : Nat) (c : Core) : (setCore s n c).xresBusy = s.xresBusy := rfl
@[simp] theorem setCore_saved (s : State) (n : Nat) (c : Core) : (setCore s n c).saved = s.saved := rfl
@[simp] theorem setCore_preempts (s : State) (n : Nat) (c : Core) : (setCore s n c).preempts = s.preempts := rfl
@[simp] theorem setCore_kills (s : State) (n : Nat) (c : Core) : (setCore s n c).kills = s.kills := rfl
@[simp] theorem setCore_owned (s : State) (n : Nat) (c : Core) : (setCore s n c).owned = s.owned := rfl
@[simp] theorem setCore_images (s : State) (n : Nat) (c : Core) : (setCore s n c).images = s.images := rfl
@[simp] theorem setCore_entered (s : State) (n : Nat) (c : Core) : (setCore s n c).entered = s.entered := rfl
@[simp] theorem setCore_powered (s : State) (n : Nat) (c : Core) : (setCore s n c).powered = s.powered := rfl
@[simp] theorem setCore_tripped (s : State) (n : Nat) (c : Core) : (setCore s n c).tripped = s.tripped := rfl
@[simp] theorem setCore_lost (s : State) (n : Nat) (c : Core) : (setCore s n c).lost = s.lost := rfl
@[simp] theorem setCore_shadowBad (s : State) (n : Nat) (c : Core) : (setCore s n c).shadowBad = s.shadowBad := rfl
@[simp] theorem setCore_hdieDelay (s : State) (n : Nat) (c : Core) : (setCore s n c).hdieDelay = s.hdieDelay := rfl
@[simp] theorem setCore_nextId (s : State) (n : Nat) (c : Core) : (setCore s n c).nextId = s.nextId := rfl
@[simp] theorem setCore_sel (s : State) (n : Nat) (c : Core) : (setCore s n c).sel = s.sel := rfl
@[simp] theorem setCore_turn (s : State) (n : Nat) (c : Core) : (setCore s n c).turn = s.turn := rfl
@[simp] theorem setCore_agenda (s : State) (n : Nat) (c : Core) : (setCore s n c).agenda = s.agenda := rfl

/-! ## modCore -/

@[simp] theorem modCore_ap (s : State) (n : Nat) (f : Core → Core) : (modCore s n f).ap = s.ap := rfl
@[simp] theorem modCore_ctl (s : State) (n : Nat) (f : Core → Core) : (modCore s n f).ctl = s.ctl := rfl
@[simp] theorem modCore_ctlPoison (s : State) (n : Nat) (f : Core → Core) : (modCore s n f).ctlPoison = s.ctlPoison := rfl
@[simp] theorem modCore_ctlBad (s : State) (n : Nat) (f : Core → Core) : (modCore s n f).ctlBad = s.ctlBad := rfl
@[simp] theorem modCore_ten (s : State) (n : Nat) (f : Core → Core) : (modCore s n f).ten = s.ten := rfl
@[simp] theorem modCore_tenPoison (s : State) (n : Nat) (f : Core → Core) : (modCore s n f).tenPoison = s.tenPoison := rfl
@[simp] theorem modCore_tenBad (s : State) (n : Nat) (f : Core → Core) : (modCore s n f).tenBad = s.tenBad := rfl
@[simp] theorem modCore_ctxtab (s : State) (n : Nat) (f : Core → Core) : (modCore s n f).ctxtab = s.ctxtab := rfl
@[simp] theorem modCore_lrank (s : State) (n : Nat) (f : Core → Core) : (modCore s n f).lrank = s.lrank := rfl
@[simp] theorem modCore_schk (s : State) (n : Nat) (f : Core → Core) : (modCore s n f).schk = s.schk := rfl
@[simp] theorem modCore_shadow (s : State) (n : Nat) (f : Core → Core) : (modCore s n f).shadow = s.shadow := rfl
@[simp] theorem modCore_scope (s : State) (n : Nat) (f : Core → Core) : (modCore s n f).scope = s.scope := rfl
@[simp] theorem modCore_dir (s : State) (n : Nat) (f : Core → Core) : (modCore s n f).dir = s.dir := rfl
@[simp] theorem modCore_regions (s : State) (n : Nat) (f : Core → Core) : (modCore s n f).regions = s.regions := rfl
@[simp] theorem modCore_hold (s : State) (n : Nat) (f : Core → Core) : (modCore s n f).hold = s.hold := rfl
@[simp] theorem modCore_tHeld (s : State) (n : Nat) (f : Core → Core) : (modCore s n f).tHeld = s.tHeld := rfl
@[simp] theorem modCore_lines (s : State) (n : Nat) (f : Core → Core) : (modCore s n f).lines = s.lines := rfl
@[simp] theorem modCore_mirror (s : State) (n : Nat) (f : Core → Core) : (modCore s n f).mirror = s.mirror := rfl
@[simp] theorem modCore_mirrorPoison (s : State) (n : Nat) (f : Core → Core) : (modCore s n f).mirrorPoison = s.mirrorPoison := rfl
@[simp] theorem modCore_mirrorBad (s : State) (n : Nat) (f : Core → Core) : (modCore s n f).mirrorBad = s.mirrorBad := rfl
@[simp] theorem modCore_dl (s : State) (n : Nat) (f : Core → Core) : (modCore s n f).dl = s.dl := rfl
@[simp] theorem modCore_mirrorOwed (s : State) (n : Nat) (f : Core → Core) : (modCore s n f).mirrorOwed = s.mirrorOwed := rfl
@[simp] theorem modCore_mirrorThen (s : State) (n : Nat) (f : Core → Core) : (modCore s n f).mirrorThen = s.mirrorThen := rfl
@[simp] theorem modCore_devMade (s : State) (n : Nat) (f : Core → Core) : (modCore s n f).devMade = s.devMade := rfl
@[simp] theorem modCore_l2 (s : State) (n : Nat) (f : Core → Core) : (modCore s n f).l2 = s.l2 := rfl
@[simp] theorem modCore_arrived (s : State) (n : Nat) (f : Core → Core) : (modCore s n f).arrived = s.arrived := rfl
@[simp] theorem modCore_icinvOwed (s : State) (n : Nat) (f : Core → Core) : (modCore s n f).icinvOwed = s.icinvOwed := rfl
@[simp] theorem modCore_heldWrites (s : State) (n : Nat) (f : Core → Core) : (modCore s n f).heldWrites = s.heldWrites := rfl
@[simp] theorem modCore_tileWrites (s : State) (n : Nat) (f : Core → Core) : (modCore s n f).tileWrites = s.tileWrites := rfl
@[simp] theorem modCore_devWrites (s : State) (n : Nat) (f : Core → Core) : (modCore s n f).devWrites = s.devWrites := rfl
@[simp] theorem modCore_tlb (s : State) (n : Nat) (f : Core → Core) : (modCore s n f).tlb = s.tlb := rfl
@[simp] theorem modCore_rebuilt (s : State) (n : Nat) (f : Core → Core) : (modCore s n f).rebuilt = s.rebuilt := rfl
@[simp] theorem modCore_teams (s : State) (n : Nat) (f : Core → Core) : (modCore s n f).teams = s.teams := rfl
@[simp] theorem modCore_groups (s : State) (n : Nat) (f : Core → Core) : (modCore s n f).groups = s.groups := rfl
@[simp] theorem modCore_ops (s : State) (n : Nat) (f : Core → Core) : (modCore s n f).ops = s.ops := rfl
@[simp] theorem modCore_aops (s : State) (n : Nat) (f : Core → Core) : (modCore s n f).aops = s.aops := rfl
@[simp] theorem modCore_wqs (s : State) (n : Nat) (f : Core → Core) : (modCore s n f).wqs = s.wqs := rfl
@[simp] theorem modCore_grids (s : State) (n : Nat) (f : Core → Core) : (modCore s n f).grids = s.grids := rfl
@[simp] theorem modCore_lastWin (s : State) (n : Nat) (f : Core → Core) : (modCore s n f).lastWin = s.lastWin := rfl
@[simp] theorem modCore_binds (s : State) (n : Nat) (f : Core → Core) : (modCore s n f).binds = s.binds := rfl
@[simp] theorem modCore_early (s : State) (n : Nat) (f : Core → Core) : (modCore s n f).early = s.early := rfl
@[simp] theorem modCore_retries (s : State) (n : Nat) (f : Core → Core) : (modCore s n f).retries = s.retries := rfl
@[simp] theorem modCore_collSent (s : State) (n : Nat) (f : Core → Core) : (modCore s n f).collSent = s.collSent := rfl
@[simp] theorem modCore_pinsAway (s : State) (n : Nat) (f : Core → Core) : (modCore s n f).pinsAway = s.pinsAway := rfl
@[simp] theorem modCore_ports (s : State) (n : Nat) (f : Core → Core) : (modCore s n f).ports = s.ports := rfl
@[simp] theorem modCore_out (s : State) (n : Nat) (f : Core → Core) : (modCore s n f).out = s.out := rfl
@[simp] theorem modCore_waitOut (s : State) (n : Nat) (f : Core → Core) : (modCore s n f).waitOut = s.waitOut := rfl
@[simp] theorem modCore_queue (s : State) (n : Nat) (f : Core → Core) : (modCore s n f).queue = s.queue := rfl
@[simp] theorem modCore_deficit (s : State) (n : Nat) (f : Core → Core) : (modCore s n f).deficit = s.deficit := rfl
@[simp] theorem modCore_served (s : State) (n : Nat) (f : Core → Core) : (modCore s n f).served = s.served := rfl
@[simp] theorem modCore_trapWait (s : State) (n : Nat) (f : Core → Core) : (modCore s n f).trapWait = s.trapWait := rfl
@[simp] theorem modCore_openRecs (s : State) (n : Nat) (f : Core → Core) : (modCore s n f).openRecs = s.openRecs := rfl
@[simp] theorem modCore_xresBusy (s : State) (n : Nat) (f : Core → Core) : (modCore s n f).xresBusy = s.xresBusy := rfl
@[simp] theorem modCore_saved (s : State) (n : Nat) (f : Core → Core) : (modCore s n f).saved = s.saved := rfl
@[simp] theorem modCore_preempts (s : State) (n : Nat) (f : Core → Core) : (modCore s n f).preempts = s.preempts := rfl
@[simp] theorem modCore_kills (s : State) (n : Nat) (f : Core → Core) : (modCore s n f).kills = s.kills := rfl
@[simp] theorem modCore_owned (s : State) (n : Nat) (f : Core → Core) : (modCore s n f).owned = s.owned := rfl
@[simp] theorem modCore_images (s : State) (n : Nat) (f : Core → Core) : (modCore s n f).images = s.images := rfl
@[simp] theorem modCore_entered (s : State) (n : Nat) (f : Core → Core) : (modCore s n f).entered = s.entered := rfl
@[simp] theorem modCore_powered (s : State) (n : Nat) (f : Core → Core) : (modCore s n f).powered = s.powered := rfl
@[simp] theorem modCore_tripped (s : State) (n : Nat) (f : Core → Core) : (modCore s n f).tripped = s.tripped := rfl
@[simp] theorem modCore_lost (s : State) (n : Nat) (f : Core → Core) : (modCore s n f).lost = s.lost := rfl
@[simp] theorem modCore_shadowBad (s : State) (n : Nat) (f : Core → Core) : (modCore s n f).shadowBad = s.shadowBad := rfl
@[simp] theorem modCore_hdieDelay (s : State) (n : Nat) (f : Core → Core) : (modCore s n f).hdieDelay = s.hdieDelay := rfl
@[simp] theorem modCore_nextId (s : State) (n : Nat) (f : Core → Core) : (modCore s n f).nextId = s.nextId := rfl
@[simp] theorem modCore_sel (s : State) (n : Nat) (f : Core → Core) : (modCore s n f).sel = s.sel := rfl
@[simp] theorem modCore_turn (s : State) (n : Nat) (f : Core → Core) : (modCore s n f).turn = s.turn := rfl
@[simp] theorem modCore_agenda (s : State) (n : Nat) (f : Core → Core) : (modCore s n f).agenda = s.agenda := rfl

/-! ## setGroup -/

@[simp] theorem setGroup_ap (s : State) (g : Group) : (setGroup s g).ap = s.ap := rfl
@[simp] theorem setGroup_ctl (s : State) (g : Group) : (setGroup s g).ctl = s.ctl := rfl
@[simp] theorem setGroup_ctlPoison (s : State) (g : Group) : (setGroup s g).ctlPoison = s.ctlPoison := rfl
@[simp] theorem setGroup_ctlBad (s : State) (g : Group) : (setGroup s g).ctlBad = s.ctlBad := rfl
@[simp] theorem setGroup_ten (s : State) (g : Group) : (setGroup s g).ten = s.ten := rfl
@[simp] theorem setGroup_tenPoison (s : State) (g : Group) : (setGroup s g).tenPoison = s.tenPoison := rfl
@[simp] theorem setGroup_tenBad (s : State) (g : Group) : (setGroup s g).tenBad = s.tenBad := rfl
@[simp] theorem setGroup_ctxtab (s : State) (g : Group) : (setGroup s g).ctxtab = s.ctxtab := rfl
@[simp] theorem setGroup_lrank (s : State) (g : Group) : (setGroup s g).lrank = s.lrank := rfl
@[simp] theorem setGroup_schk (s : State) (g : Group) : (setGroup s g).schk = s.schk := rfl
@[simp] theorem setGroup_shadow (s : State) (g : Group) : (setGroup s g).shadow = s.shadow := rfl
@[simp] theorem setGroup_scope (s : State) (g : Group) : (setGroup s g).scope = s.scope := rfl
@[simp] theorem setGroup_dir (s : State) (g : Group) : (setGroup s g).dir = s.dir := rfl
@[simp] theorem setGroup_regions (s : State) (g : Group) : (setGroup s g).regions = s.regions := rfl
@[simp] theorem setGroup_hold (s : State) (g : Group) : (setGroup s g).hold = s.hold := rfl
@[simp] theorem setGroup_tHeld (s : State) (g : Group) : (setGroup s g).tHeld = s.tHeld := rfl
@[simp] theorem setGroup_lines (s : State) (g : Group) : (setGroup s g).lines = s.lines := rfl
@[simp] theorem setGroup_mirror (s : State) (g : Group) : (setGroup s g).mirror = s.mirror := rfl
@[simp] theorem setGroup_mirrorPoison (s : State) (g : Group) : (setGroup s g).mirrorPoison = s.mirrorPoison := rfl
@[simp] theorem setGroup_mirrorBad (s : State) (g : Group) : (setGroup s g).mirrorBad = s.mirrorBad := rfl
@[simp] theorem setGroup_dl (s : State) (g : Group) : (setGroup s g).dl = s.dl := rfl
@[simp] theorem setGroup_mirrorOwed (s : State) (g : Group) : (setGroup s g).mirrorOwed = s.mirrorOwed := rfl
@[simp] theorem setGroup_mirrorThen (s : State) (g : Group) : (setGroup s g).mirrorThen = s.mirrorThen := rfl
@[simp] theorem setGroup_devMade (s : State) (g : Group) : (setGroup s g).devMade = s.devMade := rfl
@[simp] theorem setGroup_l2 (s : State) (g : Group) : (setGroup s g).l2 = s.l2 := rfl
@[simp] theorem setGroup_arrived (s : State) (g : Group) : (setGroup s g).arrived = s.arrived := rfl
@[simp] theorem setGroup_icinvOwed (s : State) (g : Group) : (setGroup s g).icinvOwed = s.icinvOwed := rfl
@[simp] theorem setGroup_heldWrites (s : State) (g : Group) : (setGroup s g).heldWrites = s.heldWrites := rfl
@[simp] theorem setGroup_tileWrites (s : State) (g : Group) : (setGroup s g).tileWrites = s.tileWrites := rfl
@[simp] theorem setGroup_devWrites (s : State) (g : Group) : (setGroup s g).devWrites = s.devWrites := rfl
@[simp] theorem setGroup_tlb (s : State) (g : Group) : (setGroup s g).tlb = s.tlb := rfl
@[simp] theorem setGroup_rebuilt (s : State) (g : Group) : (setGroup s g).rebuilt = s.rebuilt := rfl
@[simp] theorem setGroup_cores (s : State) (g : Group) : (setGroup s g).cores = s.cores := rfl
@[simp] theorem setGroup_teams (s : State) (g : Group) : (setGroup s g).teams = s.teams := rfl
@[simp] theorem setGroup_ops (s : State) (g : Group) : (setGroup s g).ops = s.ops := rfl
@[simp] theorem setGroup_aops (s : State) (g : Group) : (setGroup s g).aops = s.aops := rfl
@[simp] theorem setGroup_wqs (s : State) (g : Group) : (setGroup s g).wqs = s.wqs := rfl
@[simp] theorem setGroup_grids (s : State) (g : Group) : (setGroup s g).grids = s.grids := rfl
@[simp] theorem setGroup_lastWin (s : State) (g : Group) : (setGroup s g).lastWin = s.lastWin := rfl
@[simp] theorem setGroup_binds (s : State) (g : Group) : (setGroup s g).binds = s.binds := rfl
@[simp] theorem setGroup_early (s : State) (g : Group) : (setGroup s g).early = s.early := rfl
@[simp] theorem setGroup_retries (s : State) (g : Group) : (setGroup s g).retries = s.retries := rfl
@[simp] theorem setGroup_collSent (s : State) (g : Group) : (setGroup s g).collSent = s.collSent := rfl
@[simp] theorem setGroup_pinsAway (s : State) (g : Group) : (setGroup s g).pinsAway = s.pinsAway := rfl
@[simp] theorem setGroup_ports (s : State) (g : Group) : (setGroup s g).ports = s.ports := rfl
@[simp] theorem setGroup_out (s : State) (g : Group) : (setGroup s g).out = s.out := rfl
@[simp] theorem setGroup_waitOut (s : State) (g : Group) : (setGroup s g).waitOut = s.waitOut := rfl
@[simp] theorem setGroup_queue (s : State) (g : Group) : (setGroup s g).queue = s.queue := rfl
@[simp] theorem setGroup_deficit (s : State) (g : Group) : (setGroup s g).deficit = s.deficit := rfl
@[simp] theorem setGroup_served (s : State) (g : Group) : (setGroup s g).served = s.served := rfl
@[simp] theorem setGroup_trapWait (s : State) (g : Group) : (setGroup s g).trapWait = s.trapWait := rfl
@[simp] theorem setGroup_openRecs (s : State) (g : Group) : (setGroup s g).openRecs = s.openRecs := rfl
@[simp] theorem setGroup_xresBusy (s : State) (g : Group) : (setGroup s g).xresBusy = s.xresBusy := rfl
@[simp] theorem setGroup_saved (s : State) (g : Group) : (setGroup s g).saved = s.saved := rfl
@[simp] theorem setGroup_preempts (s : State) (g : Group) : (setGroup s g).preempts = s.preempts := rfl
@[simp] theorem setGroup_kills (s : State) (g : Group) : (setGroup s g).kills = s.kills := rfl
@[simp] theorem setGroup_owned (s : State) (g : Group) : (setGroup s g).owned = s.owned := rfl
@[simp] theorem setGroup_images (s : State) (g : Group) : (setGroup s g).images = s.images := rfl
@[simp] theorem setGroup_entered (s : State) (g : Group) : (setGroup s g).entered = s.entered := rfl
@[simp] theorem setGroup_powered (s : State) (g : Group) : (setGroup s g).powered = s.powered := rfl
@[simp] theorem setGroup_tripped (s : State) (g : Group) : (setGroup s g).tripped = s.tripped := rfl
@[simp] theorem setGroup_lost (s : State) (g : Group) : (setGroup s g).lost = s.lost := rfl
@[simp] theorem setGroup_shadowBad (s : State) (g : Group) : (setGroup s g).shadowBad = s.shadowBad := rfl
@[simp] theorem setGroup_hdieDelay (s : State) (g : Group) : (setGroup s g).hdieDelay = s.hdieDelay := rfl
@[simp] theorem setGroup_nextId (s : State) (g : Group) : (setGroup s g).nextId = s.nextId := rfl
@[simp] theorem setGroup_sel (s : State) (g : Group) : (setGroup s g).sel = s.sel := rfl
@[simp] theorem setGroup_turn (s : State) (g : Group) : (setGroup s g).turn = s.turn := rfl
@[simp] theorem setGroup_agenda (s : State) (g : Group) : (setGroup s g).agenda = s.agenda := rfl

/-! ## setAop -/

@[simp] theorem setAop_ap (s : State) (o : AOp) : (setAop s o).ap = s.ap := rfl
@[simp] theorem setAop_ctl (s : State) (o : AOp) : (setAop s o).ctl = s.ctl := rfl
@[simp] theorem setAop_ctlPoison (s : State) (o : AOp) : (setAop s o).ctlPoison = s.ctlPoison := rfl
@[simp] theorem setAop_ctlBad (s : State) (o : AOp) : (setAop s o).ctlBad = s.ctlBad := rfl
@[simp] theorem setAop_ten (s : State) (o : AOp) : (setAop s o).ten = s.ten := rfl
@[simp] theorem setAop_tenPoison (s : State) (o : AOp) : (setAop s o).tenPoison = s.tenPoison := rfl
@[simp] theorem setAop_tenBad (s : State) (o : AOp) : (setAop s o).tenBad = s.tenBad := rfl
@[simp] theorem setAop_ctxtab (s : State) (o : AOp) : (setAop s o).ctxtab = s.ctxtab := rfl
@[simp] theorem setAop_lrank (s : State) (o : AOp) : (setAop s o).lrank = s.lrank := rfl
@[simp] theorem setAop_schk (s : State) (o : AOp) : (setAop s o).schk = s.schk := rfl
@[simp] theorem setAop_shadow (s : State) (o : AOp) : (setAop s o).shadow = s.shadow := rfl
@[simp] theorem setAop_scope (s : State) (o : AOp) : (setAop s o).scope = s.scope := rfl
@[simp] theorem setAop_dir (s : State) (o : AOp) : (setAop s o).dir = s.dir := rfl
@[simp] theorem setAop_regions (s : State) (o : AOp) : (setAop s o).regions = s.regions := rfl
@[simp] theorem setAop_hold (s : State) (o : AOp) : (setAop s o).hold = s.hold := rfl
@[simp] theorem setAop_tHeld (s : State) (o : AOp) : (setAop s o).tHeld = s.tHeld := rfl
@[simp] theorem setAop_lines (s : State) (o : AOp) : (setAop s o).lines = s.lines := rfl
@[simp] theorem setAop_mirror (s : State) (o : AOp) : (setAop s o).mirror = s.mirror := rfl
@[simp] theorem setAop_mirrorPoison (s : State) (o : AOp) : (setAop s o).mirrorPoison = s.mirrorPoison := rfl
@[simp] theorem setAop_mirrorBad (s : State) (o : AOp) : (setAop s o).mirrorBad = s.mirrorBad := rfl
@[simp] theorem setAop_dl (s : State) (o : AOp) : (setAop s o).dl = s.dl := rfl
@[simp] theorem setAop_mirrorOwed (s : State) (o : AOp) : (setAop s o).mirrorOwed = s.mirrorOwed := rfl
@[simp] theorem setAop_mirrorThen (s : State) (o : AOp) : (setAop s o).mirrorThen = s.mirrorThen := rfl
@[simp] theorem setAop_devMade (s : State) (o : AOp) : (setAop s o).devMade = s.devMade := rfl
@[simp] theorem setAop_l2 (s : State) (o : AOp) : (setAop s o).l2 = s.l2 := rfl
@[simp] theorem setAop_arrived (s : State) (o : AOp) : (setAop s o).arrived = s.arrived := rfl
@[simp] theorem setAop_icinvOwed (s : State) (o : AOp) : (setAop s o).icinvOwed = s.icinvOwed := rfl
@[simp] theorem setAop_heldWrites (s : State) (o : AOp) : (setAop s o).heldWrites = s.heldWrites := rfl
@[simp] theorem setAop_tileWrites (s : State) (o : AOp) : (setAop s o).tileWrites = s.tileWrites := rfl
@[simp] theorem setAop_devWrites (s : State) (o : AOp) : (setAop s o).devWrites = s.devWrites := rfl
@[simp] theorem setAop_tlb (s : State) (o : AOp) : (setAop s o).tlb = s.tlb := rfl
@[simp] theorem setAop_rebuilt (s : State) (o : AOp) : (setAop s o).rebuilt = s.rebuilt := rfl
@[simp] theorem setAop_cores (s : State) (o : AOp) : (setAop s o).cores = s.cores := rfl
@[simp] theorem setAop_teams (s : State) (o : AOp) : (setAop s o).teams = s.teams := rfl
@[simp] theorem setAop_groups (s : State) (o : AOp) : (setAop s o).groups = s.groups := rfl
@[simp] theorem setAop_ops (s : State) (o : AOp) : (setAop s o).ops = s.ops := rfl
@[simp] theorem setAop_wqs (s : State) (o : AOp) : (setAop s o).wqs = s.wqs := rfl
@[simp] theorem setAop_grids (s : State) (o : AOp) : (setAop s o).grids = s.grids := rfl
@[simp] theorem setAop_lastWin (s : State) (o : AOp) : (setAop s o).lastWin = s.lastWin := rfl
@[simp] theorem setAop_binds (s : State) (o : AOp) : (setAop s o).binds = s.binds := rfl
@[simp] theorem setAop_early (s : State) (o : AOp) : (setAop s o).early = s.early := rfl
@[simp] theorem setAop_retries (s : State) (o : AOp) : (setAop s o).retries = s.retries := rfl
@[simp] theorem setAop_collSent (s : State) (o : AOp) : (setAop s o).collSent = s.collSent := rfl
@[simp] theorem setAop_pinsAway (s : State) (o : AOp) : (setAop s o).pinsAway = s.pinsAway := rfl
@[simp] theorem setAop_ports (s : State) (o : AOp) : (setAop s o).ports = s.ports := rfl
@[simp] theorem setAop_out (s : State) (o : AOp) : (setAop s o).out = s.out := rfl
@[simp] theorem setAop_waitOut (s : State) (o : AOp) : (setAop s o).waitOut = s.waitOut := rfl
@[simp] theorem setAop_queue (s : State) (o : AOp) : (setAop s o).queue = s.queue := rfl
@[simp] theorem setAop_deficit (s : State) (o : AOp) : (setAop s o).deficit = s.deficit := rfl
@[simp] theorem setAop_served (s : State) (o : AOp) : (setAop s o).served = s.served := rfl
@[simp] theorem setAop_trapWait (s : State) (o : AOp) : (setAop s o).trapWait = s.trapWait := rfl
@[simp] theorem setAop_openRecs (s : State) (o : AOp) : (setAop s o).openRecs = s.openRecs := rfl
@[simp] theorem setAop_xresBusy (s : State) (o : AOp) : (setAop s o).xresBusy = s.xresBusy := rfl
@[simp] theorem setAop_saved (s : State) (o : AOp) : (setAop s o).saved = s.saved := rfl
@[simp] theorem setAop_preempts (s : State) (o : AOp) : (setAop s o).preempts = s.preempts := rfl
@[simp] theorem setAop_kills (s : State) (o : AOp) : (setAop s o).kills = s.kills := rfl
@[simp] theorem setAop_owned (s : State) (o : AOp) : (setAop s o).owned = s.owned := rfl
@[simp] theorem setAop_images (s : State) (o : AOp) : (setAop s o).images = s.images := rfl
@[simp] theorem setAop_entered (s : State) (o : AOp) : (setAop s o).entered = s.entered := rfl
@[simp] theorem setAop_powered (s : State) (o : AOp) : (setAop s o).powered = s.powered := rfl
@[simp] theorem setAop_tripped (s : State) (o : AOp) : (setAop s o).tripped = s.tripped := rfl
@[simp] theorem setAop_lost (s : State) (o : AOp) : (setAop s o).lost = s.lost := rfl
@[simp] theorem setAop_shadowBad (s : State) (o : AOp) : (setAop s o).shadowBad = s.shadowBad := rfl
@[simp] theorem setAop_hdieDelay (s : State) (o : AOp) : (setAop s o).hdieDelay = s.hdieDelay := rfl
@[simp] theorem setAop_nextId (s : State) (o : AOp) : (setAop s o).nextId = s.nextId := rfl
@[simp] theorem setAop_sel (s : State) (o : AOp) : (setAop s o).sel = s.sel := rfl
@[simp] theorem setAop_turn (s : State) (o : AOp) : (setAop s o).turn = s.turn := rfl
@[simp] theorem setAop_agenda (s : State) (o : AOp) : (setAop s o).agenda = s.agenda := rfl

/-! ## setOp -/

@[simp] theorem setOp_ap (s : State) (o : MemOp) : (setOp s o).ap = s.ap := rfl
@[simp] theorem setOp_ctl (s : State) (o : MemOp) : (setOp s o).ctl = s.ctl := rfl
@[simp] theorem setOp_ctlPoison (s : State) (o : MemOp) : (setOp s o).ctlPoison = s.ctlPoison := rfl
@[simp] theorem setOp_ctlBad (s : State) (o : MemOp) : (setOp s o).ctlBad = s.ctlBad := rfl
@[simp] theorem setOp_ten (s : State) (o : MemOp) : (setOp s o).ten = s.ten := rfl
@[simp] theorem setOp_tenPoison (s : State) (o : MemOp) : (setOp s o).tenPoison = s.tenPoison := rfl
@[simp] theorem setOp_tenBad (s : State) (o : MemOp) : (setOp s o).tenBad = s.tenBad := rfl
@[simp] theorem setOp_ctxtab (s : State) (o : MemOp) : (setOp s o).ctxtab = s.ctxtab := rfl
@[simp] theorem setOp_lrank (s : State) (o : MemOp) : (setOp s o).lrank = s.lrank := rfl
@[simp] theorem setOp_schk (s : State) (o : MemOp) : (setOp s o).schk = s.schk := rfl
@[simp] theorem setOp_shadow (s : State) (o : MemOp) : (setOp s o).shadow = s.shadow := rfl
@[simp] theorem setOp_scope (s : State) (o : MemOp) : (setOp s o).scope = s.scope := rfl
@[simp] theorem setOp_dir (s : State) (o : MemOp) : (setOp s o).dir = s.dir := rfl
@[simp] theorem setOp_regions (s : State) (o : MemOp) : (setOp s o).regions = s.regions := rfl
@[simp] theorem setOp_hold (s : State) (o : MemOp) : (setOp s o).hold = s.hold := rfl
@[simp] theorem setOp_tHeld (s : State) (o : MemOp) : (setOp s o).tHeld = s.tHeld := rfl
@[simp] theorem setOp_lines (s : State) (o : MemOp) : (setOp s o).lines = s.lines := rfl
@[simp] theorem setOp_mirror (s : State) (o : MemOp) : (setOp s o).mirror = s.mirror := rfl
@[simp] theorem setOp_mirrorPoison (s : State) (o : MemOp) : (setOp s o).mirrorPoison = s.mirrorPoison := rfl
@[simp] theorem setOp_mirrorBad (s : State) (o : MemOp) : (setOp s o).mirrorBad = s.mirrorBad := rfl
@[simp] theorem setOp_dl (s : State) (o : MemOp) : (setOp s o).dl = s.dl := rfl
@[simp] theorem setOp_mirrorOwed (s : State) (o : MemOp) : (setOp s o).mirrorOwed = s.mirrorOwed := rfl
@[simp] theorem setOp_mirrorThen (s : State) (o : MemOp) : (setOp s o).mirrorThen = s.mirrorThen := rfl
@[simp] theorem setOp_devMade (s : State) (o : MemOp) : (setOp s o).devMade = s.devMade := rfl
@[simp] theorem setOp_l2 (s : State) (o : MemOp) : (setOp s o).l2 = s.l2 := rfl
@[simp] theorem setOp_arrived (s : State) (o : MemOp) : (setOp s o).arrived = s.arrived := rfl
@[simp] theorem setOp_icinvOwed (s : State) (o : MemOp) : (setOp s o).icinvOwed = s.icinvOwed := rfl
@[simp] theorem setOp_heldWrites (s : State) (o : MemOp) : (setOp s o).heldWrites = s.heldWrites := rfl
@[simp] theorem setOp_tileWrites (s : State) (o : MemOp) : (setOp s o).tileWrites = s.tileWrites := rfl
@[simp] theorem setOp_devWrites (s : State) (o : MemOp) : (setOp s o).devWrites = s.devWrites := rfl
@[simp] theorem setOp_tlb (s : State) (o : MemOp) : (setOp s o).tlb = s.tlb := rfl
@[simp] theorem setOp_rebuilt (s : State) (o : MemOp) : (setOp s o).rebuilt = s.rebuilt := rfl
@[simp] theorem setOp_cores (s : State) (o : MemOp) : (setOp s o).cores = s.cores := rfl
@[simp] theorem setOp_teams (s : State) (o : MemOp) : (setOp s o).teams = s.teams := rfl
@[simp] theorem setOp_groups (s : State) (o : MemOp) : (setOp s o).groups = s.groups := rfl
@[simp] theorem setOp_aops (s : State) (o : MemOp) : (setOp s o).aops = s.aops := rfl
@[simp] theorem setOp_wqs (s : State) (o : MemOp) : (setOp s o).wqs = s.wqs := rfl
@[simp] theorem setOp_grids (s : State) (o : MemOp) : (setOp s o).grids = s.grids := rfl
@[simp] theorem setOp_lastWin (s : State) (o : MemOp) : (setOp s o).lastWin = s.lastWin := rfl
@[simp] theorem setOp_binds (s : State) (o : MemOp) : (setOp s o).binds = s.binds := rfl
@[simp] theorem setOp_early (s : State) (o : MemOp) : (setOp s o).early = s.early := rfl
@[simp] theorem setOp_retries (s : State) (o : MemOp) : (setOp s o).retries = s.retries := rfl
@[simp] theorem setOp_collSent (s : State) (o : MemOp) : (setOp s o).collSent = s.collSent := rfl
@[simp] theorem setOp_pinsAway (s : State) (o : MemOp) : (setOp s o).pinsAway = s.pinsAway := rfl
@[simp] theorem setOp_ports (s : State) (o : MemOp) : (setOp s o).ports = s.ports := rfl
@[simp] theorem setOp_out (s : State) (o : MemOp) : (setOp s o).out = s.out := rfl
@[simp] theorem setOp_waitOut (s : State) (o : MemOp) : (setOp s o).waitOut = s.waitOut := rfl
@[simp] theorem setOp_queue (s : State) (o : MemOp) : (setOp s o).queue = s.queue := rfl
@[simp] theorem setOp_deficit (s : State) (o : MemOp) : (setOp s o).deficit = s.deficit := rfl
@[simp] theorem setOp_served (s : State) (o : MemOp) : (setOp s o).served = s.served := rfl
@[simp] theorem setOp_trapWait (s : State) (o : MemOp) : (setOp s o).trapWait = s.trapWait := rfl
@[simp] theorem setOp_openRecs (s : State) (o : MemOp) : (setOp s o).openRecs = s.openRecs := rfl
@[simp] theorem setOp_xresBusy (s : State) (o : MemOp) : (setOp s o).xresBusy = s.xresBusy := rfl
@[simp] theorem setOp_saved (s : State) (o : MemOp) : (setOp s o).saved = s.saved := rfl
@[simp] theorem setOp_preempts (s : State) (o : MemOp) : (setOp s o).preempts = s.preempts := rfl
@[simp] theorem setOp_kills (s : State) (o : MemOp) : (setOp s o).kills = s.kills := rfl
@[simp] theorem setOp_owned (s : State) (o : MemOp) : (setOp s o).owned = s.owned := rfl
@[simp] theorem setOp_images (s : State) (o : MemOp) : (setOp s o).images = s.images := rfl
@[simp] theorem setOp_entered (s : State) (o : MemOp) : (setOp s o).entered = s.entered := rfl
@[simp] theorem setOp_powered (s : State) (o : MemOp) : (setOp s o).powered = s.powered := rfl
@[simp] theorem setOp_tripped (s : State) (o : MemOp) : (setOp s o).tripped = s.tripped := rfl
@[simp] theorem setOp_lost (s : State) (o : MemOp) : (setOp s o).lost = s.lost := rfl
@[simp] theorem setOp_shadowBad (s : State) (o : MemOp) : (setOp s o).shadowBad = s.shadowBad := rfl
@[simp] theorem setOp_hdieDelay (s : State) (o : MemOp) : (setOp s o).hdieDelay = s.hdieDelay := rfl
@[simp] theorem setOp_nextId (s : State) (o : MemOp) : (setOp s o).nextId = s.nextId := rfl
@[simp] theorem setOp_sel (s : State) (o : MemOp) : (setOp s o).sel = s.sel := rfl
@[simp] theorem setOp_turn (s : State) (o : MemOp) : (setOp s o).turn = s.turn := rfl
@[simp] theorem setOp_agenda (s : State) (o : MemOp) : (setOp s o).agenda = s.agenda := rfl

/-! ## setWq -/

@[simp] theorem setWq_ap (s : State) (q : Nat) (w : WorkQ) : (setWq s q w).ap = s.ap := rfl
@[simp] theorem setWq_ctl (s : State) (q : Nat) (w : WorkQ) : (setWq s q w).ctl = s.ctl := rfl
@[simp] theorem setWq_ctlPoison (s : State) (q : Nat) (w : WorkQ) : (setWq s q w).ctlPoison = s.ctlPoison := rfl
@[simp] theorem setWq_ctlBad (s : State) (q : Nat) (w : WorkQ) : (setWq s q w).ctlBad = s.ctlBad := rfl
@[simp] theorem setWq_ten (s : State) (q : Nat) (w : WorkQ) : (setWq s q w).ten = s.ten := rfl
@[simp] theorem setWq_tenPoison (s : State) (q : Nat) (w : WorkQ) : (setWq s q w).tenPoison = s.tenPoison := rfl
@[simp] theorem setWq_tenBad (s : State) (q : Nat) (w : WorkQ) : (setWq s q w).tenBad = s.tenBad := rfl
@[simp] theorem setWq_ctxtab (s : State) (q : Nat) (w : WorkQ) : (setWq s q w).ctxtab = s.ctxtab := rfl
@[simp] theorem setWq_lrank (s : State) (q : Nat) (w : WorkQ) : (setWq s q w).lrank = s.lrank := rfl
@[simp] theorem setWq_schk (s : State) (q : Nat) (w : WorkQ) : (setWq s q w).schk = s.schk := rfl
@[simp] theorem setWq_shadow (s : State) (q : Nat) (w : WorkQ) : (setWq s q w).shadow = s.shadow := rfl
@[simp] theorem setWq_scope (s : State) (q : Nat) (w : WorkQ) : (setWq s q w).scope = s.scope := rfl
@[simp] theorem setWq_dir (s : State) (q : Nat) (w : WorkQ) : (setWq s q w).dir = s.dir := rfl
@[simp] theorem setWq_regions (s : State) (q : Nat) (w : WorkQ) : (setWq s q w).regions = s.regions := rfl
@[simp] theorem setWq_hold (s : State) (q : Nat) (w : WorkQ) : (setWq s q w).hold = s.hold := rfl
@[simp] theorem setWq_tHeld (s : State) (q : Nat) (w : WorkQ) : (setWq s q w).tHeld = s.tHeld := rfl
@[simp] theorem setWq_lines (s : State) (q : Nat) (w : WorkQ) : (setWq s q w).lines = s.lines := rfl
@[simp] theorem setWq_mirror (s : State) (q : Nat) (w : WorkQ) : (setWq s q w).mirror = s.mirror := rfl
@[simp] theorem setWq_mirrorPoison (s : State) (q : Nat) (w : WorkQ) : (setWq s q w).mirrorPoison = s.mirrorPoison := rfl
@[simp] theorem setWq_mirrorBad (s : State) (q : Nat) (w : WorkQ) : (setWq s q w).mirrorBad = s.mirrorBad := rfl
@[simp] theorem setWq_dl (s : State) (q : Nat) (w : WorkQ) : (setWq s q w).dl = s.dl := rfl
@[simp] theorem setWq_mirrorOwed (s : State) (q : Nat) (w : WorkQ) : (setWq s q w).mirrorOwed = s.mirrorOwed := rfl
@[simp] theorem setWq_mirrorThen (s : State) (q : Nat) (w : WorkQ) : (setWq s q w).mirrorThen = s.mirrorThen := rfl
@[simp] theorem setWq_devMade (s : State) (q : Nat) (w : WorkQ) : (setWq s q w).devMade = s.devMade := rfl
@[simp] theorem setWq_l2 (s : State) (q : Nat) (w : WorkQ) : (setWq s q w).l2 = s.l2 := rfl
@[simp] theorem setWq_arrived (s : State) (q : Nat) (w : WorkQ) : (setWq s q w).arrived = s.arrived := rfl
@[simp] theorem setWq_icinvOwed (s : State) (q : Nat) (w : WorkQ) : (setWq s q w).icinvOwed = s.icinvOwed := rfl
@[simp] theorem setWq_heldWrites (s : State) (q : Nat) (w : WorkQ) : (setWq s q w).heldWrites = s.heldWrites := rfl
@[simp] theorem setWq_tileWrites (s : State) (q : Nat) (w : WorkQ) : (setWq s q w).tileWrites = s.tileWrites := rfl
@[simp] theorem setWq_devWrites (s : State) (q : Nat) (w : WorkQ) : (setWq s q w).devWrites = s.devWrites := rfl
@[simp] theorem setWq_tlb (s : State) (q : Nat) (w : WorkQ) : (setWq s q w).tlb = s.tlb := rfl
@[simp] theorem setWq_rebuilt (s : State) (q : Nat) (w : WorkQ) : (setWq s q w).rebuilt = s.rebuilt := rfl
@[simp] theorem setWq_cores (s : State) (q : Nat) (w : WorkQ) : (setWq s q w).cores = s.cores := rfl
@[simp] theorem setWq_teams (s : State) (q : Nat) (w : WorkQ) : (setWq s q w).teams = s.teams := rfl
@[simp] theorem setWq_groups (s : State) (q : Nat) (w : WorkQ) : (setWq s q w).groups = s.groups := rfl
@[simp] theorem setWq_ops (s : State) (q : Nat) (w : WorkQ) : (setWq s q w).ops = s.ops := rfl
@[simp] theorem setWq_aops (s : State) (q : Nat) (w : WorkQ) : (setWq s q w).aops = s.aops := rfl
@[simp] theorem setWq_grids (s : State) (q : Nat) (w : WorkQ) : (setWq s q w).grids = s.grids := rfl
@[simp] theorem setWq_lastWin (s : State) (q : Nat) (w : WorkQ) : (setWq s q w).lastWin = s.lastWin := rfl
@[simp] theorem setWq_binds (s : State) (q : Nat) (w : WorkQ) : (setWq s q w).binds = s.binds := rfl
@[simp] theorem setWq_early (s : State) (q : Nat) (w : WorkQ) : (setWq s q w).early = s.early := rfl
@[simp] theorem setWq_retries (s : State) (q : Nat) (w : WorkQ) : (setWq s q w).retries = s.retries := rfl
@[simp] theorem setWq_collSent (s : State) (q : Nat) (w : WorkQ) : (setWq s q w).collSent = s.collSent := rfl
@[simp] theorem setWq_pinsAway (s : State) (q : Nat) (w : WorkQ) : (setWq s q w).pinsAway = s.pinsAway := rfl
@[simp] theorem setWq_ports (s : State) (q : Nat) (w : WorkQ) : (setWq s q w).ports = s.ports := rfl
@[simp] theorem setWq_out (s : State) (q : Nat) (w : WorkQ) : (setWq s q w).out = s.out := rfl
@[simp] theorem setWq_waitOut (s : State) (q : Nat) (w : WorkQ) : (setWq s q w).waitOut = s.waitOut := rfl
@[simp] theorem setWq_queue (s : State) (q : Nat) (w : WorkQ) : (setWq s q w).queue = s.queue := rfl
@[simp] theorem setWq_deficit (s : State) (q : Nat) (w : WorkQ) : (setWq s q w).deficit = s.deficit := rfl
@[simp] theorem setWq_served (s : State) (q : Nat) (w : WorkQ) : (setWq s q w).served = s.served := rfl
@[simp] theorem setWq_trapWait (s : State) (q : Nat) (w : WorkQ) : (setWq s q w).trapWait = s.trapWait := rfl
@[simp] theorem setWq_openRecs (s : State) (q : Nat) (w : WorkQ) : (setWq s q w).openRecs = s.openRecs := rfl
@[simp] theorem setWq_xresBusy (s : State) (q : Nat) (w : WorkQ) : (setWq s q w).xresBusy = s.xresBusy := rfl
@[simp] theorem setWq_saved (s : State) (q : Nat) (w : WorkQ) : (setWq s q w).saved = s.saved := rfl
@[simp] theorem setWq_preempts (s : State) (q : Nat) (w : WorkQ) : (setWq s q w).preempts = s.preempts := rfl
@[simp] theorem setWq_kills (s : State) (q : Nat) (w : WorkQ) : (setWq s q w).kills = s.kills := rfl
@[simp] theorem setWq_owned (s : State) (q : Nat) (w : WorkQ) : (setWq s q w).owned = s.owned := rfl
@[simp] theorem setWq_images (s : State) (q : Nat) (w : WorkQ) : (setWq s q w).images = s.images := rfl
@[simp] theorem setWq_entered (s : State) (q : Nat) (w : WorkQ) : (setWq s q w).entered = s.entered := rfl
@[simp] theorem setWq_powered (s : State) (q : Nat) (w : WorkQ) : (setWq s q w).powered = s.powered := rfl
@[simp] theorem setWq_tripped (s : State) (q : Nat) (w : WorkQ) : (setWq s q w).tripped = s.tripped := rfl
@[simp] theorem setWq_lost (s : State) (q : Nat) (w : WorkQ) : (setWq s q w).lost = s.lost := rfl
@[simp] theorem setWq_shadowBad (s : State) (q : Nat) (w : WorkQ) : (setWq s q w).shadowBad = s.shadowBad := rfl
@[simp] theorem setWq_hdieDelay (s : State) (q : Nat) (w : WorkQ) : (setWq s q w).hdieDelay = s.hdieDelay := rfl
@[simp] theorem setWq_nextId (s : State) (q : Nat) (w : WorkQ) : (setWq s q w).nextId = s.nextId := rfl
@[simp] theorem setWq_sel (s : State) (q : Nat) (w : WorkQ) : (setWq s q w).sel = s.sel := rfl
@[simp] theorem setWq_turn (s : State) (q : Nat) (w : WorkQ) : (setWq s q w).turn = s.turn := rfl
@[simp] theorem setWq_agenda (s : State) (q : Nat) (w : WorkQ) : (setWq s q w).agenda = s.agenda := rfl

/-! ## setDir -/

@[simp] theorem setDir_ap (s : State) (x : Nat) (d : Dir) : (setDir s x d).ap = s.ap := rfl
@[simp] theorem setDir_ctl (s : State) (x : Nat) (d : Dir) : (setDir s x d).ctl = s.ctl := rfl
@[simp] theorem setDir_ctlPoison (s : State) (x : Nat) (d : Dir) : (setDir s x d).ctlPoison = s.ctlPoison := rfl
@[simp] theorem setDir_ctlBad (s : State) (x : Nat) (d : Dir) : (setDir s x d).ctlBad = s.ctlBad := rfl
@[simp] theorem setDir_ten (s : State) (x : Nat) (d : Dir) : (setDir s x d).ten = s.ten := rfl
@[simp] theorem setDir_tenPoison (s : State) (x : Nat) (d : Dir) : (setDir s x d).tenPoison = s.tenPoison := rfl
@[simp] theorem setDir_tenBad (s : State) (x : Nat) (d : Dir) : (setDir s x d).tenBad = s.tenBad := rfl
@[simp] theorem setDir_ctxtab (s : State) (x : Nat) (d : Dir) : (setDir s x d).ctxtab = s.ctxtab := rfl
@[simp] theorem setDir_lrank (s : State) (x : Nat) (d : Dir) : (setDir s x d).lrank = s.lrank := rfl
@[simp] theorem setDir_schk (s : State) (x : Nat) (d : Dir) : (setDir s x d).schk = s.schk := rfl
@[simp] theorem setDir_shadow (s : State) (x : Nat) (d : Dir) : (setDir s x d).shadow = s.shadow := rfl
@[simp] theorem setDir_scope (s : State) (x : Nat) (d : Dir) : (setDir s x d).scope = s.scope := rfl
@[simp] theorem setDir_regions (s : State) (x : Nat) (d : Dir) : (setDir s x d).regions = s.regions := rfl
@[simp] theorem setDir_hold (s : State) (x : Nat) (d : Dir) : (setDir s x d).hold = s.hold := rfl
@[simp] theorem setDir_tHeld (s : State) (x : Nat) (d : Dir) : (setDir s x d).tHeld = s.tHeld := rfl
@[simp] theorem setDir_lines (s : State) (x : Nat) (d : Dir) : (setDir s x d).lines = s.lines := rfl
@[simp] theorem setDir_mirror (s : State) (x : Nat) (d : Dir) : (setDir s x d).mirror = s.mirror := rfl
@[simp] theorem setDir_mirrorPoison (s : State) (x : Nat) (d : Dir) : (setDir s x d).mirrorPoison = s.mirrorPoison := rfl
@[simp] theorem setDir_mirrorBad (s : State) (x : Nat) (d : Dir) : (setDir s x d).mirrorBad = s.mirrorBad := rfl
@[simp] theorem setDir_dl (s : State) (x : Nat) (d : Dir) : (setDir s x d).dl = s.dl := rfl
@[simp] theorem setDir_mirrorOwed (s : State) (x : Nat) (d : Dir) : (setDir s x d).mirrorOwed = s.mirrorOwed := rfl
@[simp] theorem setDir_mirrorThen (s : State) (x : Nat) (d : Dir) : (setDir s x d).mirrorThen = s.mirrorThen := rfl
@[simp] theorem setDir_devMade (s : State) (x : Nat) (d : Dir) : (setDir s x d).devMade = s.devMade := rfl
@[simp] theorem setDir_l2 (s : State) (x : Nat) (d : Dir) : (setDir s x d).l2 = s.l2 := rfl
@[simp] theorem setDir_arrived (s : State) (x : Nat) (d : Dir) : (setDir s x d).arrived = s.arrived := rfl
@[simp] theorem setDir_icinvOwed (s : State) (x : Nat) (d : Dir) : (setDir s x d).icinvOwed = s.icinvOwed := rfl
@[simp] theorem setDir_heldWrites (s : State) (x : Nat) (d : Dir) : (setDir s x d).heldWrites = s.heldWrites := rfl
@[simp] theorem setDir_tileWrites (s : State) (x : Nat) (d : Dir) : (setDir s x d).tileWrites = s.tileWrites := rfl
@[simp] theorem setDir_devWrites (s : State) (x : Nat) (d : Dir) : (setDir s x d).devWrites = s.devWrites := rfl
@[simp] theorem setDir_tlb (s : State) (x : Nat) (d : Dir) : (setDir s x d).tlb = s.tlb := rfl
@[simp] theorem setDir_rebuilt (s : State) (x : Nat) (d : Dir) : (setDir s x d).rebuilt = s.rebuilt := rfl
@[simp] theorem setDir_cores (s : State) (x : Nat) (d : Dir) : (setDir s x d).cores = s.cores := rfl
@[simp] theorem setDir_teams (s : State) (x : Nat) (d : Dir) : (setDir s x d).teams = s.teams := rfl
@[simp] theorem setDir_groups (s : State) (x : Nat) (d : Dir) : (setDir s x d).groups = s.groups := rfl
@[simp] theorem setDir_ops (s : State) (x : Nat) (d : Dir) : (setDir s x d).ops = s.ops := rfl
@[simp] theorem setDir_aops (s : State) (x : Nat) (d : Dir) : (setDir s x d).aops = s.aops := rfl
@[simp] theorem setDir_wqs (s : State) (x : Nat) (d : Dir) : (setDir s x d).wqs = s.wqs := rfl
@[simp] theorem setDir_grids (s : State) (x : Nat) (d : Dir) : (setDir s x d).grids = s.grids := rfl
@[simp] theorem setDir_lastWin (s : State) (x : Nat) (d : Dir) : (setDir s x d).lastWin = s.lastWin := rfl
@[simp] theorem setDir_binds (s : State) (x : Nat) (d : Dir) : (setDir s x d).binds = s.binds := rfl
@[simp] theorem setDir_early (s : State) (x : Nat) (d : Dir) : (setDir s x d).early = s.early := rfl
@[simp] theorem setDir_retries (s : State) (x : Nat) (d : Dir) : (setDir s x d).retries = s.retries := rfl
@[simp] theorem setDir_collSent (s : State) (x : Nat) (d : Dir) : (setDir s x d).collSent = s.collSent := rfl
@[simp] theorem setDir_pinsAway (s : State) (x : Nat) (d : Dir) : (setDir s x d).pinsAway = s.pinsAway := rfl
@[simp] theorem setDir_ports (s : State) (x : Nat) (d : Dir) : (setDir s x d).ports = s.ports := rfl
@[simp] theorem setDir_out (s : State) (x : Nat) (d : Dir) : (setDir s x d).out = s.out := rfl
@[simp] theorem setDir_waitOut (s : State) (x : Nat) (d : Dir) : (setDir s x d).waitOut = s.waitOut := rfl
@[simp] theorem setDir_queue (s : State) (x : Nat) (d : Dir) : (setDir s x d).queue = s.queue := rfl
@[simp] theorem setDir_deficit (s : State) (x : Nat) (d : Dir) : (setDir s x d).deficit = s.deficit := rfl
@[simp] theorem setDir_served (s : State) (x : Nat) (d : Dir) : (setDir s x d).served = s.served := rfl
@[simp] theorem setDir_trapWait (s : State) (x : Nat) (d : Dir) : (setDir s x d).trapWait = s.trapWait := rfl
@[simp] theorem setDir_openRecs (s : State) (x : Nat) (d : Dir) : (setDir s x d).openRecs = s.openRecs := rfl
@[simp] theorem setDir_xresBusy (s : State) (x : Nat) (d : Dir) : (setDir s x d).xresBusy = s.xresBusy := rfl
@[simp] theorem setDir_saved (s : State) (x : Nat) (d : Dir) : (setDir s x d).saved = s.saved := rfl
@[simp] theorem setDir_preempts (s : State) (x : Nat) (d : Dir) : (setDir s x d).preempts = s.preempts := rfl
@[simp] theorem setDir_kills (s : State) (x : Nat) (d : Dir) : (setDir s x d).kills = s.kills := rfl
@[simp] theorem setDir_owned (s : State) (x : Nat) (d : Dir) : (setDir s x d).owned = s.owned := rfl
@[simp] theorem setDir_images (s : State) (x : Nat) (d : Dir) : (setDir s x d).images = s.images := rfl
@[simp] theorem setDir_entered (s : State) (x : Nat) (d : Dir) : (setDir s x d).entered = s.entered := rfl
@[simp] theorem setDir_powered (s : State) (x : Nat) (d : Dir) : (setDir s x d).powered = s.powered := rfl
@[simp] theorem setDir_tripped (s : State) (x : Nat) (d : Dir) : (setDir s x d).tripped = s.tripped := rfl
@[simp] theorem setDir_lost (s : State) (x : Nat) (d : Dir) : (setDir s x d).lost = s.lost := rfl
@[simp] theorem setDir_shadowBad (s : State) (x : Nat) (d : Dir) : (setDir s x d).shadowBad = s.shadowBad := rfl
@[simp] theorem setDir_hdieDelay (s : State) (x : Nat) (d : Dir) : (setDir s x d).hdieDelay = s.hdieDelay := rfl
@[simp] theorem setDir_nextId (s : State) (x : Nat) (d : Dir) : (setDir s x d).nextId = s.nextId := rfl
@[simp] theorem setDir_sel (s : State) (x : Nat) (d : Dir) : (setDir s x d).sel = s.sel := rfl
@[simp] theorem setDir_turn (s : State) (x : Nat) (d : Dir) : (setDir s x d).turn = s.turn := rfl
@[simp] theorem setDir_agenda (s : State) (x : Nat) (d : Dir) : (setDir s x d).agenda = s.agenda := rfl

/-! ## setHold -/

@[simp] theorem setHold_ap (s : State) (x : Nat) (h : Option CState) : (setHold s x h).ap = s.ap := rfl
@[simp] theorem setHold_ctl (s : State) (x : Nat) (h : Option CState) : (setHold s x h).ctl = s.ctl := rfl
@[simp] theorem setHold_ctlPoison (s : State) (x : Nat) (h : Option CState) : (setHold s x h).ctlPoison = s.ctlPoison := rfl
@[simp] theorem setHold_ctlBad (s : State) (x : Nat) (h : Option CState) : (setHold s x h).ctlBad = s.ctlBad := rfl
@[simp] theorem setHold_ten (s : State) (x : Nat) (h : Option CState) : (setHold s x h).ten = s.ten := rfl
@[simp] theorem setHold_tenPoison (s : State) (x : Nat) (h : Option CState) : (setHold s x h).tenPoison = s.tenPoison := rfl
@[simp] theorem setHold_tenBad (s : State) (x : Nat) (h : Option CState) : (setHold s x h).tenBad = s.tenBad := rfl
@[simp] theorem setHold_ctxtab (s : State) (x : Nat) (h : Option CState) : (setHold s x h).ctxtab = s.ctxtab := rfl
@[simp] theorem setHold_lrank (s : State) (x : Nat) (h : Option CState) : (setHold s x h).lrank = s.lrank := rfl
@[simp] theorem setHold_schk (s : State) (x : Nat) (h : Option CState) : (setHold s x h).schk = s.schk := rfl
@[simp] theorem setHold_shadow (s : State) (x : Nat) (h : Option CState) : (setHold s x h).shadow = s.shadow := rfl
@[simp] theorem setHold_scope (s : State) (x : Nat) (h : Option CState) : (setHold s x h).scope = s.scope := rfl
@[simp] theorem setHold_dir (s : State) (x : Nat) (h : Option CState) : (setHold s x h).dir = s.dir := rfl
@[simp] theorem setHold_regions (s : State) (x : Nat) (h : Option CState) : (setHold s x h).regions = s.regions := rfl
@[simp] theorem setHold_tHeld (s : State) (x : Nat) (h : Option CState) : (setHold s x h).tHeld = s.tHeld := rfl
@[simp] theorem setHold_lines (s : State) (x : Nat) (h : Option CState) : (setHold s x h).lines = s.lines := rfl
@[simp] theorem setHold_mirror (s : State) (x : Nat) (h : Option CState) : (setHold s x h).mirror = s.mirror := rfl
@[simp] theorem setHold_mirrorPoison (s : State) (x : Nat) (h : Option CState) : (setHold s x h).mirrorPoison = s.mirrorPoison := rfl
@[simp] theorem setHold_mirrorBad (s : State) (x : Nat) (h : Option CState) : (setHold s x h).mirrorBad = s.mirrorBad := rfl
@[simp] theorem setHold_dl (s : State) (x : Nat) (h : Option CState) : (setHold s x h).dl = s.dl := rfl
@[simp] theorem setHold_mirrorOwed (s : State) (x : Nat) (h : Option CState) : (setHold s x h).mirrorOwed = s.mirrorOwed := rfl
@[simp] theorem setHold_mirrorThen (s : State) (x : Nat) (h : Option CState) : (setHold s x h).mirrorThen = s.mirrorThen := rfl
@[simp] theorem setHold_devMade (s : State) (x : Nat) (h : Option CState) : (setHold s x h).devMade = s.devMade := rfl
@[simp] theorem setHold_l2 (s : State) (x : Nat) (h : Option CState) : (setHold s x h).l2 = s.l2 := rfl
@[simp] theorem setHold_arrived (s : State) (x : Nat) (h : Option CState) : (setHold s x h).arrived = s.arrived := rfl
@[simp] theorem setHold_icinvOwed (s : State) (x : Nat) (h : Option CState) : (setHold s x h).icinvOwed = s.icinvOwed := rfl
@[simp] theorem setHold_heldWrites (s : State) (x : Nat) (h : Option CState) : (setHold s x h).heldWrites = s.heldWrites := rfl
@[simp] theorem setHold_tileWrites (s : State) (x : Nat) (h : Option CState) : (setHold s x h).tileWrites = s.tileWrites := rfl
@[simp] theorem setHold_devWrites (s : State) (x : Nat) (h : Option CState) : (setHold s x h).devWrites = s.devWrites := rfl
@[simp] theorem setHold_tlb (s : State) (x : Nat) (h : Option CState) : (setHold s x h).tlb = s.tlb := rfl
@[simp] theorem setHold_rebuilt (s : State) (x : Nat) (h : Option CState) : (setHold s x h).rebuilt = s.rebuilt := rfl
@[simp] theorem setHold_cores (s : State) (x : Nat) (h : Option CState) : (setHold s x h).cores = s.cores := rfl
@[simp] theorem setHold_teams (s : State) (x : Nat) (h : Option CState) : (setHold s x h).teams = s.teams := rfl
@[simp] theorem setHold_groups (s : State) (x : Nat) (h : Option CState) : (setHold s x h).groups = s.groups := rfl
@[simp] theorem setHold_ops (s : State) (x : Nat) (h : Option CState) : (setHold s x h).ops = s.ops := rfl
@[simp] theorem setHold_aops (s : State) (x : Nat) (h : Option CState) : (setHold s x h).aops = s.aops := rfl
@[simp] theorem setHold_wqs (s : State) (x : Nat) (h : Option CState) : (setHold s x h).wqs = s.wqs := rfl
@[simp] theorem setHold_grids (s : State) (x : Nat) (h : Option CState) : (setHold s x h).grids = s.grids := rfl
@[simp] theorem setHold_lastWin (s : State) (x : Nat) (h : Option CState) : (setHold s x h).lastWin = s.lastWin := rfl
@[simp] theorem setHold_binds (s : State) (x : Nat) (h : Option CState) : (setHold s x h).binds = s.binds := rfl
@[simp] theorem setHold_early (s : State) (x : Nat) (h : Option CState) : (setHold s x h).early = s.early := rfl
@[simp] theorem setHold_retries (s : State) (x : Nat) (h : Option CState) : (setHold s x h).retries = s.retries := rfl
@[simp] theorem setHold_collSent (s : State) (x : Nat) (h : Option CState) : (setHold s x h).collSent = s.collSent := rfl
@[simp] theorem setHold_pinsAway (s : State) (x : Nat) (h : Option CState) : (setHold s x h).pinsAway = s.pinsAway := rfl
@[simp] theorem setHold_ports (s : State) (x : Nat) (h : Option CState) : (setHold s x h).ports = s.ports := rfl
@[simp] theorem setHold_out (s : State) (x : Nat) (h : Option CState) : (setHold s x h).out = s.out := rfl
@[simp] theorem setHold_waitOut (s : State) (x : Nat) (h : Option CState) : (setHold s x h).waitOut = s.waitOut := rfl
@[simp] theorem setHold_queue (s : State) (x : Nat) (h : Option CState) : (setHold s x h).queue = s.queue := rfl
@[simp] theorem setHold_deficit (s : State) (x : Nat) (h : Option CState) : (setHold s x h).deficit = s.deficit := rfl
@[simp] theorem setHold_served (s : State) (x : Nat) (h : Option CState) : (setHold s x h).served = s.served := rfl
@[simp] theorem setHold_trapWait (s : State) (x : Nat) (h : Option CState) : (setHold s x h).trapWait = s.trapWait := rfl
@[simp] theorem setHold_openRecs (s : State) (x : Nat) (h : Option CState) : (setHold s x h).openRecs = s.openRecs := rfl
@[simp] theorem setHold_xresBusy (s : State) (x : Nat) (h : Option CState) : (setHold s x h).xresBusy = s.xresBusy := rfl
@[simp] theorem setHold_saved (s : State) (x : Nat) (h : Option CState) : (setHold s x h).saved = s.saved := rfl
@[simp] theorem setHold_preempts (s : State) (x : Nat) (h : Option CState) : (setHold s x h).preempts = s.preempts := rfl
@[simp] theorem setHold_kills (s : State) (x : Nat) (h : Option CState) : (setHold s x h).kills = s.kills := rfl
@[simp] theorem setHold_owned (s : State) (x : Nat) (h : Option CState) : (setHold s x h).owned = s.owned := rfl
@[simp] theorem setHold_images (s : State) (x : Nat) (h : Option CState) : (setHold s x h).images = s.images := rfl
@[simp] theorem setHold_entered (s : State) (x : Nat) (h : Option CState) : (setHold s x h).entered = s.entered := rfl
@[simp] theorem setHold_powered (s : State) (x : Nat) (h : Option CState) : (setHold s x h).powered = s.powered := rfl
@[simp] theorem setHold_tripped (s : State) (x : Nat) (h : Option CState) : (setHold s x h).tripped = s.tripped := rfl
@[simp] theorem setHold_lost (s : State) (x : Nat) (h : Option CState) : (setHold s x h).lost = s.lost := rfl
@[simp] theorem setHold_shadowBad (s : State) (x : Nat) (h : Option CState) : (setHold s x h).shadowBad = s.shadowBad := rfl
@[simp] theorem setHold_hdieDelay (s : State) (x : Nat) (h : Option CState) : (setHold s x h).hdieDelay = s.hdieDelay := rfl
@[simp] theorem setHold_nextId (s : State) (x : Nat) (h : Option CState) : (setHold s x h).nextId = s.nextId := rfl
@[simp] theorem setHold_sel (s : State) (x : Nat) (h : Option CState) : (setHold s x h).sel = s.sel := rfl
@[simp] theorem setHold_turn (s : State) (x : Nat) (h : Option CState) : (setHold s x h).turn = s.turn := rfl
@[simp] theorem setHold_agenda (s : State) (x : Nat) (h : Option CState) : (setHold s x h).agenda = s.agenda := rfl

/-! ## setPort -/

@[simp] theorem setPort_ap (s : State) (n : Nat) (p : Port) : (setPort s n p).ap = s.ap := rfl
@[simp] theorem setPort_ctl (s : State) (n : Nat) (p : Port) : (setPort s n p).ctl = s.ctl := rfl
@[simp] theorem setPort_ctlPoison (s : State) (n : Nat) (p : Port) : (setPort s n p).ctlPoison = s.ctlPoison := rfl
@[simp] theorem setPort_ctlBad (s : State) (n : Nat) (p : Port) : (setPort s n p).ctlBad = s.ctlBad := rfl
@[simp] theorem setPort_ten (s : State) (n : Nat) (p : Port) : (setPort s n p).ten = s.ten := rfl
@[simp] theorem setPort_tenPoison (s : State) (n : Nat) (p : Port) : (setPort s n p).tenPoison = s.tenPoison := rfl
@[simp] theorem setPort_tenBad (s : State) (n : Nat) (p : Port) : (setPort s n p).tenBad = s.tenBad := rfl
@[simp] theorem setPort_ctxtab (s : State) (n : Nat) (p : Port) : (setPort s n p).ctxtab = s.ctxtab := rfl
@[simp] theorem setPort_lrank (s : State) (n : Nat) (p : Port) : (setPort s n p).lrank = s.lrank := rfl
@[simp] theorem setPort_schk (s : State) (n : Nat) (p : Port) : (setPort s n p).schk = s.schk := rfl
@[simp] theorem setPort_shadow (s : State) (n : Nat) (p : Port) : (setPort s n p).shadow = s.shadow := rfl
@[simp] theorem setPort_scope (s : State) (n : Nat) (p : Port) : (setPort s n p).scope = s.scope := rfl
@[simp] theorem setPort_dir (s : State) (n : Nat) (p : Port) : (setPort s n p).dir = s.dir := rfl
@[simp] theorem setPort_regions (s : State) (n : Nat) (p : Port) : (setPort s n p).regions = s.regions := rfl
@[simp] theorem setPort_hold (s : State) (n : Nat) (p : Port) : (setPort s n p).hold = s.hold := rfl
@[simp] theorem setPort_tHeld (s : State) (n : Nat) (p : Port) : (setPort s n p).tHeld = s.tHeld := rfl
@[simp] theorem setPort_lines (s : State) (n : Nat) (p : Port) : (setPort s n p).lines = s.lines := rfl
@[simp] theorem setPort_mirror (s : State) (n : Nat) (p : Port) : (setPort s n p).mirror = s.mirror := rfl
@[simp] theorem setPort_mirrorPoison (s : State) (n : Nat) (p : Port) : (setPort s n p).mirrorPoison = s.mirrorPoison := rfl
@[simp] theorem setPort_mirrorBad (s : State) (n : Nat) (p : Port) : (setPort s n p).mirrorBad = s.mirrorBad := rfl
@[simp] theorem setPort_dl (s : State) (n : Nat) (p : Port) : (setPort s n p).dl = s.dl := rfl
@[simp] theorem setPort_mirrorOwed (s : State) (n : Nat) (p : Port) : (setPort s n p).mirrorOwed = s.mirrorOwed := rfl
@[simp] theorem setPort_mirrorThen (s : State) (n : Nat) (p : Port) : (setPort s n p).mirrorThen = s.mirrorThen := rfl
@[simp] theorem setPort_devMade (s : State) (n : Nat) (p : Port) : (setPort s n p).devMade = s.devMade := rfl
@[simp] theorem setPort_l2 (s : State) (n : Nat) (p : Port) : (setPort s n p).l2 = s.l2 := rfl
@[simp] theorem setPort_arrived (s : State) (n : Nat) (p : Port) : (setPort s n p).arrived = s.arrived := rfl
@[simp] theorem setPort_icinvOwed (s : State) (n : Nat) (p : Port) : (setPort s n p).icinvOwed = s.icinvOwed := rfl
@[simp] theorem setPort_heldWrites (s : State) (n : Nat) (p : Port) : (setPort s n p).heldWrites = s.heldWrites := rfl
@[simp] theorem setPort_tileWrites (s : State) (n : Nat) (p : Port) : (setPort s n p).tileWrites = s.tileWrites := rfl
@[simp] theorem setPort_devWrites (s : State) (n : Nat) (p : Port) : (setPort s n p).devWrites = s.devWrites := rfl
@[simp] theorem setPort_tlb (s : State) (n : Nat) (p : Port) : (setPort s n p).tlb = s.tlb := rfl
@[simp] theorem setPort_rebuilt (s : State) (n : Nat) (p : Port) : (setPort s n p).rebuilt = s.rebuilt := rfl
@[simp] theorem setPort_cores (s : State) (n : Nat) (p : Port) : (setPort s n p).cores = s.cores := rfl
@[simp] theorem setPort_teams (s : State) (n : Nat) (p : Port) : (setPort s n p).teams = s.teams := rfl
@[simp] theorem setPort_groups (s : State) (n : Nat) (p : Port) : (setPort s n p).groups = s.groups := rfl
@[simp] theorem setPort_ops (s : State) (n : Nat) (p : Port) : (setPort s n p).ops = s.ops := rfl
@[simp] theorem setPort_aops (s : State) (n : Nat) (p : Port) : (setPort s n p).aops = s.aops := rfl
@[simp] theorem setPort_wqs (s : State) (n : Nat) (p : Port) : (setPort s n p).wqs = s.wqs := rfl
@[simp] theorem setPort_grids (s : State) (n : Nat) (p : Port) : (setPort s n p).grids = s.grids := rfl
@[simp] theorem setPort_lastWin (s : State) (n : Nat) (p : Port) : (setPort s n p).lastWin = s.lastWin := rfl
@[simp] theorem setPort_binds (s : State) (n : Nat) (p : Port) : (setPort s n p).binds = s.binds := rfl
@[simp] theorem setPort_early (s : State) (n : Nat) (p : Port) : (setPort s n p).early = s.early := rfl
@[simp] theorem setPort_retries (s : State) (n : Nat) (p : Port) : (setPort s n p).retries = s.retries := rfl
@[simp] theorem setPort_collSent (s : State) (n : Nat) (p : Port) : (setPort s n p).collSent = s.collSent := rfl
@[simp] theorem setPort_pinsAway (s : State) (n : Nat) (p : Port) : (setPort s n p).pinsAway = s.pinsAway := rfl
@[simp] theorem setPort_out (s : State) (n : Nat) (p : Port) : (setPort s n p).out = s.out := rfl
@[simp] theorem setPort_waitOut (s : State) (n : Nat) (p : Port) : (setPort s n p).waitOut = s.waitOut := rfl
@[simp] theorem setPort_queue (s : State) (n : Nat) (p : Port) : (setPort s n p).queue = s.queue := rfl
@[simp] theorem setPort_deficit (s : State) (n : Nat) (p : Port) : (setPort s n p).deficit = s.deficit := rfl
@[simp] theorem setPort_served (s : State) (n : Nat) (p : Port) : (setPort s n p).served = s.served := rfl
@[simp] theorem setPort_trapWait (s : State) (n : Nat) (p : Port) : (setPort s n p).trapWait = s.trapWait := rfl
@[simp] theorem setPort_openRecs (s : State) (n : Nat) (p : Port) : (setPort s n p).openRecs = s.openRecs := rfl
@[simp] theorem setPort_xresBusy (s : State) (n : Nat) (p : Port) : (setPort s n p).xresBusy = s.xresBusy := rfl
@[simp] theorem setPort_saved (s : State) (n : Nat) (p : Port) : (setPort s n p).saved = s.saved := rfl
@[simp] theorem setPort_preempts (s : State) (n : Nat) (p : Port) : (setPort s n p).preempts = s.preempts := rfl
@[simp] theorem setPort_kills (s : State) (n : Nat) (p : Port) : (setPort s n p).kills = s.kills := rfl
@[simp] theorem setPort_owned (s : State) (n : Nat) (p : Port) : (setPort s n p).owned = s.owned := rfl
@[simp] theorem setPort_images (s : State) (n : Nat) (p : Port) : (setPort s n p).images = s.images := rfl
@[simp] theorem setPort_entered (s : State) (n : Nat) (p : Port) : (setPort s n p).entered = s.entered := rfl
@[simp] theorem setPort_powered (s : State) (n : Nat) (p : Port) : (setPort s n p).powered = s.powered := rfl
@[simp] theorem setPort_tripped (s : State) (n : Nat) (p : Port) : (setPort s n p).tripped = s.tripped := rfl
@[simp] theorem setPort_lost (s : State) (n : Nat) (p : Port) : (setPort s n p).lost = s.lost := rfl
@[simp] theorem setPort_shadowBad (s : State) (n : Nat) (p : Port) : (setPort s n p).shadowBad = s.shadowBad := rfl
@[simp] theorem setPort_hdieDelay (s : State) (n : Nat) (p : Port) : (setPort s n p).hdieDelay = s.hdieDelay := rfl
@[simp] theorem setPort_nextId (s : State) (n : Nat) (p : Port) : (setPort s n p).nextId = s.nextId := rfl
@[simp] theorem setPort_sel (s : State) (n : Nat) (p : Port) : (setPort s n p).sel = s.sel := rfl
@[simp] theorem setPort_turn (s : State) (n : Nat) (p : Port) : (setPort s n p).turn = s.turn := rfl
@[simp] theorem setPort_agenda (s : State) (n : Nat) (p : Port) : (setPort s n p).agenda = s.agenda := rfl

/-! ## apSet -/

@[simp] theorem apSet_ctl (s : State) (off : Nat) (v : DWord) : (apSet s off v).ctl = s.ctl := rfl
@[simp] theorem apSet_ctlPoison (s : State) (off : Nat) (v : DWord) : (apSet s off v).ctlPoison = s.ctlPoison := rfl
@[simp] theorem apSet_ctlBad (s : State) (off : Nat) (v : DWord) : (apSet s off v).ctlBad = s.ctlBad := rfl
@[simp] theorem apSet_ten (s : State) (off : Nat) (v : DWord) : (apSet s off v).ten = s.ten := rfl
@[simp] theorem apSet_tenPoison (s : State) (off : Nat) (v : DWord) : (apSet s off v).tenPoison = s.tenPoison := rfl
@[simp] theorem apSet_tenBad (s : State) (off : Nat) (v : DWord) : (apSet s off v).tenBad = s.tenBad := rfl
@[simp] theorem apSet_ctxtab (s : State) (off : Nat) (v : DWord) : (apSet s off v).ctxtab = s.ctxtab := rfl
@[simp] theorem apSet_lrank (s : State) (off : Nat) (v : DWord) : (apSet s off v).lrank = s.lrank := rfl
@[simp] theorem apSet_schk (s : State) (off : Nat) (v : DWord) : (apSet s off v).schk = s.schk := rfl
@[simp] theorem apSet_shadow (s : State) (off : Nat) (v : DWord) : (apSet s off v).shadow = s.shadow := rfl
@[simp] theorem apSet_scope (s : State) (off : Nat) (v : DWord) : (apSet s off v).scope = s.scope := rfl
@[simp] theorem apSet_dir (s : State) (off : Nat) (v : DWord) : (apSet s off v).dir = s.dir := rfl
@[simp] theorem apSet_regions (s : State) (off : Nat) (v : DWord) : (apSet s off v).regions = s.regions := rfl
@[simp] theorem apSet_hold (s : State) (off : Nat) (v : DWord) : (apSet s off v).hold = s.hold := rfl
@[simp] theorem apSet_tHeld (s : State) (off : Nat) (v : DWord) : (apSet s off v).tHeld = s.tHeld := rfl
@[simp] theorem apSet_lines (s : State) (off : Nat) (v : DWord) : (apSet s off v).lines = s.lines := rfl
@[simp] theorem apSet_mirror (s : State) (off : Nat) (v : DWord) : (apSet s off v).mirror = s.mirror := rfl
@[simp] theorem apSet_mirrorPoison (s : State) (off : Nat) (v : DWord) : (apSet s off v).mirrorPoison = s.mirrorPoison := rfl
@[simp] theorem apSet_mirrorBad (s : State) (off : Nat) (v : DWord) : (apSet s off v).mirrorBad = s.mirrorBad := rfl
@[simp] theorem apSet_dl (s : State) (off : Nat) (v : DWord) : (apSet s off v).dl = s.dl := rfl
@[simp] theorem apSet_mirrorOwed (s : State) (off : Nat) (v : DWord) : (apSet s off v).mirrorOwed = s.mirrorOwed := rfl
@[simp] theorem apSet_mirrorThen (s : State) (off : Nat) (v : DWord) : (apSet s off v).mirrorThen = s.mirrorThen := rfl
@[simp] theorem apSet_devMade (s : State) (off : Nat) (v : DWord) : (apSet s off v).devMade = s.devMade := rfl
@[simp] theorem apSet_l2 (s : State) (off : Nat) (v : DWord) : (apSet s off v).l2 = s.l2 := rfl
@[simp] theorem apSet_arrived (s : State) (off : Nat) (v : DWord) : (apSet s off v).arrived = s.arrived := rfl
@[simp] theorem apSet_icinvOwed (s : State) (off : Nat) (v : DWord) : (apSet s off v).icinvOwed = s.icinvOwed := rfl
@[simp] theorem apSet_heldWrites (s : State) (off : Nat) (v : DWord) : (apSet s off v).heldWrites = s.heldWrites := rfl
@[simp] theorem apSet_tileWrites (s : State) (off : Nat) (v : DWord) : (apSet s off v).tileWrites = s.tileWrites := rfl
@[simp] theorem apSet_devWrites (s : State) (off : Nat) (v : DWord) : (apSet s off v).devWrites = s.devWrites := rfl
@[simp] theorem apSet_tlb (s : State) (off : Nat) (v : DWord) : (apSet s off v).tlb = s.tlb := rfl
@[simp] theorem apSet_rebuilt (s : State) (off : Nat) (v : DWord) : (apSet s off v).rebuilt = s.rebuilt := rfl
@[simp] theorem apSet_cores (s : State) (off : Nat) (v : DWord) : (apSet s off v).cores = s.cores := rfl
@[simp] theorem apSet_teams (s : State) (off : Nat) (v : DWord) : (apSet s off v).teams = s.teams := rfl
@[simp] theorem apSet_groups (s : State) (off : Nat) (v : DWord) : (apSet s off v).groups = s.groups := rfl
@[simp] theorem apSet_ops (s : State) (off : Nat) (v : DWord) : (apSet s off v).ops = s.ops := rfl
@[simp] theorem apSet_aops (s : State) (off : Nat) (v : DWord) : (apSet s off v).aops = s.aops := rfl
@[simp] theorem apSet_wqs (s : State) (off : Nat) (v : DWord) : (apSet s off v).wqs = s.wqs := rfl
@[simp] theorem apSet_grids (s : State) (off : Nat) (v : DWord) : (apSet s off v).grids = s.grids := rfl
@[simp] theorem apSet_lastWin (s : State) (off : Nat) (v : DWord) : (apSet s off v).lastWin = s.lastWin := rfl
@[simp] theorem apSet_binds (s : State) (off : Nat) (v : DWord) : (apSet s off v).binds = s.binds := rfl
@[simp] theorem apSet_early (s : State) (off : Nat) (v : DWord) : (apSet s off v).early = s.early := rfl
@[simp] theorem apSet_retries (s : State) (off : Nat) (v : DWord) : (apSet s off v).retries = s.retries := rfl
@[simp] theorem apSet_collSent (s : State) (off : Nat) (v : DWord) : (apSet s off v).collSent = s.collSent := rfl
@[simp] theorem apSet_pinsAway (s : State) (off : Nat) (v : DWord) : (apSet s off v).pinsAway = s.pinsAway := rfl
@[simp] theorem apSet_ports (s : State) (off : Nat) (v : DWord) : (apSet s off v).ports = s.ports := rfl
@[simp] theorem apSet_out (s : State) (off : Nat) (v : DWord) : (apSet s off v).out = s.out := rfl
@[simp] theorem apSet_waitOut (s : State) (off : Nat) (v : DWord) : (apSet s off v).waitOut = s.waitOut := rfl
@[simp] theorem apSet_queue (s : State) (off : Nat) (v : DWord) : (apSet s off v).queue = s.queue := rfl
@[simp] theorem apSet_deficit (s : State) (off : Nat) (v : DWord) : (apSet s off v).deficit = s.deficit := rfl
@[simp] theorem apSet_served (s : State) (off : Nat) (v : DWord) : (apSet s off v).served = s.served := rfl
@[simp] theorem apSet_trapWait (s : State) (off : Nat) (v : DWord) : (apSet s off v).trapWait = s.trapWait := rfl
@[simp] theorem apSet_openRecs (s : State) (off : Nat) (v : DWord) : (apSet s off v).openRecs = s.openRecs := rfl
@[simp] theorem apSet_xresBusy (s : State) (off : Nat) (v : DWord) : (apSet s off v).xresBusy = s.xresBusy := rfl
@[simp] theorem apSet_saved (s : State) (off : Nat) (v : DWord) : (apSet s off v).saved = s.saved := rfl
@[simp] theorem apSet_preempts (s : State) (off : Nat) (v : DWord) : (apSet s off v).preempts = s.preempts := rfl
@[simp] theorem apSet_kills (s : State) (off : Nat) (v : DWord) : (apSet s off v).kills = s.kills := rfl
@[simp] theorem apSet_owned (s : State) (off : Nat) (v : DWord) : (apSet s off v).owned = s.owned := rfl
@[simp] theorem apSet_images (s : State) (off : Nat) (v : DWord) : (apSet s off v).images = s.images := rfl
@[simp] theorem apSet_entered (s : State) (off : Nat) (v : DWord) : (apSet s off v).entered = s.entered := rfl
@[simp] theorem apSet_powered (s : State) (off : Nat) (v : DWord) : (apSet s off v).powered = s.powered := rfl
@[simp] theorem apSet_tripped (s : State) (off : Nat) (v : DWord) : (apSet s off v).tripped = s.tripped := rfl
@[simp] theorem apSet_lost (s : State) (off : Nat) (v : DWord) : (apSet s off v).lost = s.lost := rfl
@[simp] theorem apSet_shadowBad (s : State) (off : Nat) (v : DWord) : (apSet s off v).shadowBad = s.shadowBad := rfl
@[simp] theorem apSet_hdieDelay (s : State) (off : Nat) (v : DWord) : (apSet s off v).hdieDelay = s.hdieDelay := rfl
@[simp] theorem apSet_nextId (s : State) (off : Nat) (v : DWord) : (apSet s off v).nextId = s.nextId := rfl
@[simp] theorem apSet_sel (s : State) (off : Nat) (v : DWord) : (apSet s off v).sel = s.sel := rfl
@[simp] theorem apSet_turn (s : State) (off : Nat) (v : DWord) : (apSet s off v).turn = s.turn := rfl
@[simp] theorem apSet_agenda (s : State) (off : Nat) (v : DWord) : (apSet s off v).agenda = s.agenda := rfl

/-! ## send -/

/-- What sending leaves: anything but the messages on their way. -/
theorem send_keeps {α : Type} (f : State → α) (h : ∀ (t : State) (o w : List Msg), f { t with out := o, waitOut := w } = f t) (s : State)
    (m : Msg) : f (send s m) = f s := by
  unfold send
  by_cases a : silenced s m = true
  · rw [if_pos a]
  · rw [if_neg a]
    by_cases b : (channelPaused s m || sendsAfter s m) = true
    · rw [if_pos b]; exact h s s.out _
    · rw [if_neg b]; exact h s _ s.waitOut
@[simp] theorem send_ap (s : State) (m : Msg) : (send s m).ap = s.ap := send_keeps (·.ap) (fun _ _ _ => rfl) s m
@[simp] theorem send_ctl (s : State) (m : Msg) : (send s m).ctl = s.ctl := send_keeps (·.ctl) (fun _ _ _ => rfl) s m
@[simp] theorem send_ctlPoison (s : State) (m : Msg) : (send s m).ctlPoison = s.ctlPoison := send_keeps (·.ctlPoison) (fun _ _ _ => rfl) s m
@[simp] theorem send_ctlBad (s : State) (m : Msg) : (send s m).ctlBad = s.ctlBad := send_keeps (·.ctlBad) (fun _ _ _ => rfl) s m
@[simp] theorem send_ten (s : State) (m : Msg) : (send s m).ten = s.ten := send_keeps (·.ten) (fun _ _ _ => rfl) s m
@[simp] theorem send_tenPoison (s : State) (m : Msg) : (send s m).tenPoison = s.tenPoison := send_keeps (·.tenPoison) (fun _ _ _ => rfl) s m
@[simp] theorem send_tenBad (s : State) (m : Msg) : (send s m).tenBad = s.tenBad := send_keeps (·.tenBad) (fun _ _ _ => rfl) s m
@[simp] theorem send_ctxtab (s : State) (m : Msg) : (send s m).ctxtab = s.ctxtab := send_keeps (·.ctxtab) (fun _ _ _ => rfl) s m
@[simp] theorem send_lrank (s : State) (m : Msg) : (send s m).lrank = s.lrank := send_keeps (·.lrank) (fun _ _ _ => rfl) s m
@[simp] theorem send_schk (s : State) (m : Msg) : (send s m).schk = s.schk := send_keeps (·.schk) (fun _ _ _ => rfl) s m
@[simp] theorem send_shadow (s : State) (m : Msg) : (send s m).shadow = s.shadow := send_keeps (·.shadow) (fun _ _ _ => rfl) s m
@[simp] theorem send_scope (s : State) (m : Msg) : (send s m).scope = s.scope := send_keeps (·.scope) (fun _ _ _ => rfl) s m
@[simp] theorem send_dir (s : State) (m : Msg) : (send s m).dir = s.dir := send_keeps (·.dir) (fun _ _ _ => rfl) s m
@[simp] theorem send_regions (s : State) (m : Msg) : (send s m).regions = s.regions := send_keeps (·.regions) (fun _ _ _ => rfl) s m
@[simp] theorem send_hold (s : State) (m : Msg) : (send s m).hold = s.hold := send_keeps (·.hold) (fun _ _ _ => rfl) s m
@[simp] theorem send_tHeld (s : State) (m : Msg) : (send s m).tHeld = s.tHeld := send_keeps (·.tHeld) (fun _ _ _ => rfl) s m
@[simp] theorem send_lines (s : State) (m : Msg) : (send s m).lines = s.lines := send_keeps (·.lines) (fun _ _ _ => rfl) s m
@[simp] theorem send_mirror (s : State) (m : Msg) : (send s m).mirror = s.mirror := send_keeps (·.mirror) (fun _ _ _ => rfl) s m
@[simp] theorem send_mirrorPoison (s : State) (m : Msg) : (send s m).mirrorPoison = s.mirrorPoison := send_keeps (·.mirrorPoison) (fun _ _ _ => rfl) s m
@[simp] theorem send_mirrorBad (s : State) (m : Msg) : (send s m).mirrorBad = s.mirrorBad := send_keeps (·.mirrorBad) (fun _ _ _ => rfl) s m
@[simp] theorem send_dl (s : State) (m : Msg) : (send s m).dl = s.dl := send_keeps (·.dl) (fun _ _ _ => rfl) s m
@[simp] theorem send_mirrorOwed (s : State) (m : Msg) : (send s m).mirrorOwed = s.mirrorOwed := send_keeps (·.mirrorOwed) (fun _ _ _ => rfl) s m
@[simp] theorem send_mirrorThen (s : State) (m : Msg) : (send s m).mirrorThen = s.mirrorThen := send_keeps (·.mirrorThen) (fun _ _ _ => rfl) s m
@[simp] theorem send_devMade (s : State) (m : Msg) : (send s m).devMade = s.devMade := send_keeps (·.devMade) (fun _ _ _ => rfl) s m
@[simp] theorem send_l2 (s : State) (m : Msg) : (send s m).l2 = s.l2 := send_keeps (·.l2) (fun _ _ _ => rfl) s m
@[simp] theorem send_arrived (s : State) (m : Msg) : (send s m).arrived = s.arrived := send_keeps (·.arrived) (fun _ _ _ => rfl) s m
@[simp] theorem send_icinvOwed (s : State) (m : Msg) : (send s m).icinvOwed = s.icinvOwed := send_keeps (·.icinvOwed) (fun _ _ _ => rfl) s m
@[simp] theorem send_heldWrites (s : State) (m : Msg) : (send s m).heldWrites = s.heldWrites := send_keeps (·.heldWrites) (fun _ _ _ => rfl) s m
@[simp] theorem send_tileWrites (s : State) (m : Msg) : (send s m).tileWrites = s.tileWrites := send_keeps (·.tileWrites) (fun _ _ _ => rfl) s m
@[simp] theorem send_devWrites (s : State) (m : Msg) : (send s m).devWrites = s.devWrites := send_keeps (·.devWrites) (fun _ _ _ => rfl) s m
@[simp] theorem send_tlb (s : State) (m : Msg) : (send s m).tlb = s.tlb := send_keeps (·.tlb) (fun _ _ _ => rfl) s m
@[simp] theorem send_rebuilt (s : State) (m : Msg) : (send s m).rebuilt = s.rebuilt := send_keeps (·.rebuilt) (fun _ _ _ => rfl) s m
@[simp] theorem send_cores (s : State) (m : Msg) : (send s m).cores = s.cores := send_keeps (·.cores) (fun _ _ _ => rfl) s m
@[simp] theorem send_teams (s : State) (m : Msg) : (send s m).teams = s.teams := send_keeps (·.teams) (fun _ _ _ => rfl) s m
@[simp] theorem send_groups (s : State) (m : Msg) : (send s m).groups = s.groups := send_keeps (·.groups) (fun _ _ _ => rfl) s m
@[simp] theorem send_ops (s : State) (m : Msg) : (send s m).ops = s.ops := send_keeps (·.ops) (fun _ _ _ => rfl) s m
@[simp] theorem send_aops (s : State) (m : Msg) : (send s m).aops = s.aops := send_keeps (·.aops) (fun _ _ _ => rfl) s m
@[simp] theorem send_wqs (s : State) (m : Msg) : (send s m).wqs = s.wqs := send_keeps (·.wqs) (fun _ _ _ => rfl) s m
@[simp] theorem send_grids (s : State) (m : Msg) : (send s m).grids = s.grids := send_keeps (·.grids) (fun _ _ _ => rfl) s m
@[simp] theorem send_lastWin (s : State) (m : Msg) : (send s m).lastWin = s.lastWin := send_keeps (·.lastWin) (fun _ _ _ => rfl) s m
@[simp] theorem send_binds (s : State) (m : Msg) : (send s m).binds = s.binds := send_keeps (·.binds) (fun _ _ _ => rfl) s m
@[simp] theorem send_early (s : State) (m : Msg) : (send s m).early = s.early := send_keeps (·.early) (fun _ _ _ => rfl) s m
@[simp] theorem send_retries (s : State) (m : Msg) : (send s m).retries = s.retries := send_keeps (·.retries) (fun _ _ _ => rfl) s m
@[simp] theorem send_collSent (s : State) (m : Msg) : (send s m).collSent = s.collSent := send_keeps (·.collSent) (fun _ _ _ => rfl) s m
@[simp] theorem send_pinsAway (s : State) (m : Msg) : (send s m).pinsAway = s.pinsAway := send_keeps (·.pinsAway) (fun _ _ _ => rfl) s m
@[simp] theorem send_ports (s : State) (m : Msg) : (send s m).ports = s.ports := send_keeps (·.ports) (fun _ _ _ => rfl) s m
@[simp] theorem send_queue (s : State) (m : Msg) : (send s m).queue = s.queue := send_keeps (·.queue) (fun _ _ _ => rfl) s m
@[simp] theorem send_deficit (s : State) (m : Msg) : (send s m).deficit = s.deficit := send_keeps (·.deficit) (fun _ _ _ => rfl) s m
@[simp] theorem send_served (s : State) (m : Msg) : (send s m).served = s.served := send_keeps (·.served) (fun _ _ _ => rfl) s m
@[simp] theorem send_trapWait (s : State) (m : Msg) : (send s m).trapWait = s.trapWait := send_keeps (·.trapWait) (fun _ _ _ => rfl) s m
@[simp] theorem send_openRecs (s : State) (m : Msg) : (send s m).openRecs = s.openRecs := send_keeps (·.openRecs) (fun _ _ _ => rfl) s m
@[simp] theorem send_xresBusy (s : State) (m : Msg) : (send s m).xresBusy = s.xresBusy := send_keeps (·.xresBusy) (fun _ _ _ => rfl) s m
@[simp] theorem send_saved (s : State) (m : Msg) : (send s m).saved = s.saved := send_keeps (·.saved) (fun _ _ _ => rfl) s m
@[simp] theorem send_preempts (s : State) (m : Msg) : (send s m).preempts = s.preempts := send_keeps (·.preempts) (fun _ _ _ => rfl) s m
@[simp] theorem send_kills (s : State) (m : Msg) : (send s m).kills = s.kills := send_keeps (·.kills) (fun _ _ _ => rfl) s m
@[simp] theorem send_owned (s : State) (m : Msg) : (send s m).owned = s.owned := send_keeps (·.owned) (fun _ _ _ => rfl) s m
@[simp] theorem send_images (s : State) (m : Msg) : (send s m).images = s.images := send_keeps (·.images) (fun _ _ _ => rfl) s m
@[simp] theorem send_entered (s : State) (m : Msg) : (send s m).entered = s.entered := send_keeps (·.entered) (fun _ _ _ => rfl) s m
@[simp] theorem send_powered (s : State) (m : Msg) : (send s m).powered = s.powered := send_keeps (·.powered) (fun _ _ _ => rfl) s m
@[simp] theorem send_tripped (s : State) (m : Msg) : (send s m).tripped = s.tripped := send_keeps (·.tripped) (fun _ _ _ => rfl) s m
@[simp] theorem send_lost (s : State) (m : Msg) : (send s m).lost = s.lost := send_keeps (·.lost) (fun _ _ _ => rfl) s m
@[simp] theorem send_shadowBad (s : State) (m : Msg) : (send s m).shadowBad = s.shadowBad := send_keeps (·.shadowBad) (fun _ _ _ => rfl) s m
@[simp] theorem send_hdieDelay (s : State) (m : Msg) : (send s m).hdieDelay = s.hdieDelay := send_keeps (·.hdieDelay) (fun _ _ _ => rfl) s m
@[simp] theorem send_nextId (s : State) (m : Msg) : (send s m).nextId = s.nextId := send_keeps (·.nextId) (fun _ _ _ => rfl) s m
@[simp] theorem send_sel (s : State) (m : Msg) : (send s m).sel = s.sel := send_keeps (·.sel) (fun _ _ _ => rfl) s m
@[simp] theorem send_turn (s : State) (m : Msg) : (send s m).turn = s.turn := send_keeps (·.turn) (fun _ _ _ => rfl) s m
@[simp] theorem send_agenda (s : State) (m : Msg) : (send s m).agenda = s.agenda := send_keeps (·.agenda) (fun _ _ _ => rfl) s m

/-! ## modGroup -/

@[simp] theorem modGroup_ap (s : State) (gid : Nat) (f : Group → Group) : (modGroup s gid f).ap = s.ap := by unfold modGroup; split <;> rfl
@[simp] theorem modGroup_ctl (s : State) (gid : Nat) (f : Group → Group) : (modGroup s gid f).ctl = s.ctl := by unfold modGroup; split <;> rfl
@[simp] theorem modGroup_ctlPoison (s : State) (gid : Nat) (f : Group → Group) : (modGroup s gid f).ctlPoison = s.ctlPoison := by unfold modGroup; split <;> rfl
@[simp] theorem modGroup_ctlBad (s : State) (gid : Nat) (f : Group → Group) : (modGroup s gid f).ctlBad = s.ctlBad := by unfold modGroup; split <;> rfl
@[simp] theorem modGroup_ten (s : State) (gid : Nat) (f : Group → Group) : (modGroup s gid f).ten = s.ten := by unfold modGroup; split <;> rfl
@[simp] theorem modGroup_tenPoison (s : State) (gid : Nat) (f : Group → Group) : (modGroup s gid f).tenPoison = s.tenPoison := by unfold modGroup; split <;> rfl
@[simp] theorem modGroup_tenBad (s : State) (gid : Nat) (f : Group → Group) : (modGroup s gid f).tenBad = s.tenBad := by unfold modGroup; split <;> rfl
@[simp] theorem modGroup_ctxtab (s : State) (gid : Nat) (f : Group → Group) : (modGroup s gid f).ctxtab = s.ctxtab := by unfold modGroup; split <;> rfl
@[simp] theorem modGroup_lrank (s : State) (gid : Nat) (f : Group → Group) : (modGroup s gid f).lrank = s.lrank := by unfold modGroup; split <;> rfl
@[simp] theorem modGroup_schk (s : State) (gid : Nat) (f : Group → Group) : (modGroup s gid f).schk = s.schk := by unfold modGroup; split <;> rfl
@[simp] theorem modGroup_shadow (s : State) (gid : Nat) (f : Group → Group) : (modGroup s gid f).shadow = s.shadow := by unfold modGroup; split <;> rfl
@[simp] theorem modGroup_scope (s : State) (gid : Nat) (f : Group → Group) : (modGroup s gid f).scope = s.scope := by unfold modGroup; split <;> rfl
@[simp] theorem modGroup_dir (s : State) (gid : Nat) (f : Group → Group) : (modGroup s gid f).dir = s.dir := by unfold modGroup; split <;> rfl
@[simp] theorem modGroup_regions (s : State) (gid : Nat) (f : Group → Group) : (modGroup s gid f).regions = s.regions := by unfold modGroup; split <;> rfl
@[simp] theorem modGroup_hold (s : State) (gid : Nat) (f : Group → Group) : (modGroup s gid f).hold = s.hold := by unfold modGroup; split <;> rfl
@[simp] theorem modGroup_tHeld (s : State) (gid : Nat) (f : Group → Group) : (modGroup s gid f).tHeld = s.tHeld := by unfold modGroup; split <;> rfl
@[simp] theorem modGroup_lines (s : State) (gid : Nat) (f : Group → Group) : (modGroup s gid f).lines = s.lines := by unfold modGroup; split <;> rfl
@[simp] theorem modGroup_mirror (s : State) (gid : Nat) (f : Group → Group) : (modGroup s gid f).mirror = s.mirror := by unfold modGroup; split <;> rfl
@[simp] theorem modGroup_mirrorPoison (s : State) (gid : Nat) (f : Group → Group) : (modGroup s gid f).mirrorPoison = s.mirrorPoison := by unfold modGroup; split <;> rfl
@[simp] theorem modGroup_mirrorBad (s : State) (gid : Nat) (f : Group → Group) : (modGroup s gid f).mirrorBad = s.mirrorBad := by unfold modGroup; split <;> rfl
@[simp] theorem modGroup_dl (s : State) (gid : Nat) (f : Group → Group) : (modGroup s gid f).dl = s.dl := by unfold modGroup; split <;> rfl
@[simp] theorem modGroup_mirrorOwed (s : State) (gid : Nat) (f : Group → Group) : (modGroup s gid f).mirrorOwed = s.mirrorOwed := by unfold modGroup; split <;> rfl
@[simp] theorem modGroup_mirrorThen (s : State) (gid : Nat) (f : Group → Group) : (modGroup s gid f).mirrorThen = s.mirrorThen := by unfold modGroup; split <;> rfl
@[simp] theorem modGroup_devMade (s : State) (gid : Nat) (f : Group → Group) : (modGroup s gid f).devMade = s.devMade := by unfold modGroup; split <;> rfl
@[simp] theorem modGroup_l2 (s : State) (gid : Nat) (f : Group → Group) : (modGroup s gid f).l2 = s.l2 := by unfold modGroup; split <;> rfl
@[simp] theorem modGroup_arrived (s : State) (gid : Nat) (f : Group → Group) : (modGroup s gid f).arrived = s.arrived := by unfold modGroup; split <;> rfl
@[simp] theorem modGroup_icinvOwed (s : State) (gid : Nat) (f : Group → Group) : (modGroup s gid f).icinvOwed = s.icinvOwed := by unfold modGroup; split <;> rfl
@[simp] theorem modGroup_heldWrites (s : State) (gid : Nat) (f : Group → Group) : (modGroup s gid f).heldWrites = s.heldWrites := by unfold modGroup; split <;> rfl
@[simp] theorem modGroup_tileWrites (s : State) (gid : Nat) (f : Group → Group) : (modGroup s gid f).tileWrites = s.tileWrites := by unfold modGroup; split <;> rfl
@[simp] theorem modGroup_devWrites (s : State) (gid : Nat) (f : Group → Group) : (modGroup s gid f).devWrites = s.devWrites := by unfold modGroup; split <;> rfl
@[simp] theorem modGroup_tlb (s : State) (gid : Nat) (f : Group → Group) : (modGroup s gid f).tlb = s.tlb := by unfold modGroup; split <;> rfl
@[simp] theorem modGroup_rebuilt (s : State) (gid : Nat) (f : Group → Group) : (modGroup s gid f).rebuilt = s.rebuilt := by unfold modGroup; split <;> rfl
@[simp] theorem modGroup_cores (s : State) (gid : Nat) (f : Group → Group) : (modGroup s gid f).cores = s.cores := by unfold modGroup; split <;> rfl
@[simp] theorem modGroup_teams (s : State) (gid : Nat) (f : Group → Group) : (modGroup s gid f).teams = s.teams := by unfold modGroup; split <;> rfl
@[simp] theorem modGroup_ops (s : State) (gid : Nat) (f : Group → Group) : (modGroup s gid f).ops = s.ops := by unfold modGroup; split <;> rfl
@[simp] theorem modGroup_aops (s : State) (gid : Nat) (f : Group → Group) : (modGroup s gid f).aops = s.aops := by unfold modGroup; split <;> rfl
@[simp] theorem modGroup_wqs (s : State) (gid : Nat) (f : Group → Group) : (modGroup s gid f).wqs = s.wqs := by unfold modGroup; split <;> rfl
@[simp] theorem modGroup_grids (s : State) (gid : Nat) (f : Group → Group) : (modGroup s gid f).grids = s.grids := by unfold modGroup; split <;> rfl
@[simp] theorem modGroup_lastWin (s : State) (gid : Nat) (f : Group → Group) : (modGroup s gid f).lastWin = s.lastWin := by unfold modGroup; split <;> rfl
@[simp] theorem modGroup_binds (s : State) (gid : Nat) (f : Group → Group) : (modGroup s gid f).binds = s.binds := by unfold modGroup; split <;> rfl
@[simp] theorem modGroup_early (s : State) (gid : Nat) (f : Group → Group) : (modGroup s gid f).early = s.early := by unfold modGroup; split <;> rfl
@[simp] theorem modGroup_retries (s : State) (gid : Nat) (f : Group → Group) : (modGroup s gid f).retries = s.retries := by unfold modGroup; split <;> rfl
@[simp] theorem modGroup_collSent (s : State) (gid : Nat) (f : Group → Group) : (modGroup s gid f).collSent = s.collSent := by unfold modGroup; split <;> rfl
@[simp] theorem modGroup_pinsAway (s : State) (gid : Nat) (f : Group → Group) : (modGroup s gid f).pinsAway = s.pinsAway := by unfold modGroup; split <;> rfl
@[simp] theorem modGroup_ports (s : State) (gid : Nat) (f : Group → Group) : (modGroup s gid f).ports = s.ports := by unfold modGroup; split <;> rfl
@[simp] theorem modGroup_out (s : State) (gid : Nat) (f : Group → Group) : (modGroup s gid f).out = s.out := by unfold modGroup; split <;> rfl
@[simp] theorem modGroup_waitOut (s : State) (gid : Nat) (f : Group → Group) : (modGroup s gid f).waitOut = s.waitOut := by unfold modGroup; split <;> rfl
@[simp] theorem modGroup_queue (s : State) (gid : Nat) (f : Group → Group) : (modGroup s gid f).queue = s.queue := by unfold modGroup; split <;> rfl
@[simp] theorem modGroup_deficit (s : State) (gid : Nat) (f : Group → Group) : (modGroup s gid f).deficit = s.deficit := by unfold modGroup; split <;> rfl
@[simp] theorem modGroup_served (s : State) (gid : Nat) (f : Group → Group) : (modGroup s gid f).served = s.served := by unfold modGroup; split <;> rfl
@[simp] theorem modGroup_trapWait (s : State) (gid : Nat) (f : Group → Group) : (modGroup s gid f).trapWait = s.trapWait := by unfold modGroup; split <;> rfl
@[simp] theorem modGroup_openRecs (s : State) (gid : Nat) (f : Group → Group) : (modGroup s gid f).openRecs = s.openRecs := by unfold modGroup; split <;> rfl
@[simp] theorem modGroup_xresBusy (s : State) (gid : Nat) (f : Group → Group) : (modGroup s gid f).xresBusy = s.xresBusy := by unfold modGroup; split <;> rfl
@[simp] theorem modGroup_saved (s : State) (gid : Nat) (f : Group → Group) : (modGroup s gid f).saved = s.saved := by unfold modGroup; split <;> rfl
@[simp] theorem modGroup_preempts (s : State) (gid : Nat) (f : Group → Group) : (modGroup s gid f).preempts = s.preempts := by unfold modGroup; split <;> rfl
@[simp] theorem modGroup_kills (s : State) (gid : Nat) (f : Group → Group) : (modGroup s gid f).kills = s.kills := by unfold modGroup; split <;> rfl
@[simp] theorem modGroup_owned (s : State) (gid : Nat) (f : Group → Group) : (modGroup s gid f).owned = s.owned := by unfold modGroup; split <;> rfl
@[simp] theorem modGroup_images (s : State) (gid : Nat) (f : Group → Group) : (modGroup s gid f).images = s.images := by unfold modGroup; split <;> rfl
@[simp] theorem modGroup_entered (s : State) (gid : Nat) (f : Group → Group) : (modGroup s gid f).entered = s.entered := by unfold modGroup; split <;> rfl
@[simp] theorem modGroup_powered (s : State) (gid : Nat) (f : Group → Group) : (modGroup s gid f).powered = s.powered := by unfold modGroup; split <;> rfl
@[simp] theorem modGroup_tripped (s : State) (gid : Nat) (f : Group → Group) : (modGroup s gid f).tripped = s.tripped := by unfold modGroup; split <;> rfl
@[simp] theorem modGroup_lost (s : State) (gid : Nat) (f : Group → Group) : (modGroup s gid f).lost = s.lost := by unfold modGroup; split <;> rfl
@[simp] theorem modGroup_shadowBad (s : State) (gid : Nat) (f : Group → Group) : (modGroup s gid f).shadowBad = s.shadowBad := by unfold modGroup; split <;> rfl
@[simp] theorem modGroup_hdieDelay (s : State) (gid : Nat) (f : Group → Group) : (modGroup s gid f).hdieDelay = s.hdieDelay := by unfold modGroup; split <;> rfl
@[simp] theorem modGroup_nextId (s : State) (gid : Nat) (f : Group → Group) : (modGroup s gid f).nextId = s.nextId := by unfold modGroup; split <;> rfl
@[simp] theorem modGroup_sel (s : State) (gid : Nat) (f : Group → Group) : (modGroup s gid f).sel = s.sel := by unfold modGroup; split <;> rfl
@[simp] theorem modGroup_turn (s : State) (gid : Nat) (f : Group → Group) : (modGroup s gid f).turn = s.turn := by unfold modGroup; split <;> rfl
@[simp] theorem modGroup_agenda (s : State) (gid : Nat) (f : Group → Group) : (modGroup s gid f).agenda = s.agenda := by unfold modGroup; split <;> rfl

/-! ## modTeam -/

@[simp] theorem modTeam_ap (s : State) (tid : Nat) (f : Team → Team) : (modTeam s tid f).ap = s.ap := by unfold modTeam; split <;> rfl
@[simp] theorem modTeam_ctl (s : State) (tid : Nat) (f : Team → Team) : (modTeam s tid f).ctl = s.ctl := by unfold modTeam; split <;> rfl
@[simp] theorem modTeam_ctlPoison (s : State) (tid : Nat) (f : Team → Team) : (modTeam s tid f).ctlPoison = s.ctlPoison := by unfold modTeam; split <;> rfl
@[simp] theorem modTeam_ctlBad (s : State) (tid : Nat) (f : Team → Team) : (modTeam s tid f).ctlBad = s.ctlBad := by unfold modTeam; split <;> rfl
@[simp] theorem modTeam_ten (s : State) (tid : Nat) (f : Team → Team) : (modTeam s tid f).ten = s.ten := by unfold modTeam; split <;> rfl
@[simp] theorem modTeam_tenPoison (s : State) (tid : Nat) (f : Team → Team) : (modTeam s tid f).tenPoison = s.tenPoison := by unfold modTeam; split <;> rfl
@[simp] theorem modTeam_tenBad (s : State) (tid : Nat) (f : Team → Team) : (modTeam s tid f).tenBad = s.tenBad := by unfold modTeam; split <;> rfl
@[simp] theorem modTeam_ctxtab (s : State) (tid : Nat) (f : Team → Team) : (modTeam s tid f).ctxtab = s.ctxtab := by unfold modTeam; split <;> rfl
@[simp] theorem modTeam_lrank (s : State) (tid : Nat) (f : Team → Team) : (modTeam s tid f).lrank = s.lrank := by unfold modTeam; split <;> rfl
@[simp] theorem modTeam_schk (s : State) (tid : Nat) (f : Team → Team) : (modTeam s tid f).schk = s.schk := by unfold modTeam; split <;> rfl
@[simp] theorem modTeam_shadow (s : State) (tid : Nat) (f : Team → Team) : (modTeam s tid f).shadow = s.shadow := by unfold modTeam; split <;> rfl
@[simp] theorem modTeam_scope (s : State) (tid : Nat) (f : Team → Team) : (modTeam s tid f).scope = s.scope := by unfold modTeam; split <;> rfl
@[simp] theorem modTeam_dir (s : State) (tid : Nat) (f : Team → Team) : (modTeam s tid f).dir = s.dir := by unfold modTeam; split <;> rfl
@[simp] theorem modTeam_regions (s : State) (tid : Nat) (f : Team → Team) : (modTeam s tid f).regions = s.regions := by unfold modTeam; split <;> rfl
@[simp] theorem modTeam_hold (s : State) (tid : Nat) (f : Team → Team) : (modTeam s tid f).hold = s.hold := by unfold modTeam; split <;> rfl
@[simp] theorem modTeam_tHeld (s : State) (tid : Nat) (f : Team → Team) : (modTeam s tid f).tHeld = s.tHeld := by unfold modTeam; split <;> rfl
@[simp] theorem modTeam_lines (s : State) (tid : Nat) (f : Team → Team) : (modTeam s tid f).lines = s.lines := by unfold modTeam; split <;> rfl
@[simp] theorem modTeam_mirror (s : State) (tid : Nat) (f : Team → Team) : (modTeam s tid f).mirror = s.mirror := by unfold modTeam; split <;> rfl
@[simp] theorem modTeam_mirrorPoison (s : State) (tid : Nat) (f : Team → Team) : (modTeam s tid f).mirrorPoison = s.mirrorPoison := by unfold modTeam; split <;> rfl
@[simp] theorem modTeam_mirrorBad (s : State) (tid : Nat) (f : Team → Team) : (modTeam s tid f).mirrorBad = s.mirrorBad := by unfold modTeam; split <;> rfl
@[simp] theorem modTeam_dl (s : State) (tid : Nat) (f : Team → Team) : (modTeam s tid f).dl = s.dl := by unfold modTeam; split <;> rfl
@[simp] theorem modTeam_mirrorOwed (s : State) (tid : Nat) (f : Team → Team) : (modTeam s tid f).mirrorOwed = s.mirrorOwed := by unfold modTeam; split <;> rfl
@[simp] theorem modTeam_mirrorThen (s : State) (tid : Nat) (f : Team → Team) : (modTeam s tid f).mirrorThen = s.mirrorThen := by unfold modTeam; split <;> rfl
@[simp] theorem modTeam_devMade (s : State) (tid : Nat) (f : Team → Team) : (modTeam s tid f).devMade = s.devMade := by unfold modTeam; split <;> rfl
@[simp] theorem modTeam_l2 (s : State) (tid : Nat) (f : Team → Team) : (modTeam s tid f).l2 = s.l2 := by unfold modTeam; split <;> rfl
@[simp] theorem modTeam_arrived (s : State) (tid : Nat) (f : Team → Team) : (modTeam s tid f).arrived = s.arrived := by unfold modTeam; split <;> rfl
@[simp] theorem modTeam_icinvOwed (s : State) (tid : Nat) (f : Team → Team) : (modTeam s tid f).icinvOwed = s.icinvOwed := by unfold modTeam; split <;> rfl
@[simp] theorem modTeam_heldWrites (s : State) (tid : Nat) (f : Team → Team) : (modTeam s tid f).heldWrites = s.heldWrites := by unfold modTeam; split <;> rfl
@[simp] theorem modTeam_tileWrites (s : State) (tid : Nat) (f : Team → Team) : (modTeam s tid f).tileWrites = s.tileWrites := by unfold modTeam; split <;> rfl
@[simp] theorem modTeam_devWrites (s : State) (tid : Nat) (f : Team → Team) : (modTeam s tid f).devWrites = s.devWrites := by unfold modTeam; split <;> rfl
@[simp] theorem modTeam_tlb (s : State) (tid : Nat) (f : Team → Team) : (modTeam s tid f).tlb = s.tlb := by unfold modTeam; split <;> rfl
@[simp] theorem modTeam_rebuilt (s : State) (tid : Nat) (f : Team → Team) : (modTeam s tid f).rebuilt = s.rebuilt := by unfold modTeam; split <;> rfl
@[simp] theorem modTeam_cores (s : State) (tid : Nat) (f : Team → Team) : (modTeam s tid f).cores = s.cores := by unfold modTeam; split <;> rfl
@[simp] theorem modTeam_groups (s : State) (tid : Nat) (f : Team → Team) : (modTeam s tid f).groups = s.groups := by unfold modTeam; split <;> rfl
@[simp] theorem modTeam_ops (s : State) (tid : Nat) (f : Team → Team) : (modTeam s tid f).ops = s.ops := by unfold modTeam; split <;> rfl
@[simp] theorem modTeam_aops (s : State) (tid : Nat) (f : Team → Team) : (modTeam s tid f).aops = s.aops := by unfold modTeam; split <;> rfl
@[simp] theorem modTeam_wqs (s : State) (tid : Nat) (f : Team → Team) : (modTeam s tid f).wqs = s.wqs := by unfold modTeam; split <;> rfl
@[simp] theorem modTeam_grids (s : State) (tid : Nat) (f : Team → Team) : (modTeam s tid f).grids = s.grids := by unfold modTeam; split <;> rfl
@[simp] theorem modTeam_lastWin (s : State) (tid : Nat) (f : Team → Team) : (modTeam s tid f).lastWin = s.lastWin := by unfold modTeam; split <;> rfl
@[simp] theorem modTeam_binds (s : State) (tid : Nat) (f : Team → Team) : (modTeam s tid f).binds = s.binds := by unfold modTeam; split <;> rfl
@[simp] theorem modTeam_early (s : State) (tid : Nat) (f : Team → Team) : (modTeam s tid f).early = s.early := by unfold modTeam; split <;> rfl
@[simp] theorem modTeam_retries (s : State) (tid : Nat) (f : Team → Team) : (modTeam s tid f).retries = s.retries := by unfold modTeam; split <;> rfl
@[simp] theorem modTeam_collSent (s : State) (tid : Nat) (f : Team → Team) : (modTeam s tid f).collSent = s.collSent := by unfold modTeam; split <;> rfl
@[simp] theorem modTeam_pinsAway (s : State) (tid : Nat) (f : Team → Team) : (modTeam s tid f).pinsAway = s.pinsAway := by unfold modTeam; split <;> rfl
@[simp] theorem modTeam_ports (s : State) (tid : Nat) (f : Team → Team) : (modTeam s tid f).ports = s.ports := by unfold modTeam; split <;> rfl
@[simp] theorem modTeam_out (s : State) (tid : Nat) (f : Team → Team) : (modTeam s tid f).out = s.out := by unfold modTeam; split <;> rfl
@[simp] theorem modTeam_waitOut (s : State) (tid : Nat) (f : Team → Team) : (modTeam s tid f).waitOut = s.waitOut := by unfold modTeam; split <;> rfl
@[simp] theorem modTeam_queue (s : State) (tid : Nat) (f : Team → Team) : (modTeam s tid f).queue = s.queue := by unfold modTeam; split <;> rfl
@[simp] theorem modTeam_deficit (s : State) (tid : Nat) (f : Team → Team) : (modTeam s tid f).deficit = s.deficit := by unfold modTeam; split <;> rfl
@[simp] theorem modTeam_served (s : State) (tid : Nat) (f : Team → Team) : (modTeam s tid f).served = s.served := by unfold modTeam; split <;> rfl
@[simp] theorem modTeam_trapWait (s : State) (tid : Nat) (f : Team → Team) : (modTeam s tid f).trapWait = s.trapWait := by unfold modTeam; split <;> rfl
@[simp] theorem modTeam_openRecs (s : State) (tid : Nat) (f : Team → Team) : (modTeam s tid f).openRecs = s.openRecs := by unfold modTeam; split <;> rfl
@[simp] theorem modTeam_xresBusy (s : State) (tid : Nat) (f : Team → Team) : (modTeam s tid f).xresBusy = s.xresBusy := by unfold modTeam; split <;> rfl
@[simp] theorem modTeam_saved (s : State) (tid : Nat) (f : Team → Team) : (modTeam s tid f).saved = s.saved := by unfold modTeam; split <;> rfl
@[simp] theorem modTeam_preempts (s : State) (tid : Nat) (f : Team → Team) : (modTeam s tid f).preempts = s.preempts := by unfold modTeam; split <;> rfl
@[simp] theorem modTeam_kills (s : State) (tid : Nat) (f : Team → Team) : (modTeam s tid f).kills = s.kills := by unfold modTeam; split <;> rfl
@[simp] theorem modTeam_owned (s : State) (tid : Nat) (f : Team → Team) : (modTeam s tid f).owned = s.owned := by unfold modTeam; split <;> rfl
@[simp] theorem modTeam_images (s : State) (tid : Nat) (f : Team → Team) : (modTeam s tid f).images = s.images := by unfold modTeam; split <;> rfl
@[simp] theorem modTeam_entered (s : State) (tid : Nat) (f : Team → Team) : (modTeam s tid f).entered = s.entered := by unfold modTeam; split <;> rfl
@[simp] theorem modTeam_powered (s : State) (tid : Nat) (f : Team → Team) : (modTeam s tid f).powered = s.powered := by unfold modTeam; split <;> rfl
@[simp] theorem modTeam_tripped (s : State) (tid : Nat) (f : Team → Team) : (modTeam s tid f).tripped = s.tripped := by unfold modTeam; split <;> rfl
@[simp] theorem modTeam_lost (s : State) (tid : Nat) (f : Team → Team) : (modTeam s tid f).lost = s.lost := by unfold modTeam; split <;> rfl
@[simp] theorem modTeam_shadowBad (s : State) (tid : Nat) (f : Team → Team) : (modTeam s tid f).shadowBad = s.shadowBad := by unfold modTeam; split <;> rfl
@[simp] theorem modTeam_hdieDelay (s : State) (tid : Nat) (f : Team → Team) : (modTeam s tid f).hdieDelay = s.hdieDelay := by unfold modTeam; split <;> rfl
@[simp] theorem modTeam_nextId (s : State) (tid : Nat) (f : Team → Team) : (modTeam s tid f).nextId = s.nextId := by unfold modTeam; split <;> rfl
@[simp] theorem modTeam_sel (s : State) (tid : Nat) (f : Team → Team) : (modTeam s tid f).sel = s.sel := by unfold modTeam; split <;> rfl
@[simp] theorem modTeam_turn (s : State) (tid : Nat) (f : Team → Team) : (modTeam s tid f).turn = s.turn := by unfold modTeam; split <;> rfl
@[simp] theorem modTeam_agenda (s : State) (tid : Nat) (f : Team → Team) : (modTeam s tid f).agenda = s.agenda := by unfold modTeam; split <;> rfl

/-! ## pushWrite, raise, dropAhead and moveLanes -/

@[simp] theorem pushWrite_ap (s : State) (gid : Nat) (w : PWrite) : (pushWrite s gid w).ap = s.ap := modGroup_ap s gid _
@[simp] theorem pushWrite_ctl (s : State) (gid : Nat) (w : PWrite) : (pushWrite s gid w).ctl = s.ctl := modGroup_ctl s gid _
@[simp] theorem pushWrite_ctlPoison (s : State) (gid : Nat) (w : PWrite) : (pushWrite s gid w).ctlPoison = s.ctlPoison := modGroup_ctlPoison s gid _
@[simp] theorem pushWrite_ctlBad (s : State) (gid : Nat) (w : PWrite) : (pushWrite s gid w).ctlBad = s.ctlBad := modGroup_ctlBad s gid _
@[simp] theorem pushWrite_ten (s : State) (gid : Nat) (w : PWrite) : (pushWrite s gid w).ten = s.ten := modGroup_ten s gid _
@[simp] theorem pushWrite_tenPoison (s : State) (gid : Nat) (w : PWrite) : (pushWrite s gid w).tenPoison = s.tenPoison := modGroup_tenPoison s gid _
@[simp] theorem pushWrite_tenBad (s : State) (gid : Nat) (w : PWrite) : (pushWrite s gid w).tenBad = s.tenBad := modGroup_tenBad s gid _
@[simp] theorem pushWrite_ctxtab (s : State) (gid : Nat) (w : PWrite) : (pushWrite s gid w).ctxtab = s.ctxtab := modGroup_ctxtab s gid _
@[simp] theorem pushWrite_lrank (s : State) (gid : Nat) (w : PWrite) : (pushWrite s gid w).lrank = s.lrank := modGroup_lrank s gid _
@[simp] theorem pushWrite_schk (s : State) (gid : Nat) (w : PWrite) : (pushWrite s gid w).schk = s.schk := modGroup_schk s gid _
@[simp] theorem pushWrite_shadow (s : State) (gid : Nat) (w : PWrite) : (pushWrite s gid w).shadow = s.shadow := modGroup_shadow s gid _
@[simp] theorem pushWrite_scope (s : State) (gid : Nat) (w : PWrite) : (pushWrite s gid w).scope = s.scope := modGroup_scope s gid _
@[simp] theorem pushWrite_dir (s : State) (gid : Nat) (w : PWrite) : (pushWrite s gid w).dir = s.dir := modGroup_dir s gid _
@[simp] theorem pushWrite_regions (s : State) (gid : Nat) (w : PWrite) : (pushWrite s gid w).regions = s.regions := modGroup_regions s gid _
@[simp] theorem pushWrite_hold (s : State) (gid : Nat) (w : PWrite) : (pushWrite s gid w).hold = s.hold := modGroup_hold s gid _
@[simp] theorem pushWrite_tHeld (s : State) (gid : Nat) (w : PWrite) : (pushWrite s gid w).tHeld = s.tHeld := modGroup_tHeld s gid _
@[simp] theorem pushWrite_lines (s : State) (gid : Nat) (w : PWrite) : (pushWrite s gid w).lines = s.lines := modGroup_lines s gid _
@[simp] theorem pushWrite_mirror (s : State) (gid : Nat) (w : PWrite) : (pushWrite s gid w).mirror = s.mirror := modGroup_mirror s gid _
@[simp] theorem pushWrite_mirrorPoison (s : State) (gid : Nat) (w : PWrite) : (pushWrite s gid w).mirrorPoison = s.mirrorPoison := modGroup_mirrorPoison s gid _
@[simp] theorem pushWrite_mirrorBad (s : State) (gid : Nat) (w : PWrite) : (pushWrite s gid w).mirrorBad = s.mirrorBad := modGroup_mirrorBad s gid _
@[simp] theorem pushWrite_dl (s : State) (gid : Nat) (w : PWrite) : (pushWrite s gid w).dl = s.dl := modGroup_dl s gid _
@[simp] theorem pushWrite_mirrorOwed (s : State) (gid : Nat) (w : PWrite) : (pushWrite s gid w).mirrorOwed = s.mirrorOwed := modGroup_mirrorOwed s gid _
@[simp] theorem pushWrite_mirrorThen (s : State) (gid : Nat) (w : PWrite) : (pushWrite s gid w).mirrorThen = s.mirrorThen := modGroup_mirrorThen s gid _
@[simp] theorem pushWrite_devMade (s : State) (gid : Nat) (w : PWrite) : (pushWrite s gid w).devMade = s.devMade := modGroup_devMade s gid _
@[simp] theorem pushWrite_l2 (s : State) (gid : Nat) (w : PWrite) : (pushWrite s gid w).l2 = s.l2 := modGroup_l2 s gid _
@[simp] theorem pushWrite_arrived (s : State) (gid : Nat) (w : PWrite) : (pushWrite s gid w).arrived = s.arrived := modGroup_arrived s gid _
@[simp] theorem pushWrite_icinvOwed (s : State) (gid : Nat) (w : PWrite) : (pushWrite s gid w).icinvOwed = s.icinvOwed := modGroup_icinvOwed s gid _
@[simp] theorem pushWrite_heldWrites (s : State) (gid : Nat) (w : PWrite) : (pushWrite s gid w).heldWrites = s.heldWrites := modGroup_heldWrites s gid _
@[simp] theorem pushWrite_tileWrites (s : State) (gid : Nat) (w : PWrite) : (pushWrite s gid w).tileWrites = s.tileWrites := modGroup_tileWrites s gid _
@[simp] theorem pushWrite_devWrites (s : State) (gid : Nat) (w : PWrite) : (pushWrite s gid w).devWrites = s.devWrites := modGroup_devWrites s gid _
@[simp] theorem pushWrite_tlb (s : State) (gid : Nat) (w : PWrite) : (pushWrite s gid w).tlb = s.tlb := modGroup_tlb s gid _
@[simp] theorem pushWrite_rebuilt (s : State) (gid : Nat) (w : PWrite) : (pushWrite s gid w).rebuilt = s.rebuilt := modGroup_rebuilt s gid _
@[simp] theorem pushWrite_cores (s : State) (gid : Nat) (w : PWrite) : (pushWrite s gid w).cores = s.cores := modGroup_cores s gid _
@[simp] theorem pushWrite_teams (s : State) (gid : Nat) (w : PWrite) : (pushWrite s gid w).teams = s.teams := modGroup_teams s gid _
@[simp] theorem pushWrite_ops (s : State) (gid : Nat) (w : PWrite) : (pushWrite s gid w).ops = s.ops := modGroup_ops s gid _
@[simp] theorem pushWrite_aops (s : State) (gid : Nat) (w : PWrite) : (pushWrite s gid w).aops = s.aops := modGroup_aops s gid _
@[simp] theorem pushWrite_wqs (s : State) (gid : Nat) (w : PWrite) : (pushWrite s gid w).wqs = s.wqs := modGroup_wqs s gid _
@[simp] theorem pushWrite_grids (s : State) (gid : Nat) (w : PWrite) : (pushWrite s gid w).grids = s.grids := modGroup_grids s gid _
@[simp] theorem pushWrite_lastWin (s : State) (gid : Nat) (w : PWrite) : (pushWrite s gid w).lastWin = s.lastWin := modGroup_lastWin s gid _
@[simp] theorem pushWrite_binds (s : State) (gid : Nat) (w : PWrite) : (pushWrite s gid w).binds = s.binds := modGroup_binds s gid _
@[simp] theorem pushWrite_early (s : State) (gid : Nat) (w : PWrite) : (pushWrite s gid w).early = s.early := modGroup_early s gid _
@[simp] theorem pushWrite_retries (s : State) (gid : Nat) (w : PWrite) : (pushWrite s gid w).retries = s.retries := modGroup_retries s gid _
@[simp] theorem pushWrite_collSent (s : State) (gid : Nat) (w : PWrite) : (pushWrite s gid w).collSent = s.collSent := modGroup_collSent s gid _
@[simp] theorem pushWrite_pinsAway (s : State) (gid : Nat) (w : PWrite) : (pushWrite s gid w).pinsAway = s.pinsAway := modGroup_pinsAway s gid _
@[simp] theorem pushWrite_ports (s : State) (gid : Nat) (w : PWrite) : (pushWrite s gid w).ports = s.ports := modGroup_ports s gid _
@[simp] theorem pushWrite_out (s : State) (gid : Nat) (w : PWrite) : (pushWrite s gid w).out = s.out := modGroup_out s gid _
@[simp] theorem pushWrite_waitOut (s : State) (gid : Nat) (w : PWrite) : (pushWrite s gid w).waitOut = s.waitOut := modGroup_waitOut s gid _
@[simp] theorem pushWrite_queue (s : State) (gid : Nat) (w : PWrite) : (pushWrite s gid w).queue = s.queue := modGroup_queue s gid _
@[simp] theorem pushWrite_deficit (s : State) (gid : Nat) (w : PWrite) : (pushWrite s gid w).deficit = s.deficit := modGroup_deficit s gid _
@[simp] theorem pushWrite_served (s : State) (gid : Nat) (w : PWrite) : (pushWrite s gid w).served = s.served := modGroup_served s gid _
@[simp] theorem pushWrite_trapWait (s : State) (gid : Nat) (w : PWrite) : (pushWrite s gid w).trapWait = s.trapWait := modGroup_trapWait s gid _
@[simp] theorem pushWrite_openRecs (s : State) (gid : Nat) (w : PWrite) : (pushWrite s gid w).openRecs = s.openRecs := modGroup_openRecs s gid _
@[simp] theorem pushWrite_xresBusy (s : State) (gid : Nat) (w : PWrite) : (pushWrite s gid w).xresBusy = s.xresBusy := modGroup_xresBusy s gid _
@[simp] theorem pushWrite_saved (s : State) (gid : Nat) (w : PWrite) : (pushWrite s gid w).saved = s.saved := modGroup_saved s gid _
@[simp] theorem pushWrite_preempts (s : State) (gid : Nat) (w : PWrite) : (pushWrite s gid w).preempts = s.preempts := modGroup_preempts s gid _
@[simp] theorem pushWrite_kills (s : State) (gid : Nat) (w : PWrite) : (pushWrite s gid w).kills = s.kills := modGroup_kills s gid _
@[simp] theorem pushWrite_owned (s : State) (gid : Nat) (w : PWrite) : (pushWrite s gid w).owned = s.owned := modGroup_owned s gid _
@[simp] theorem pushWrite_images (s : State) (gid : Nat) (w : PWrite) : (pushWrite s gid w).images = s.images := modGroup_images s gid _
@[simp] theorem pushWrite_entered (s : State) (gid : Nat) (w : PWrite) : (pushWrite s gid w).entered = s.entered := modGroup_entered s gid _
@[simp] theorem pushWrite_powered (s : State) (gid : Nat) (w : PWrite) : (pushWrite s gid w).powered = s.powered := modGroup_powered s gid _
@[simp] theorem pushWrite_tripped (s : State) (gid : Nat) (w : PWrite) : (pushWrite s gid w).tripped = s.tripped := modGroup_tripped s gid _
@[simp] theorem pushWrite_lost (s : State) (gid : Nat) (w : PWrite) : (pushWrite s gid w).lost = s.lost := modGroup_lost s gid _
@[simp] theorem pushWrite_shadowBad (s : State) (gid : Nat) (w : PWrite) : (pushWrite s gid w).shadowBad = s.shadowBad := modGroup_shadowBad s gid _
@[simp] theorem pushWrite_hdieDelay (s : State) (gid : Nat) (w : PWrite) : (pushWrite s gid w).hdieDelay = s.hdieDelay := modGroup_hdieDelay s gid _
@[simp] theorem pushWrite_nextId (s : State) (gid : Nat) (w : PWrite) : (pushWrite s gid w).nextId = s.nextId := modGroup_nextId s gid _
@[simp] theorem pushWrite_sel (s : State) (gid : Nat) (w : PWrite) : (pushWrite s gid w).sel = s.sel := modGroup_sel s gid _
@[simp] theorem pushWrite_turn (s : State) (gid : Nat) (w : PWrite) : (pushWrite s gid w).turn = s.turn := modGroup_turn s gid _
@[simp] theorem pushWrite_agenda (s : State) (gid : Nat) (w : PWrite) : (pushWrite s gid w).agenda = s.agenda := modGroup_agenda s gid _
@[simp] theorem raise_ap (s : State) (gid : Nat) (p : Byte) (pc : DWord) (r : Raise) : (raise s gid p pc r).ap = s.ap := modGroup_ap s gid _
@[simp] theorem raise_ctl (s : State) (gid : Nat) (p : Byte) (pc : DWord) (r : Raise) : (raise s gid p pc r).ctl = s.ctl := modGroup_ctl s gid _
@[simp] theorem raise_ctlPoison (s : State) (gid : Nat) (p : Byte) (pc : DWord) (r : Raise) : (raise s gid p pc r).ctlPoison = s.ctlPoison := modGroup_ctlPoison s gid _
@[simp] theorem raise_ctlBad (s : State) (gid : Nat) (p : Byte) (pc : DWord) (r : Raise) : (raise s gid p pc r).ctlBad = s.ctlBad := modGroup_ctlBad s gid _
@[simp] theorem raise_ten (s : State) (gid : Nat) (p : Byte) (pc : DWord) (r : Raise) : (raise s gid p pc r).ten = s.ten := modGroup_ten s gid _
@[simp] theorem raise_tenPoison (s : State) (gid : Nat) (p : Byte) (pc : DWord) (r : Raise) : (raise s gid p pc r).tenPoison = s.tenPoison := modGroup_tenPoison s gid _
@[simp] theorem raise_tenBad (s : State) (gid : Nat) (p : Byte) (pc : DWord) (r : Raise) : (raise s gid p pc r).tenBad = s.tenBad := modGroup_tenBad s gid _
@[simp] theorem raise_ctxtab (s : State) (gid : Nat) (p : Byte) (pc : DWord) (r : Raise) : (raise s gid p pc r).ctxtab = s.ctxtab := modGroup_ctxtab s gid _
@[simp] theorem raise_lrank (s : State) (gid : Nat) (p : Byte) (pc : DWord) (r : Raise) : (raise s gid p pc r).lrank = s.lrank := modGroup_lrank s gid _
@[simp] theorem raise_schk (s : State) (gid : Nat) (p : Byte) (pc : DWord) (r : Raise) : (raise s gid p pc r).schk = s.schk := modGroup_schk s gid _
@[simp] theorem raise_shadow (s : State) (gid : Nat) (p : Byte) (pc : DWord) (r : Raise) : (raise s gid p pc r).shadow = s.shadow := modGroup_shadow s gid _
@[simp] theorem raise_scope (s : State) (gid : Nat) (p : Byte) (pc : DWord) (r : Raise) : (raise s gid p pc r).scope = s.scope := modGroup_scope s gid _
@[simp] theorem raise_dir (s : State) (gid : Nat) (p : Byte) (pc : DWord) (r : Raise) : (raise s gid p pc r).dir = s.dir := modGroup_dir s gid _
@[simp] theorem raise_regions (s : State) (gid : Nat) (p : Byte) (pc : DWord) (r : Raise) : (raise s gid p pc r).regions = s.regions := modGroup_regions s gid _
@[simp] theorem raise_hold (s : State) (gid : Nat) (p : Byte) (pc : DWord) (r : Raise) : (raise s gid p pc r).hold = s.hold := modGroup_hold s gid _
@[simp] theorem raise_tHeld (s : State) (gid : Nat) (p : Byte) (pc : DWord) (r : Raise) : (raise s gid p pc r).tHeld = s.tHeld := modGroup_tHeld s gid _
@[simp] theorem raise_lines (s : State) (gid : Nat) (p : Byte) (pc : DWord) (r : Raise) : (raise s gid p pc r).lines = s.lines := modGroup_lines s gid _
@[simp] theorem raise_mirror (s : State) (gid : Nat) (p : Byte) (pc : DWord) (r : Raise) : (raise s gid p pc r).mirror = s.mirror := modGroup_mirror s gid _
@[simp] theorem raise_mirrorPoison (s : State) (gid : Nat) (p : Byte) (pc : DWord) (r : Raise) : (raise s gid p pc r).mirrorPoison = s.mirrorPoison := modGroup_mirrorPoison s gid _
@[simp] theorem raise_mirrorBad (s : State) (gid : Nat) (p : Byte) (pc : DWord) (r : Raise) : (raise s gid p pc r).mirrorBad = s.mirrorBad := modGroup_mirrorBad s gid _
@[simp] theorem raise_dl (s : State) (gid : Nat) (p : Byte) (pc : DWord) (r : Raise) : (raise s gid p pc r).dl = s.dl := modGroup_dl s gid _
@[simp] theorem raise_mirrorOwed (s : State) (gid : Nat) (p : Byte) (pc : DWord) (r : Raise) : (raise s gid p pc r).mirrorOwed = s.mirrorOwed := modGroup_mirrorOwed s gid _
@[simp] theorem raise_mirrorThen (s : State) (gid : Nat) (p : Byte) (pc : DWord) (r : Raise) : (raise s gid p pc r).mirrorThen = s.mirrorThen := modGroup_mirrorThen s gid _
@[simp] theorem raise_devMade (s : State) (gid : Nat) (p : Byte) (pc : DWord) (r : Raise) : (raise s gid p pc r).devMade = s.devMade := modGroup_devMade s gid _
@[simp] theorem raise_l2 (s : State) (gid : Nat) (p : Byte) (pc : DWord) (r : Raise) : (raise s gid p pc r).l2 = s.l2 := modGroup_l2 s gid _
@[simp] theorem raise_arrived (s : State) (gid : Nat) (p : Byte) (pc : DWord) (r : Raise) : (raise s gid p pc r).arrived = s.arrived := modGroup_arrived s gid _
@[simp] theorem raise_icinvOwed (s : State) (gid : Nat) (p : Byte) (pc : DWord) (r : Raise) : (raise s gid p pc r).icinvOwed = s.icinvOwed := modGroup_icinvOwed s gid _
@[simp] theorem raise_heldWrites (s : State) (gid : Nat) (p : Byte) (pc : DWord) (r : Raise) : (raise s gid p pc r).heldWrites = s.heldWrites := modGroup_heldWrites s gid _
@[simp] theorem raise_tileWrites (s : State) (gid : Nat) (p : Byte) (pc : DWord) (r : Raise) : (raise s gid p pc r).tileWrites = s.tileWrites := modGroup_tileWrites s gid _
@[simp] theorem raise_devWrites (s : State) (gid : Nat) (p : Byte) (pc : DWord) (r : Raise) : (raise s gid p pc r).devWrites = s.devWrites := modGroup_devWrites s gid _
@[simp] theorem raise_tlb (s : State) (gid : Nat) (p : Byte) (pc : DWord) (r : Raise) : (raise s gid p pc r).tlb = s.tlb := modGroup_tlb s gid _
@[simp] theorem raise_rebuilt (s : State) (gid : Nat) (p : Byte) (pc : DWord) (r : Raise) : (raise s gid p pc r).rebuilt = s.rebuilt := modGroup_rebuilt s gid _
@[simp] theorem raise_cores (s : State) (gid : Nat) (p : Byte) (pc : DWord) (r : Raise) : (raise s gid p pc r).cores = s.cores := modGroup_cores s gid _
@[simp] theorem raise_teams (s : State) (gid : Nat) (p : Byte) (pc : DWord) (r : Raise) : (raise s gid p pc r).teams = s.teams := modGroup_teams s gid _
@[simp] theorem raise_ops (s : State) (gid : Nat) (p : Byte) (pc : DWord) (r : Raise) : (raise s gid p pc r).ops = s.ops := modGroup_ops s gid _
@[simp] theorem raise_aops (s : State) (gid : Nat) (p : Byte) (pc : DWord) (r : Raise) : (raise s gid p pc r).aops = s.aops := modGroup_aops s gid _
@[simp] theorem raise_wqs (s : State) (gid : Nat) (p : Byte) (pc : DWord) (r : Raise) : (raise s gid p pc r).wqs = s.wqs := modGroup_wqs s gid _
@[simp] theorem raise_grids (s : State) (gid : Nat) (p : Byte) (pc : DWord) (r : Raise) : (raise s gid p pc r).grids = s.grids := modGroup_grids s gid _
@[simp] theorem raise_lastWin (s : State) (gid : Nat) (p : Byte) (pc : DWord) (r : Raise) : (raise s gid p pc r).lastWin = s.lastWin := modGroup_lastWin s gid _
@[simp] theorem raise_binds (s : State) (gid : Nat) (p : Byte) (pc : DWord) (r : Raise) : (raise s gid p pc r).binds = s.binds := modGroup_binds s gid _
@[simp] theorem raise_early (s : State) (gid : Nat) (p : Byte) (pc : DWord) (r : Raise) : (raise s gid p pc r).early = s.early := modGroup_early s gid _
@[simp] theorem raise_retries (s : State) (gid : Nat) (p : Byte) (pc : DWord) (r : Raise) : (raise s gid p pc r).retries = s.retries := modGroup_retries s gid _
@[simp] theorem raise_collSent (s : State) (gid : Nat) (p : Byte) (pc : DWord) (r : Raise) : (raise s gid p pc r).collSent = s.collSent := modGroup_collSent s gid _
@[simp] theorem raise_pinsAway (s : State) (gid : Nat) (p : Byte) (pc : DWord) (r : Raise) : (raise s gid p pc r).pinsAway = s.pinsAway := modGroup_pinsAway s gid _
@[simp] theorem raise_ports (s : State) (gid : Nat) (p : Byte) (pc : DWord) (r : Raise) : (raise s gid p pc r).ports = s.ports := modGroup_ports s gid _
@[simp] theorem raise_out (s : State) (gid : Nat) (p : Byte) (pc : DWord) (r : Raise) : (raise s gid p pc r).out = s.out := modGroup_out s gid _
@[simp] theorem raise_waitOut (s : State) (gid : Nat) (p : Byte) (pc : DWord) (r : Raise) : (raise s gid p pc r).waitOut = s.waitOut := modGroup_waitOut s gid _
@[simp] theorem raise_queue (s : State) (gid : Nat) (p : Byte) (pc : DWord) (r : Raise) : (raise s gid p pc r).queue = s.queue := modGroup_queue s gid _
@[simp] theorem raise_deficit (s : State) (gid : Nat) (p : Byte) (pc : DWord) (r : Raise) : (raise s gid p pc r).deficit = s.deficit := modGroup_deficit s gid _
@[simp] theorem raise_served (s : State) (gid : Nat) (p : Byte) (pc : DWord) (r : Raise) : (raise s gid p pc r).served = s.served := modGroup_served s gid _
@[simp] theorem raise_trapWait (s : State) (gid : Nat) (p : Byte) (pc : DWord) (r : Raise) : (raise s gid p pc r).trapWait = s.trapWait := modGroup_trapWait s gid _
@[simp] theorem raise_openRecs (s : State) (gid : Nat) (p : Byte) (pc : DWord) (r : Raise) : (raise s gid p pc r).openRecs = s.openRecs := modGroup_openRecs s gid _
@[simp] theorem raise_xresBusy (s : State) (gid : Nat) (p : Byte) (pc : DWord) (r : Raise) : (raise s gid p pc r).xresBusy = s.xresBusy := modGroup_xresBusy s gid _
@[simp] theorem raise_saved (s : State) (gid : Nat) (p : Byte) (pc : DWord) (r : Raise) : (raise s gid p pc r).saved = s.saved := modGroup_saved s gid _
@[simp] theorem raise_preempts (s : State) (gid : Nat) (p : Byte) (pc : DWord) (r : Raise) : (raise s gid p pc r).preempts = s.preempts := modGroup_preempts s gid _
@[simp] theorem raise_kills (s : State) (gid : Nat) (p : Byte) (pc : DWord) (r : Raise) : (raise s gid p pc r).kills = s.kills := modGroup_kills s gid _
@[simp] theorem raise_owned (s : State) (gid : Nat) (p : Byte) (pc : DWord) (r : Raise) : (raise s gid p pc r).owned = s.owned := modGroup_owned s gid _
@[simp] theorem raise_images (s : State) (gid : Nat) (p : Byte) (pc : DWord) (r : Raise) : (raise s gid p pc r).images = s.images := modGroup_images s gid _
@[simp] theorem raise_entered (s : State) (gid : Nat) (p : Byte) (pc : DWord) (r : Raise) : (raise s gid p pc r).entered = s.entered := modGroup_entered s gid _
@[simp] theorem raise_powered (s : State) (gid : Nat) (p : Byte) (pc : DWord) (r : Raise) : (raise s gid p pc r).powered = s.powered := modGroup_powered s gid _
@[simp] theorem raise_tripped (s : State) (gid : Nat) (p : Byte) (pc : DWord) (r : Raise) : (raise s gid p pc r).tripped = s.tripped := modGroup_tripped s gid _
@[simp] theorem raise_lost (s : State) (gid : Nat) (p : Byte) (pc : DWord) (r : Raise) : (raise s gid p pc r).lost = s.lost := modGroup_lost s gid _
@[simp] theorem raise_shadowBad (s : State) (gid : Nat) (p : Byte) (pc : DWord) (r : Raise) : (raise s gid p pc r).shadowBad = s.shadowBad := modGroup_shadowBad s gid _
@[simp] theorem raise_hdieDelay (s : State) (gid : Nat) (p : Byte) (pc : DWord) (r : Raise) : (raise s gid p pc r).hdieDelay = s.hdieDelay := modGroup_hdieDelay s gid _
@[simp] theorem raise_nextId (s : State) (gid : Nat) (p : Byte) (pc : DWord) (r : Raise) : (raise s gid p pc r).nextId = s.nextId := modGroup_nextId s gid _
@[simp] theorem raise_sel (s : State) (gid : Nat) (p : Byte) (pc : DWord) (r : Raise) : (raise s gid p pc r).sel = s.sel := modGroup_sel s gid _
@[simp] theorem raise_turn (s : State) (gid : Nat) (p : Byte) (pc : DWord) (r : Raise) : (raise s gid p pc r).turn = s.turn := modGroup_turn s gid _
@[simp] theorem raise_agenda (s : State) (gid : Nat) (p : Byte) (pc : DWord) (r : Raise) : (raise s gid p pc r).agenda = s.agenda := modGroup_agenda s gid _
@[simp] theorem dropAhead_ap (s : State) (gid : Nat) : (dropAhead s gid).ap = s.ap := modGroup_ap s gid _
@[simp] theorem dropAhead_ctl (s : State) (gid : Nat) : (dropAhead s gid).ctl = s.ctl := modGroup_ctl s gid _
@[simp] theorem dropAhead_ctlPoison (s : State) (gid : Nat) : (dropAhead s gid).ctlPoison = s.ctlPoison := modGroup_ctlPoison s gid _
@[simp] theorem dropAhead_ctlBad (s : State) (gid : Nat) : (dropAhead s gid).ctlBad = s.ctlBad := modGroup_ctlBad s gid _
@[simp] theorem dropAhead_ten (s : State) (gid : Nat) : (dropAhead s gid).ten = s.ten := modGroup_ten s gid _
@[simp] theorem dropAhead_tenPoison (s : State) (gid : Nat) : (dropAhead s gid).tenPoison = s.tenPoison := modGroup_tenPoison s gid _
@[simp] theorem dropAhead_tenBad (s : State) (gid : Nat) : (dropAhead s gid).tenBad = s.tenBad := modGroup_tenBad s gid _
@[simp] theorem dropAhead_ctxtab (s : State) (gid : Nat) : (dropAhead s gid).ctxtab = s.ctxtab := modGroup_ctxtab s gid _
@[simp] theorem dropAhead_lrank (s : State) (gid : Nat) : (dropAhead s gid).lrank = s.lrank := modGroup_lrank s gid _
@[simp] theorem dropAhead_schk (s : State) (gid : Nat) : (dropAhead s gid).schk = s.schk := modGroup_schk s gid _
@[simp] theorem dropAhead_shadow (s : State) (gid : Nat) : (dropAhead s gid).shadow = s.shadow := modGroup_shadow s gid _
@[simp] theorem dropAhead_scope (s : State) (gid : Nat) : (dropAhead s gid).scope = s.scope := modGroup_scope s gid _
@[simp] theorem dropAhead_dir (s : State) (gid : Nat) : (dropAhead s gid).dir = s.dir := modGroup_dir s gid _
@[simp] theorem dropAhead_regions (s : State) (gid : Nat) : (dropAhead s gid).regions = s.regions := modGroup_regions s gid _
@[simp] theorem dropAhead_hold (s : State) (gid : Nat) : (dropAhead s gid).hold = s.hold := modGroup_hold s gid _
@[simp] theorem dropAhead_tHeld (s : State) (gid : Nat) : (dropAhead s gid).tHeld = s.tHeld := modGroup_tHeld s gid _
@[simp] theorem dropAhead_lines (s : State) (gid : Nat) : (dropAhead s gid).lines = s.lines := modGroup_lines s gid _
@[simp] theorem dropAhead_mirror (s : State) (gid : Nat) : (dropAhead s gid).mirror = s.mirror := modGroup_mirror s gid _
@[simp] theorem dropAhead_mirrorPoison (s : State) (gid : Nat) : (dropAhead s gid).mirrorPoison = s.mirrorPoison := modGroup_mirrorPoison s gid _
@[simp] theorem dropAhead_mirrorBad (s : State) (gid : Nat) : (dropAhead s gid).mirrorBad = s.mirrorBad := modGroup_mirrorBad s gid _
@[simp] theorem dropAhead_dl (s : State) (gid : Nat) : (dropAhead s gid).dl = s.dl := modGroup_dl s gid _
@[simp] theorem dropAhead_mirrorOwed (s : State) (gid : Nat) : (dropAhead s gid).mirrorOwed = s.mirrorOwed := modGroup_mirrorOwed s gid _
@[simp] theorem dropAhead_mirrorThen (s : State) (gid : Nat) : (dropAhead s gid).mirrorThen = s.mirrorThen := modGroup_mirrorThen s gid _
@[simp] theorem dropAhead_devMade (s : State) (gid : Nat) : (dropAhead s gid).devMade = s.devMade := modGroup_devMade s gid _
@[simp] theorem dropAhead_l2 (s : State) (gid : Nat) : (dropAhead s gid).l2 = s.l2 := modGroup_l2 s gid _
@[simp] theorem dropAhead_arrived (s : State) (gid : Nat) : (dropAhead s gid).arrived = s.arrived := modGroup_arrived s gid _
@[simp] theorem dropAhead_icinvOwed (s : State) (gid : Nat) : (dropAhead s gid).icinvOwed = s.icinvOwed := modGroup_icinvOwed s gid _
@[simp] theorem dropAhead_heldWrites (s : State) (gid : Nat) : (dropAhead s gid).heldWrites = s.heldWrites := modGroup_heldWrites s gid _
@[simp] theorem dropAhead_tileWrites (s : State) (gid : Nat) : (dropAhead s gid).tileWrites = s.tileWrites := modGroup_tileWrites s gid _
@[simp] theorem dropAhead_devWrites (s : State) (gid : Nat) : (dropAhead s gid).devWrites = s.devWrites := modGroup_devWrites s gid _
@[simp] theorem dropAhead_tlb (s : State) (gid : Nat) : (dropAhead s gid).tlb = s.tlb := modGroup_tlb s gid _
@[simp] theorem dropAhead_rebuilt (s : State) (gid : Nat) : (dropAhead s gid).rebuilt = s.rebuilt := modGroup_rebuilt s gid _
@[simp] theorem dropAhead_cores (s : State) (gid : Nat) : (dropAhead s gid).cores = s.cores := modGroup_cores s gid _
@[simp] theorem dropAhead_teams (s : State) (gid : Nat) : (dropAhead s gid).teams = s.teams := modGroup_teams s gid _
@[simp] theorem dropAhead_ops (s : State) (gid : Nat) : (dropAhead s gid).ops = s.ops := modGroup_ops s gid _
@[simp] theorem dropAhead_aops (s : State) (gid : Nat) : (dropAhead s gid).aops = s.aops := modGroup_aops s gid _
@[simp] theorem dropAhead_wqs (s : State) (gid : Nat) : (dropAhead s gid).wqs = s.wqs := modGroup_wqs s gid _
@[simp] theorem dropAhead_grids (s : State) (gid : Nat) : (dropAhead s gid).grids = s.grids := modGroup_grids s gid _
@[simp] theorem dropAhead_lastWin (s : State) (gid : Nat) : (dropAhead s gid).lastWin = s.lastWin := modGroup_lastWin s gid _
@[simp] theorem dropAhead_binds (s : State) (gid : Nat) : (dropAhead s gid).binds = s.binds := modGroup_binds s gid _
@[simp] theorem dropAhead_early (s : State) (gid : Nat) : (dropAhead s gid).early = s.early := modGroup_early s gid _
@[simp] theorem dropAhead_retries (s : State) (gid : Nat) : (dropAhead s gid).retries = s.retries := modGroup_retries s gid _
@[simp] theorem dropAhead_collSent (s : State) (gid : Nat) : (dropAhead s gid).collSent = s.collSent := modGroup_collSent s gid _
@[simp] theorem dropAhead_pinsAway (s : State) (gid : Nat) : (dropAhead s gid).pinsAway = s.pinsAway := modGroup_pinsAway s gid _
@[simp] theorem dropAhead_ports (s : State) (gid : Nat) : (dropAhead s gid).ports = s.ports := modGroup_ports s gid _
@[simp] theorem dropAhead_out (s : State) (gid : Nat) : (dropAhead s gid).out = s.out := modGroup_out s gid _
@[simp] theorem dropAhead_waitOut (s : State) (gid : Nat) : (dropAhead s gid).waitOut = s.waitOut := modGroup_waitOut s gid _
@[simp] theorem dropAhead_queue (s : State) (gid : Nat) : (dropAhead s gid).queue = s.queue := modGroup_queue s gid _
@[simp] theorem dropAhead_deficit (s : State) (gid : Nat) : (dropAhead s gid).deficit = s.deficit := modGroup_deficit s gid _
@[simp] theorem dropAhead_served (s : State) (gid : Nat) : (dropAhead s gid).served = s.served := modGroup_served s gid _
@[simp] theorem dropAhead_trapWait (s : State) (gid : Nat) : (dropAhead s gid).trapWait = s.trapWait := modGroup_trapWait s gid _
@[simp] theorem dropAhead_openRecs (s : State) (gid : Nat) : (dropAhead s gid).openRecs = s.openRecs := modGroup_openRecs s gid _
@[simp] theorem dropAhead_xresBusy (s : State) (gid : Nat) : (dropAhead s gid).xresBusy = s.xresBusy := modGroup_xresBusy s gid _
@[simp] theorem dropAhead_saved (s : State) (gid : Nat) : (dropAhead s gid).saved = s.saved := modGroup_saved s gid _
@[simp] theorem dropAhead_preempts (s : State) (gid : Nat) : (dropAhead s gid).preempts = s.preempts := modGroup_preempts s gid _
@[simp] theorem dropAhead_kills (s : State) (gid : Nat) : (dropAhead s gid).kills = s.kills := modGroup_kills s gid _
@[simp] theorem dropAhead_owned (s : State) (gid : Nat) : (dropAhead s gid).owned = s.owned := modGroup_owned s gid _
@[simp] theorem dropAhead_images (s : State) (gid : Nat) : (dropAhead s gid).images = s.images := modGroup_images s gid _
@[simp] theorem dropAhead_entered (s : State) (gid : Nat) : (dropAhead s gid).entered = s.entered := modGroup_entered s gid _
@[simp] theorem dropAhead_powered (s : State) (gid : Nat) : (dropAhead s gid).powered = s.powered := modGroup_powered s gid _
@[simp] theorem dropAhead_tripped (s : State) (gid : Nat) : (dropAhead s gid).tripped = s.tripped := modGroup_tripped s gid _
@[simp] theorem dropAhead_lost (s : State) (gid : Nat) : (dropAhead s gid).lost = s.lost := modGroup_lost s gid _
@[simp] theorem dropAhead_shadowBad (s : State) (gid : Nat) : (dropAhead s gid).shadowBad = s.shadowBad := modGroup_shadowBad s gid _
@[simp] theorem dropAhead_hdieDelay (s : State) (gid : Nat) : (dropAhead s gid).hdieDelay = s.hdieDelay := modGroup_hdieDelay s gid _
@[simp] theorem dropAhead_nextId (s : State) (gid : Nat) : (dropAhead s gid).nextId = s.nextId := modGroup_nextId s gid _
@[simp] theorem dropAhead_sel (s : State) (gid : Nat) : (dropAhead s gid).sel = s.sel := modGroup_sel s gid _
@[simp] theorem dropAhead_turn (s : State) (gid : Nat) : (dropAhead s gid).turn = s.turn := modGroup_turn s gid _
@[simp] theorem dropAhead_agenda (s : State) (gid : Nat) : (dropAhead s gid).agenda = s.agenda := modGroup_agenda s gid _
@[simp] theorem moveLanes_ap (s : State) (gid : Nat) (p : Byte) (ps : List (DWord × Mask)) (S : Nat) (st : EntSt) : (moveLanes s gid p ps S st).ap = s.ap := by unfold moveLanes; split <;> rfl
@[simp] theorem moveLanes_ctl (s : State) (gid : Nat) (p : Byte) (ps : List (DWord × Mask)) (S : Nat) (st : EntSt) : (moveLanes s gid p ps S st).ctl = s.ctl := by unfold moveLanes; split <;> rfl
@[simp] theorem moveLanes_ctlPoison (s : State) (gid : Nat) (p : Byte) (ps : List (DWord × Mask)) (S : Nat) (st : EntSt) : (moveLanes s gid p ps S st).ctlPoison = s.ctlPoison := by unfold moveLanes; split <;> rfl
@[simp] theorem moveLanes_ctlBad (s : State) (gid : Nat) (p : Byte) (ps : List (DWord × Mask)) (S : Nat) (st : EntSt) : (moveLanes s gid p ps S st).ctlBad = s.ctlBad := by unfold moveLanes; split <;> rfl
@[simp] theorem moveLanes_ten (s : State) (gid : Nat) (p : Byte) (ps : List (DWord × Mask)) (S : Nat) (st : EntSt) : (moveLanes s gid p ps S st).ten = s.ten := by unfold moveLanes; split <;> rfl
@[simp] theorem moveLanes_tenPoison (s : State) (gid : Nat) (p : Byte) (ps : List (DWord × Mask)) (S : Nat) (st : EntSt) : (moveLanes s gid p ps S st).tenPoison = s.tenPoison := by unfold moveLanes; split <;> rfl
@[simp] theorem moveLanes_tenBad (s : State) (gid : Nat) (p : Byte) (ps : List (DWord × Mask)) (S : Nat) (st : EntSt) : (moveLanes s gid p ps S st).tenBad = s.tenBad := by unfold moveLanes; split <;> rfl
@[simp] theorem moveLanes_ctxtab (s : State) (gid : Nat) (p : Byte) (ps : List (DWord × Mask)) (S : Nat) (st : EntSt) : (moveLanes s gid p ps S st).ctxtab = s.ctxtab := by unfold moveLanes; split <;> rfl
@[simp] theorem moveLanes_lrank (s : State) (gid : Nat) (p : Byte) (ps : List (DWord × Mask)) (S : Nat) (st : EntSt) : (moveLanes s gid p ps S st).lrank = s.lrank := by unfold moveLanes; split <;> rfl
@[simp] theorem moveLanes_schk (s : State) (gid : Nat) (p : Byte) (ps : List (DWord × Mask)) (S : Nat) (st : EntSt) : (moveLanes s gid p ps S st).schk = s.schk := by unfold moveLanes; split <;> rfl
@[simp] theorem moveLanes_shadow (s : State) (gid : Nat) (p : Byte) (ps : List (DWord × Mask)) (S : Nat) (st : EntSt) : (moveLanes s gid p ps S st).shadow = s.shadow := by unfold moveLanes; split <;> rfl
@[simp] theorem moveLanes_scope (s : State) (gid : Nat) (p : Byte) (ps : List (DWord × Mask)) (S : Nat) (st : EntSt) : (moveLanes s gid p ps S st).scope = s.scope := by unfold moveLanes; split <;> rfl
@[simp] theorem moveLanes_dir (s : State) (gid : Nat) (p : Byte) (ps : List (DWord × Mask)) (S : Nat) (st : EntSt) : (moveLanes s gid p ps S st).dir = s.dir := by unfold moveLanes; split <;> rfl
@[simp] theorem moveLanes_regions (s : State) (gid : Nat) (p : Byte) (ps : List (DWord × Mask)) (S : Nat) (st : EntSt) : (moveLanes s gid p ps S st).regions = s.regions := by unfold moveLanes; split <;> rfl
@[simp] theorem moveLanes_hold (s : State) (gid : Nat) (p : Byte) (ps : List (DWord × Mask)) (S : Nat) (st : EntSt) : (moveLanes s gid p ps S st).hold = s.hold := by unfold moveLanes; split <;> rfl
@[simp] theorem moveLanes_tHeld (s : State) (gid : Nat) (p : Byte) (ps : List (DWord × Mask)) (S : Nat) (st : EntSt) : (moveLanes s gid p ps S st).tHeld = s.tHeld := by unfold moveLanes; split <;> rfl
@[simp] theorem moveLanes_lines (s : State) (gid : Nat) (p : Byte) (ps : List (DWord × Mask)) (S : Nat) (st : EntSt) : (moveLanes s gid p ps S st).lines = s.lines := by unfold moveLanes; split <;> rfl
@[simp] theorem moveLanes_mirror (s : State) (gid : Nat) (p : Byte) (ps : List (DWord × Mask)) (S : Nat) (st : EntSt) : (moveLanes s gid p ps S st).mirror = s.mirror := by unfold moveLanes; split <;> rfl
@[simp] theorem moveLanes_mirrorPoison (s : State) (gid : Nat) (p : Byte) (ps : List (DWord × Mask)) (S : Nat) (st : EntSt) : (moveLanes s gid p ps S st).mirrorPoison = s.mirrorPoison := by unfold moveLanes; split <;> rfl
@[simp] theorem moveLanes_mirrorBad (s : State) (gid : Nat) (p : Byte) (ps : List (DWord × Mask)) (S : Nat) (st : EntSt) : (moveLanes s gid p ps S st).mirrorBad = s.mirrorBad := by unfold moveLanes; split <;> rfl
@[simp] theorem moveLanes_dl (s : State) (gid : Nat) (p : Byte) (ps : List (DWord × Mask)) (S : Nat) (st : EntSt) : (moveLanes s gid p ps S st).dl = s.dl := by unfold moveLanes; split <;> rfl
@[simp] theorem moveLanes_mirrorOwed (s : State) (gid : Nat) (p : Byte) (ps : List (DWord × Mask)) (S : Nat) (st : EntSt) : (moveLanes s gid p ps S st).mirrorOwed = s.mirrorOwed := by unfold moveLanes; split <;> rfl
@[simp] theorem moveLanes_mirrorThen (s : State) (gid : Nat) (p : Byte) (ps : List (DWord × Mask)) (S : Nat) (st : EntSt) : (moveLanes s gid p ps S st).mirrorThen = s.mirrorThen := by unfold moveLanes; split <;> rfl
@[simp] theorem moveLanes_devMade (s : State) (gid : Nat) (p : Byte) (ps : List (DWord × Mask)) (S : Nat) (st : EntSt) : (moveLanes s gid p ps S st).devMade = s.devMade := by unfold moveLanes; split <;> rfl
@[simp] theorem moveLanes_l2 (s : State) (gid : Nat) (p : Byte) (ps : List (DWord × Mask)) (S : Nat) (st : EntSt) : (moveLanes s gid p ps S st).l2 = s.l2 := by unfold moveLanes; split <;> rfl
@[simp] theorem moveLanes_arrived (s : State) (gid : Nat) (p : Byte) (ps : List (DWord × Mask)) (S : Nat) (st : EntSt) : (moveLanes s gid p ps S st).arrived = s.arrived := by unfold moveLanes; split <;> rfl
@[simp] theorem moveLanes_icinvOwed (s : State) (gid : Nat) (p : Byte) (ps : List (DWord × Mask)) (S : Nat) (st : EntSt) : (moveLanes s gid p ps S st).icinvOwed = s.icinvOwed := by unfold moveLanes; split <;> rfl
@[simp] theorem moveLanes_heldWrites (s : State) (gid : Nat) (p : Byte) (ps : List (DWord × Mask)) (S : Nat) (st : EntSt) : (moveLanes s gid p ps S st).heldWrites = s.heldWrites := by unfold moveLanes; split <;> rfl
@[simp] theorem moveLanes_tileWrites (s : State) (gid : Nat) (p : Byte) (ps : List (DWord × Mask)) (S : Nat) (st : EntSt) : (moveLanes s gid p ps S st).tileWrites = s.tileWrites := by unfold moveLanes; split <;> rfl
@[simp] theorem moveLanes_devWrites (s : State) (gid : Nat) (p : Byte) (ps : List (DWord × Mask)) (S : Nat) (st : EntSt) : (moveLanes s gid p ps S st).devWrites = s.devWrites := by unfold moveLanes; split <;> rfl
@[simp] theorem moveLanes_tlb (s : State) (gid : Nat) (p : Byte) (ps : List (DWord × Mask)) (S : Nat) (st : EntSt) : (moveLanes s gid p ps S st).tlb = s.tlb := by unfold moveLanes; split <;> rfl
@[simp] theorem moveLanes_rebuilt (s : State) (gid : Nat) (p : Byte) (ps : List (DWord × Mask)) (S : Nat) (st : EntSt) : (moveLanes s gid p ps S st).rebuilt = s.rebuilt := by unfold moveLanes; split <;> rfl
@[simp] theorem moveLanes_cores (s : State) (gid : Nat) (p : Byte) (ps : List (DWord × Mask)) (S : Nat) (st : EntSt) : (moveLanes s gid p ps S st).cores = s.cores := by unfold moveLanes; split <;> rfl
@[simp] theorem moveLanes_teams (s : State) (gid : Nat) (p : Byte) (ps : List (DWord × Mask)) (S : Nat) (st : EntSt) : (moveLanes s gid p ps S st).teams = s.teams := by unfold moveLanes; split <;> rfl
@[simp] theorem moveLanes_ops (s : State) (gid : Nat) (p : Byte) (ps : List (DWord × Mask)) (S : Nat) (st : EntSt) : (moveLanes s gid p ps S st).ops = s.ops := by unfold moveLanes; split <;> rfl
@[simp] theorem moveLanes_aops (s : State) (gid : Nat) (p : Byte) (ps : List (DWord × Mask)) (S : Nat) (st : EntSt) : (moveLanes s gid p ps S st).aops = s.aops := by unfold moveLanes; split <;> rfl
@[simp] theorem moveLanes_wqs (s : State) (gid : Nat) (p : Byte) (ps : List (DWord × Mask)) (S : Nat) (st : EntSt) : (moveLanes s gid p ps S st).wqs = s.wqs := by unfold moveLanes; split <;> rfl
@[simp] theorem moveLanes_grids (s : State) (gid : Nat) (p : Byte) (ps : List (DWord × Mask)) (S : Nat) (st : EntSt) : (moveLanes s gid p ps S st).grids = s.grids := by unfold moveLanes; split <;> rfl
@[simp] theorem moveLanes_lastWin (s : State) (gid : Nat) (p : Byte) (ps : List (DWord × Mask)) (S : Nat) (st : EntSt) : (moveLanes s gid p ps S st).lastWin = s.lastWin := by unfold moveLanes; split <;> rfl
@[simp] theorem moveLanes_binds (s : State) (gid : Nat) (p : Byte) (ps : List (DWord × Mask)) (S : Nat) (st : EntSt) : (moveLanes s gid p ps S st).binds = s.binds := by unfold moveLanes; split <;> rfl
@[simp] theorem moveLanes_early (s : State) (gid : Nat) (p : Byte) (ps : List (DWord × Mask)) (S : Nat) (st : EntSt) : (moveLanes s gid p ps S st).early = s.early := by unfold moveLanes; split <;> rfl
@[simp] theorem moveLanes_retries (s : State) (gid : Nat) (p : Byte) (ps : List (DWord × Mask)) (S : Nat) (st : EntSt) : (moveLanes s gid p ps S st).retries = s.retries := by unfold moveLanes; split <;> rfl
@[simp] theorem moveLanes_collSent (s : State) (gid : Nat) (p : Byte) (ps : List (DWord × Mask)) (S : Nat) (st : EntSt) : (moveLanes s gid p ps S st).collSent = s.collSent := by unfold moveLanes; split <;> rfl
@[simp] theorem moveLanes_pinsAway (s : State) (gid : Nat) (p : Byte) (ps : List (DWord × Mask)) (S : Nat) (st : EntSt) : (moveLanes s gid p ps S st).pinsAway = s.pinsAway := by unfold moveLanes; split <;> rfl
@[simp] theorem moveLanes_ports (s : State) (gid : Nat) (p : Byte) (ps : List (DWord × Mask)) (S : Nat) (st : EntSt) : (moveLanes s gid p ps S st).ports = s.ports := by unfold moveLanes; split <;> rfl
@[simp] theorem moveLanes_out (s : State) (gid : Nat) (p : Byte) (ps : List (DWord × Mask)) (S : Nat) (st : EntSt) : (moveLanes s gid p ps S st).out = s.out := by unfold moveLanes; split <;> rfl
@[simp] theorem moveLanes_waitOut (s : State) (gid : Nat) (p : Byte) (ps : List (DWord × Mask)) (S : Nat) (st : EntSt) : (moveLanes s gid p ps S st).waitOut = s.waitOut := by unfold moveLanes; split <;> rfl
@[simp] theorem moveLanes_queue (s : State) (gid : Nat) (p : Byte) (ps : List (DWord × Mask)) (S : Nat) (st : EntSt) : (moveLanes s gid p ps S st).queue = s.queue := by unfold moveLanes; split <;> rfl
@[simp] theorem moveLanes_deficit (s : State) (gid : Nat) (p : Byte) (ps : List (DWord × Mask)) (S : Nat) (st : EntSt) : (moveLanes s gid p ps S st).deficit = s.deficit := by unfold moveLanes; split <;> rfl
@[simp] theorem moveLanes_served (s : State) (gid : Nat) (p : Byte) (ps : List (DWord × Mask)) (S : Nat) (st : EntSt) : (moveLanes s gid p ps S st).served = s.served := by unfold moveLanes; split <;> rfl
@[simp] theorem moveLanes_trapWait (s : State) (gid : Nat) (p : Byte) (ps : List (DWord × Mask)) (S : Nat) (st : EntSt) : (moveLanes s gid p ps S st).trapWait = s.trapWait := by unfold moveLanes; split <;> rfl
@[simp] theorem moveLanes_openRecs (s : State) (gid : Nat) (p : Byte) (ps : List (DWord × Mask)) (S : Nat) (st : EntSt) : (moveLanes s gid p ps S st).openRecs = s.openRecs := by unfold moveLanes; split <;> rfl
@[simp] theorem moveLanes_xresBusy (s : State) (gid : Nat) (p : Byte) (ps : List (DWord × Mask)) (S : Nat) (st : EntSt) : (moveLanes s gid p ps S st).xresBusy = s.xresBusy := by unfold moveLanes; split <;> rfl
@[simp] theorem moveLanes_saved (s : State) (gid : Nat) (p : Byte) (ps : List (DWord × Mask)) (S : Nat) (st : EntSt) : (moveLanes s gid p ps S st).saved = s.saved := by unfold moveLanes; split <;> rfl
@[simp] theorem moveLanes_preempts (s : State) (gid : Nat) (p : Byte) (ps : List (DWord × Mask)) (S : Nat) (st : EntSt) : (moveLanes s gid p ps S st).preempts = s.preempts := by unfold moveLanes; split <;> rfl
@[simp] theorem moveLanes_kills (s : State) (gid : Nat) (p : Byte) (ps : List (DWord × Mask)) (S : Nat) (st : EntSt) : (moveLanes s gid p ps S st).kills = s.kills := by unfold moveLanes; split <;> rfl
@[simp] theorem moveLanes_owned (s : State) (gid : Nat) (p : Byte) (ps : List (DWord × Mask)) (S : Nat) (st : EntSt) : (moveLanes s gid p ps S st).owned = s.owned := by unfold moveLanes; split <;> rfl
@[simp] theorem moveLanes_images (s : State) (gid : Nat) (p : Byte) (ps : List (DWord × Mask)) (S : Nat) (st : EntSt) : (moveLanes s gid p ps S st).images = s.images := by unfold moveLanes; split <;> rfl
@[simp] theorem moveLanes_entered (s : State) (gid : Nat) (p : Byte) (ps : List (DWord × Mask)) (S : Nat) (st : EntSt) : (moveLanes s gid p ps S st).entered = s.entered := by unfold moveLanes; split <;> rfl
@[simp] theorem moveLanes_powered (s : State) (gid : Nat) (p : Byte) (ps : List (DWord × Mask)) (S : Nat) (st : EntSt) : (moveLanes s gid p ps S st).powered = s.powered := by unfold moveLanes; split <;> rfl
@[simp] theorem moveLanes_tripped (s : State) (gid : Nat) (p : Byte) (ps : List (DWord × Mask)) (S : Nat) (st : EntSt) : (moveLanes s gid p ps S st).tripped = s.tripped := by unfold moveLanes; split <;> rfl
@[simp] theorem moveLanes_lost (s : State) (gid : Nat) (p : Byte) (ps : List (DWord × Mask)) (S : Nat) (st : EntSt) : (moveLanes s gid p ps S st).lost = s.lost := by unfold moveLanes; split <;> rfl
@[simp] theorem moveLanes_shadowBad (s : State) (gid : Nat) (p : Byte) (ps : List (DWord × Mask)) (S : Nat) (st : EntSt) : (moveLanes s gid p ps S st).shadowBad = s.shadowBad := by unfold moveLanes; split <;> rfl
@[simp] theorem moveLanes_hdieDelay (s : State) (gid : Nat) (p : Byte) (ps : List (DWord × Mask)) (S : Nat) (st : EntSt) : (moveLanes s gid p ps S st).hdieDelay = s.hdieDelay := by unfold moveLanes; split <;> rfl
@[simp] theorem moveLanes_nextId (s : State) (gid : Nat) (p : Byte) (ps : List (DWord × Mask)) (S : Nat) (st : EntSt) : (moveLanes s gid p ps S st).nextId = s.nextId := by unfold moveLanes; split <;> rfl
@[simp] theorem moveLanes_sel (s : State) (gid : Nat) (p : Byte) (ps : List (DWord × Mask)) (S : Nat) (st : EntSt) : (moveLanes s gid p ps S st).sel = s.sel := by unfold moveLanes; split <;> rfl
@[simp] theorem moveLanes_turn (s : State) (gid : Nat) (p : Byte) (ps : List (DWord × Mask)) (S : Nat) (st : EntSt) : (moveLanes s gid p ps S st).turn = s.turn := by unfold moveLanes; split <;> rfl
@[simp] theorem moveLanes_agenda (s : State) (gid : Nat) (p : Byte) (ps : List (DWord × Mask)) (S : Nat) (st : EntSt) : (moveLanes s gid p ps S st).agenda = s.agenda := by unfold moveLanes; split <;> rfl

end Sys2Proof.Machine
end

