-- ==== Sys2Proof/Laws/Groups.lean ====
section
/-! SUPPORT. What the operations on groups, registers and the aperture leave: the group that was written, and every other one
as it was. Later proofs cite these and do not unfold the operations. -/

namespace Sys2Proof.Machine

/-- Finding after replacing the first match, when the new element matches too. -/
theorem find_replFirst_self {α : Type} (p : α → Bool) (y : α) (hy : p y = true) :
    ∀ xs : List α, (xs.find? p).isSome = true → (replFirst p y xs).find? p = some y
  | [], h => by cases h
  | x :: xs, h => by
    cases hx : p x
    · simp only [replFirst, hx, Bool.false_eq_true, if_false, List.find?_cons]
      exact find_replFirst_self p y hy xs (by simpa [List.find?_cons, hx] using h)
    · simp [replFirst, hx, hy]

/-- Finding something else is not disturbed. -/
theorem find_replFirst_other {α : Type} (p q : α → Bool) (y : α) (hq : q y = false) (hpq : ∀ x, p x = true → q x = false) :
    ∀ xs : List α, (replFirst p y xs).find? q = xs.find? q
  | [] => rfl
  | x :: xs => by
    cases hx : p x
    · simp only [replFirst, hx, Bool.false_eq_true, if_false, List.find?_cons]
      rw [find_replFirst_other p q y hq hpq xs]
    · simp [replFirst, hx, hq, hpq x hx]

/-- Replacing the first match by itself changes nothing. -/
theorem replFirst_find {α : Type} (p : α → Bool) (y : α) : ∀ xs : List α, xs.find? p = some y → replFirst p y xs = xs
  | [], h => by cases h
  | x :: xs, h => by
    cases hx : p x
    · simp only [replFirst, hx, Bool.false_eq_true, if_false]
      rw [replFirst_find p y xs (by simpa [List.find?_cons, hx] using h)]
    · simp only [List.find?_cons, hx, Option.some.injEq] at h
      subst h
      simp [replFirst, hx]

/-- The group found by an identity has it. -/
theorem groupOf_gid {s : State} {n : Nat} {g : Group} (h : groupOf s n = some g) : g.gid = n := by
  have := List.find?_some h
  simpa using this

/-- A replaced group is found under its identity. -/
theorem groupOf_setGroup {s : State} {n : Nat} {g0 g : Group} (h : groupOf s n = some g0) (hg : g.gid = n) :
    groupOf (setGroup s g) n = some g := by
  subst hg
  exact find_replFirst_self _ g (by simp) s.groups (by simp only [groupOf] at h; rw [h]; rfl)

/-- Other groups are found as before. -/
theorem groupOf_setGroup_other {s : State} {n : Nat} {g : Group} (hn : n ≠ g.gid) : groupOf (setGroup s g) n = groupOf s n :=
  find_replFirst_other _ _ g (by simp [Ne.symm hn])
    (fun x hx => by simp only [beq_iff_eq] at hx; simp [hx, Ne.symm hn]) s.groups

/-- Replacing a group by itself changes nothing. -/
theorem setGroup_self {s : State} {n : Nat} {g : Group} (h : groupOf s n = some g) : setGroup s g = s := by
  have hg := groupOf_gid h
  subst hg
  simp only [setGroup]
  rw [replFirst_find _ g s.groups h]

/-- Changing a group that exists. -/
theorem modGroup_eq {s : State} {n : Nat} {g : Group} (h : groupOf s n = some g) (f : Group → Group) :
    modGroup s n f = setGroup s (f g) := by simp [modGroup, h]

/-- A changed group is found under its identity. -/
theorem groupOf_modGroup {s : State} {n : Nat} {g : Group} (h : groupOf s n = some g) {f : Group → Group}
    (hf : (f g).gid = g.gid) : groupOf (modGroup s n f) n = some (f g) := by
  rw [modGroup_eq h]
  exact groupOf_setGroup h (hf.trans (groupOf_gid h))

/-- A pending write joins its group's. -/
theorem groupOf_pushWrite {s : State} {n : Nat} {g : Group} (h : groupOf s n = some g) (w : PWrite) :
    groupOf (pushWrite s n w) n = some { g with pend := g.pend ++ [w] } := groupOf_modGroup h rfl

/-- An entry that parks leaves its group otherwise alone. -/
theorem groupOf_parkEnt {s : State} {n : Nat} {g : Group} (h : groupOf s n = some g) (e : Ent) (p : Park) :
    groupOf (parkEnt s n e p) n = some { g with ents := dropLanes g.ents e.mask ++ [{ e with stall := 0, st := .parked p }] } :=
  groupOf_modGroup h rfl

/-- Lanes that raise leave their group otherwise alone. -/
theorem groupOf_raise {s : State} {n : Nat} {g : Group} (h : groupOf s n = some g) (p : Byte) (pc : DWord) (r : Raise) :
    groupOf (raise s n p pc r) n = some { g with ents := dropLanes g.ents r.lanes ++ [⟨pc, p, r.lanes, 0, .pending r⟩] } :=
  groupOf_modGroup h rfl

/-- The entries of a group after a move of lanes. -/
def entsMoved (s : State) (g : Group) (p : Byte) (ps : List (DWord × Mask)) (S : Nat) (st : EntSt) : List Ent :=
  ps.foldl (fun es q => placePart (handlerLanes g) es ⟨q.1, prioAt s g q.1 p, q.2, S, st⟩)
    (strikeOff (keysOf g.ents (ps.foldl (fun m q => m ||| q.2) 0)) (dropLanes g.ents (ps.foldl (fun m q => m ||| q.2) 0)))

/-- What a move of lanes leaves in its group: its entries change, and speculative loads that its lanes do not follow go (R42). -/
theorem groupOf_moveLanes {s : State} {n : Nat} {g : Group} (h : groupOf s n = some g) (p : Byte) (ps : List (DWord × Mask)) (S : Nat)
    (st : EntSt) : groupOf (moveLanes s n p ps S st) n = some { g with
      ents := entsMoved s g p ps S st, ahead := aheadLeft g ps, owes := ps.foldl (owesWord s g) g.owes } := by
  simp only [moveLanes, h]
  have hg : g.gid = n := groupOf_gid h
  exact groupOf_setGroup h hg

/-- And every other group is as before. -/
theorem groupOf_moveLanes_other {s : State} {n m : Nat} (hm : m ≠ n) (p : Byte) (ps : List (DWord × Mask)) (S : Nat) (st : EntSt) :
    groupOf (moveLanes s n p ps S st) m = groupOf s m := by
  unfold moveLanes
  split
  · rfl
  · next g h => exact groupOf_setGroup_other (by rw [groupOf_gid h]; exact hm)

/-- Changing a group leaves the others. -/
theorem groupOf_modGroup_other {s : State} {n m : Nat} (hm : m ≠ n) (f : Group → Group) (hf : ∀ g, (f g).gid = g.gid) :
    groupOf (modGroup s n f) m = groupOf s m := by
  unfold modGroup
  split
  · next g h => exact groupOf_setGroup_other (by rw [hf, groupOf_gid h]; exact hm)
  · rfl

/-- The selected entry belongs to the group of its identity. -/
theorem selected_group {s : State} {g : Group} {e : Ent} (h : selected s = some (g, e)) : groupOf s g.gid = some g := by
  unfold selected at h
  split at h
  · cases h
  · split at h
    · cases h
    · next g' hg =>
      split at h
      · cases h
      · cases h
        rw [groupOf_gid hg]
        exact hg

/-- The selected entry is one of its group's. -/
theorem selected_mem {s : State} {g : Group} {e : Ent} (h : selected s = some (g, e)) : e ∈ g.ents := by
  unfold selected at h
  split at h
  · cases h
  · split at h
    · cases h
    · split at h
      · cases h
      · next e' he =>
        cases h
        exact List.mem_of_find?_eq_some he

end Sys2Proof.Machine
end

