-- ==== Sys2Proof/Laws/Memory.lean ====
section
/-! SUPPORT. Sparse maps and memory: a write keeps the canonical form, a read after a write, and reset's memories. -/

namespace Sys2Proof.Machine

theorem mapOk_mono {α : Type} [DecidableEq α] {d : α} {lo lo' : Nat} (h : lo' ≤ lo) :
    ∀ {m : SMap α}, mapOk d lo m = true → mapOk d lo' m = true
  | [], _ => rfl
  | (j, v) :: rest, hm => by
    simp only [mapOk, Bool.and_eq_true, decide_eq_true_eq] at hm ⊢
    exact ⟨⟨Nat.le_trans h hm.1.1, hm.1.2⟩, hm.2⟩

/-- A write keeps the canonical form. -/
theorem mapSet_ok {α : Type} [DecidableEq α] (d : α) (k : Nat) (v : α) :
    ∀ {m : SMap α} {lo : Nat}, mapOk d lo m = true → lo ≤ k → mapOk d lo (mapSet d m k v) = true
  | [], lo, _, hk => by
    unfold mapSet
    split
    · rfl
    · simp [mapOk, *]
  | (j, w) :: rest, lo, hm, hk => by
    have hm' := hm
    simp only [mapOk, Bool.and_eq_true, decide_eq_true_eq] at hm
    obtain ⟨⟨hj, hw⟩, hr⟩ := hm
    unfold mapSet
    by_cases h1 : k < j
    · rw [if_pos h1]
      by_cases h2 : v = d
      · rw [if_pos h2]; exact hm'
      · rw [if_neg h2]
        simp only [mapOk, Bool.and_eq_true, decide_eq_true_eq]
        exact ⟨⟨hk, h2⟩, ⟨by omega, hw⟩, hr⟩
    · rw [if_neg h1]
      by_cases h3 : k = j
      · rw [if_pos h3]
        by_cases h2 : v = d
        · rw [if_pos h2]; exact mapOk_mono (by omega) hr
        · rw [if_neg h2]
          simp only [mapOk, Bool.and_eq_true, decide_eq_true_eq]
          exact ⟨⟨hk, h2⟩, mapOk_mono (by omega) hr⟩
      · rw [if_neg h3]
        simp only [mapOk, Bool.and_eq_true, decide_eq_true_eq]
        exact ⟨⟨hj, hw⟩, mapSet_ok d k v hr (by omega)⟩

/-- Below the lowest key a canonical map reads as its default. -/
theorem mapGet_below {α : Type} [DecidableEq α] {d : α} :
    ∀ {m : SMap α} {lo k : Nat}, mapOk d lo m = true → k < lo → mapGet d m k = d
  | [], _, _, _, _ => rfl
  | (j, v) :: rest, lo, k, hm, hk => by
    simp only [mapOk, Bool.and_eq_true, decide_eq_true_eq] at hm
    unfold mapGet
    rw [if_neg (by omega)]
    exact mapGet_below hm.2 (by omega)

/-- A read after a write, at the same key and at every other. -/
theorem mapGet_mapSet {α : Type} [DecidableEq α] (d : α) (k : Nat) (v : α) :
    ∀ {m : SMap α} {lo : Nat}, mapOk d lo m = true → ∀ j, mapGet d (mapSet d m k v) j = if j = k then v else mapGet d m j
  | [], _, _, j => by
    unfold mapSet
    by_cases h : v = d
    · rw [if_pos h]; by_cases h2 : j = k <;> simp [mapGet, h, h2]
    · rw [if_neg h]; by_cases h2 : j = k
      · simp [mapGet, h2]
      · simp [mapGet, h2, Ne.symm h2]
  | (i, w) :: rest, lo, hm, j => by
    simp only [mapOk, Bool.and_eq_true, decide_eq_true_eq] at hm
    obtain ⟨⟨hi, hw⟩, hr⟩ := hm
    have ih := mapGet_mapSet d k v hr j
    unfold mapSet
    by_cases h1 : k < i
    · rw [if_pos h1]
      by_cases h2 : v = d
      · rw [if_pos h2]
        by_cases h3 : j = k
        · subst h3
          rw [if_pos rfl, h2]
          exact mapGet_below (lo := i) (by simp [mapOk, hw, hr]) h1
        · rw [if_neg h3]
      · rw [if_neg h2]
        by_cases h3 : j = k
        · subst h3; simp [mapGet]
        · simp [mapGet, h3, Ne.symm h3]
    · rw [if_neg h1]
      by_cases h4 : k = i
      · subst h4
        rw [if_pos rfl]
        by_cases h2 : v = d
        · rw [if_pos h2]
          by_cases h3 : j = k
          · subst h3; rw [if_pos rfl, h2]; exact mapGet_below hr (by omega)
          · simp [mapGet, h3, Ne.symm h3]
        · rw [if_neg h2]
          by_cases h3 : j = k
          · subst h3; simp [mapGet]
          · simp [mapGet, h3, Ne.symm h3]
      · rw [if_neg h4]
        unfold mapGet
        by_cases h5 : i = j
        · subst h5; rw [if_pos rfl, if_neg (Ne.symm h4)]; simp
        · rw [if_neg h5, if_neg h5, ih]

/-- Writing one byte keeps the canonical form. -/
theorem memSetByte_wf {m : Mem} (h : Memory.wf m = true) (a : Nat) (b : Byte) : Memory.wf (memSetByte m a b) = true :=
  mapSet_ok memDefault a b h (Nat.zero_le a)

/-- Writing bytes keeps the canonical form. -/
theorem memSetBytes_wf : ∀ (bs : List Byte) {m : Mem}, Memory.wf m = true → ∀ a, Memory.wf (memSetBytes m a bs) = true
  | [], _, h, _ => h
  | b :: bs, _, h, a => memSetBytes_wf bs (memSetByte_wf h a b) (a + 1)

/-- A byte after writing one byte. -/
theorem memByte_memSetByte {m : Mem} (h : Memory.wf m = true) (a : Nat) (b : Byte) (c : Nat) :
    memByte (memSetByte m a b) c = if c = a then b else memByte m c := mapGet_mapSet memDefault a b h c

/-- A byte after writing a run of bytes. -/
theorem memByte_memSetBytes : ∀ (bs : List Byte) {m : Mem}, Memory.wf m = true → ∀ a c,
    memByte (memSetBytes m a bs) c = if a ≤ c ∧ c < a + bs.length then bs.getD (c - a) 0 else memByte m c
  | [], m, _, a, c => by
    rw [if_neg (by simp)]; rfl
  | b :: bs, m, h, a, c => by
    show memByte (memSetBytes (memSetByte m a b) (a + 1) bs) c = _
    rw [memByte_memSetBytes bs (memSetByte_wf h a b) (a + 1) c, memByte_memSetByte h]
    simp only [List.length_cons]
    by_cases h1 : c = a
    · subst h1
      rw [if_neg (by omega), if_pos rfl, if_pos (by omega)]
      simp
    · by_cases h2 : a + 1 ≤ c ∧ c < a + 1 + bs.length
      · rw [if_pos h2, if_pos (by omega), show c - a = (c - (a + 1)) + 1 by omega]
        simp
      · rw [if_neg h2, if_neg h1, if_neg (by omega)]

/-- The reset state's memories are in the canonical form. -/
theorem reset_memoriesOk : MemoriesOk State.reset := ⟨rfl, rfl⟩

end Sys2Proof.Machine
end

