-- ==== Sys2Proof/Laws/Issue.lean ====
section
/-! SUPPORT. One spec lemma for each shared operation of an issue: what the checks answer for an entry with nothing against it,
what an issue then comes to, and what the common shapes leave. -/

namespace Sys2Proof.Machine

theorem breakHit_debugOff {s : State} (h : DebugOff s) (g : Group) (e : Ent) : breakHit s g e = none := by
  unfold breakHit
  rw [List.find?_eq_none]
  intro c hc
  simp only [h c (List.mem_range.mp hc), Bool.false_and, Bool.false_eq_true, not_false_eq_true]

theorem stepHits_debugOff {s : State} (h : DebugOff s) (g : Group) (m : Mask) : stepHits s g m = [] := by
  unfold stepHits
  rw [List.filterMap_eq_nil_iff]
  intro c hc
  simp only [h c (List.mem_range.mp hc), Bool.false_and, Bool.false_eq_true, if_false]

theorem stepHit_debugOff {s : State} (h : DebugOff s) (g : Group) (m : Mask) : stepHit s g m = none := by
  unfold stepHit
  rw [stepHits_debugOff h]
  rfl

/-- The aperture alone decides whether a debug channel is enabled. -/
theorem debugOff_of_ap {s t : State} (h : DebugOff s) (ha : t.ap = s.ap) : DebugOff t := by
  intro c hc
  have := h c hc
  unfold dbgWord apWord at *
  rw [ha]; exact this

theorem precheck_clear {i : Instr} {s : State} {g : Group} {e : Ent} (h : Clear i s g e) :
    precheck i i.wf s = .go s g e 0 := by
  unfold precheck
  rw [h.names]
  simp [h.wf, h.idle, breakHit_debugOff h.noDebug, h.passes, h.notDeferred, h.clean]

theorem issueWith_clear {i : Instr} {s : State} {g : Group} {e : Ent} (h : Clear i s g e)
    (k : State → Group → Ent → Mask → State × Fate) :
    issueWith i s k = .next (finish i s g e false (k s g e 0)) := by
  unfold issueWith
  rw [precheck_clear h]
  rfl

theorem issue_clear {i : Instr} {s : State} {g : Group} {e : Ent} (h : Clear i s g e)
    (k : State → Group → Ent → State × Fate) :
    issue i s k = .next (finish i s g e false (k s g e)) := issueWith_clear h _

theorem shadowMiss_none {s : State} (h : s.shadowBad = []) (g : Group) (i : Instr) (m : Mask) : shadowMiss s g i m = 0 := by
  unfold shadowMiss
  simp [h]

/-- An instruction that completes with nothing else due: its effect is the whole of the next state. -/
theorem finish_quiet {i : Instr} {s : State} {g : Group} {e : Ent} (h : Clear i s g e) {t : State} (ha : t.ap = s.ap) :
    finish i s g e false (t, .quiet) = t := by
  have hd : DebugOff t := debugOff_of_ap h.noDebug ha
  unfold finish
  simp [h.noSkip, shadowMiss_none h.noShadow, stepHit_debugOff hd]

/-- An instruction that does not issue. -/
theorem finish_stay {i : Instr} {s : State} {g : Group} {e : Ent} {t : State} :
    finish i s g e false (t, .stay) = t := by
  unfold finish; simp

theorem debugAfter_off {s : State} (h : DebugOff s) (gid : Nat) (m : Mask) : debugAfter s gid m = s := by
  unfold debugAfter
  split
  · rfl
  · simp [stepHits_debugOff h]

/-- An instruction after which waits are looked at again. -/
theorem finish_loud {i : Instr} {s : State} {g : Group} {e : Ent} (h : Clear i s g e) {t : State} (hd : DebugOff t) :
    finish i s g e false (t, .loud) = settle t g.team := by
  have hq : (Fate.loud == Fate.quiet) = false := rfl
  unfold finish
  simp [h.noSkip, shadowMiss_none h.noShadow, debugAfter_off hd, hq]

theorem issue_quiet {i : Instr} {s : State} {g : Group} {e : Ent} (h : Clear i s g e)
    {k : State → Group → Ent → State × Fate} {t : State} (hk : k s g e = (t, .quiet)) (ha : t.ap = s.ap) :
    issue i s k = .next t := by
  rw [issue_clear h, hk, finish_quiet h ha]

theorem issue_loud {i : Instr} {s : State} {g : Group} {e : Ent} (h : Clear i s g e)
    {k : State → Group → Ent → State × Fate} {t : State} (hk : k s g e = (t, .loud)) (ha : t.ap = s.ap) :
    issue i s k = .next (settle t g.team) := by
  rw [issue_clear h, hk, finish_loud h (debugOff_of_ap h.noDebug ha)]

theorem issue_stay {i : Instr} {s : State} {g : Group} {e : Ent} (h : Clear i s g e)
    {k : State → Group → Ent → State × Fate} {t : State} (hk : k s g e = (t, .stay)) :
    issue i s k = .next t := by
  rw [issue_clear h, hk, finish_stay]

@[simp] theorem moveOn_ap (s : State) (g : Group) (e : Ent) (S : BitVec 3) : (moveOn s g e S).ap = s.ap := moveLanes_ap ..

theorem pushAll_keeps {α : Type} (f : State → α) (hf : ∀ s gid w, f (pushWrite s gid w) = f s) :
    ∀ (ws : List PWrite) (s : State) (gid : Nat), f (pushAll s gid ws) = f s
  | [], _, _ => rfl
  | w :: ws, s, gid => (pushAll_keeps f hf ws (pushWrite s gid w) gid).trans (hf s gid w)

@[simp] theorem pushAll_ap (ws : List PWrite) (s : State) (gid : Nat) : (pushAll s gid ws).ap = s.ap :=
  pushAll_keeps (·.ap) (fun s gid w => pushWrite_ap s gid w) ws s gid

/-- The whole of a fixed-latency result in one register. -/
theorem issue_fixed1 {i : Instr} {s : State} {g : Group} {e : Ent} (h : Clear i s g e) (S : BitVec 3) (d : RegName) (n : Nat)
    (f : State → Group → Nat → Word) :
    issue i s (fixed1 S d n f) =
      .next (moveOn (pushWrite s g.gid (fixedWrite g d 0 e.mask n (fun l => (f s g l).setWidth 64))) g e S) :=
  issue_quiet h rfl (by simp)

/-- The whole of a fixed-latency result in a pair. -/
theorem issue_fixed2 {i : Instr} {s : State} {g : Group} {e : Ent} (h : Clear i s g e) (S : BitVec 3) (d : RegName) (n : Nat)
    (f : State → Group → Nat → DWord) :
    issue i s (fixed2 S d n f) =
      .next (moveOn (pushAll s g.gid
        [fixedWrite g d 0 e.mask n (fun l => (loWord (f s g l)).setWidth 64),
         fixedWrite g d 1 e.mask n (fun l => (hiWord (f s g l)).setWidth 64)]) g e S) :=
  issue_quiet h rfl (by simp)

/-- The whole of a scoreboarded result in one register. -/
theorem issue_board1 {i : Instr} {s : State} {g : Group} {e : Ent} (h : Clear i s g e) (S : BitVec 3) (d : RegName)
    (f : State → Group → Nat → Word) :
    issue i s (board1 S d f) =
      .next (moveOn (pushWrite (sent s g e.mask) g.gid
        (boardWrite g d 0 e.mask s.nextId (fun l => (f s g l).setWidth 64))) g e S) :=
  issue_quiet h rfl (by simp [sent])

/-- The whole of a scoreboarded result in a pair. -/
theorem issue_board2 {i : Instr} {s : State} {g : Group} {e : Ent} (h : Clear i s g e) (S : BitVec 3) (d : RegName)
    (f : State → Group → Nat → DWord) :
    issue i s (board2 S d f) =
      .next (moveOn (pushAll (sent s g e.mask) g.gid
        [boardWrite g d 0 e.mask s.nextId (fun l => (loWord (f s g l)).setWidth 64),
         boardWrite g d 1 e.mask s.nextId (fun l => (hiWord (f s g l)).setWidth 64)]) g e S) :=
  issue_quiet h rfl (by simp [sent])

/-- A floating result whose lanes have no signalling NaN operand. -/
theorem issue_fp1 {i : Instr} {s : State} {g : Group} {e : Ent} (h : Clear i s g e) (S : BitVec 3) (d : RegName) (n : Nat)
    (f : State → Group → Nat → Word) (sn : State → Group → Nat → Bool) (hn : lanesWhere e.mask (sn s g) = 0) :
    issue i s (fp1 S d n f sn) =
      .next (moveOn (pushWrite s g.gid (fixedWrite g d 0 e.mask n (fun l => (f s g l).setWidth 64))) g e S) :=
  issue_quiet h (by simp [fp1, fpInvalid, hn, fixed1]) (by simp)

/-- An instruction that only moves on. -/
theorem issue_onlyMove {i : Instr} {s : State} {g : Group} {e : Ent} (h : Clear i s g e) (S : BitVec 3) :
    issue i s (onlyMove S) = .next (moveOn s g e S) := issue_quiet h rfl (by simp)

end Sys2Proof.Machine
end

