-- ==== Sys2Proof/Laws/PerInstr.lean ====
section
/-! SUPPORT. The encoding of every instruction, constructor by constructor (R139, R144): the fields an instruction is packed
from decode to it, at every value of every operand; and a word is its six fields. -/

namespace Sys2Proof

/-- An 8-bit immediate is its X bit and its B field (R140). -/
theorem join8 (o : BitVec 8) : (o.extractLsb' 7 1 ++ o.extractLsb' 0 7) = o := by revert o; decide
theorem low2 (x : BitVec 2) : (0#5 ++ x).extractLsb' 0 2 = x := by revert x; decide
theorem low3 (x : BitVec 3) : (0#4 ++ x).extractLsb' 0 3 = x := by revert x; decide
theorem low4 (x : BitVec 4) : (0#3 ++ x).extractLsb' 0 4 = x := by revert x; decide
theorem low5 (x : BitVec 5) : (0#2 ++ x).extractLsb' 0 5 = x := by revert x; decide
theorem low5k (x : BitVec 5) : (3#2 ++ x).extractLsb' 0 5 = x := by revert x; decide
theorem pf_lo (p : BitVec 2) (f : BitVec 3) : (0#2 ++ p ++ f).extractLsb' 0 3 = f := by revert p f; decide
theorem pf_hi (p : BitVec 2) (f : BitVec 3) : (0#2 ++ p ++ f).extractLsb' 3 2 = p := by revert p f; decide
theorem uvr_r (u v : BitVec 1) (r : BitVec 2) : (0#3 ++ u ++ v ++ r).extractLsb' 0 2 = r := by revert u v r; decide
theorem uvr_v (u v : BitVec 1) (r : BitVec 2) : (0#3 ++ u ++ v ++ r).extractLsb' 2 1 = v := by revert u v r; decide
theorem uvr_u (u v : BitVec 1) (r : BitVec 2) : (0#3 ++ u ++ v ++ r).extractLsb' 3 1 = u := by revert u v r; decide
theorem mq_lo (m q : BitVec 3) : (0#1 ++ m ++ q).extractLsb' 0 3 = q := by revert m q; decide
theorem mq_hi (m q : BitVec 3) : (0#1 ++ m ++ q).extractLsb' 3 3 = m := by revert m q; decide

/-- Packing the six fields of R139 and taking them apart again. -/
theorem splitWord_packWord (f : Fields) : splitWord (packWord f) = f := by
  obtain ⟨s, op, x, d, a, b⟩ := f
  simp only [splitWord, packWord, Fields.mk.injEq]
  refine ⟨?_, ?_, ?_, ?_, ?_, ?_⟩ <;>
    (apply BitVec.eq_of_getLsbD_eq; intro i hi
     simp only [BitVec.getLsbD_extractLsb', BitVec.getLsbD_append, hi, decide_true, Bool.true_and]
     repeat' split
     all_goals first | omega | (congr 1; omega))

namespace Laws.EncodeFields

/-- The fields of an instruction decode to it. -/
def Statement (i : Instr) : Prop := ∀ f, encodeFields i = some f → decodeFields f = some i

theorem blk (s : BitVec 3) (i : BitVec 8) : Statement (.blk s i) := by
  intro fs h; cases h; show some _ = some _; simp only [join8]
theorem br (s : BitVec 3) (o : BitVec 8) : Statement (.br s o) := by
  intro fs h; cases h; show some _ = some _; simp only [join8]
theorem bz (s : BitVec 3) (o : BitVec 8) (a : BitVec 7) : Statement (.bz s o a) := by
  intro fs h; cases h; show some _ = some _; simp only [join8]
theorem bnz (s : BitVec 3) (o : BitVec 8) (a : BitVec 7) : Statement (.bnz s o a) := by
  intro fs h; cases h; show some _ = some _; simp only [join8]
theorem bms (s : BitVec 3) (o : BitVec 8) (m : BitVec 3) : Statement (.bms s o m) := by
  intro fs h; cases h; show some _ = some _; simp only [join8, low3]
theorem bmc (s : BitVec 3) (o : BitVec 8) (m : BitVec 3) : Statement (.bmc s o m) := by
  intro fs h; cases h; show some _ = some _; simp only [join8, low3]
theorem call (s : BitVec 3) (o : BitVec 8) (d : BitVec 7) : Statement (.call s o d) := by
  intro fs h; cases h; show some _ = some _; simp only [join8]
theorem jmp (s : BitVec 3) (a : BitVec 7) : Statement (.jmp s a) := by
  intro fs h; cases h; rfl
theorem calli (s : BitVec 3) (d : BitVec 7) (a : BitVec 7) : Statement (.calli s d a) := by
  intro fs h; cases h; rfl
theorem ret (s : BitVec 3) (a : BitVec 7) : Statement (.ret s a) := by
  intro fs h; cases h; rfl
theorem nop (s : BitVec 3) : Statement (.nop s) := by
  intro fs h; cases h; rfl
theorem yield (s : BitVec 3) : Statement (.yield s) := by
  intro fs h; cases h; rfl
theorem exit (s : BitVec 3) : Statement (.exit s) := by
  intro fs h; cases h; rfl
theorem add (s : BitVec 3) (x : BitVec 1) (d : BitVec 7) (a : BitVec 7) (b : BitVec 7) : Statement (.add s x d a b) := by
  intro fs h; cases h; rfl
theorem sub (s : BitVec 3) (x : BitVec 1) (d : BitVec 7) (a : BitVec 7) (b : BitVec 7) : Statement (.sub s x d a b) := by
  intro fs h; cases h; rfl
theorem addi (s : BitVec 3) (i : BitVec 8) (d : BitVec 7) (a : BitVec 7) : Statement (.addi s i d a) := by
  intro fs h; cases h; show some _ = some _; simp only [join8]
theorem mul (s : BitVec 3) (d : BitVec 7) (a : BitVec 7) (b : BitVec 7) : Statement (.mul s d a b) := by
  intro fs h; cases h; rfl
theorem mulh (s : BitVec 3) (x : BitVec 1) (d : BitVec 7) (a : BitVec 7) (b : BitVec 7) : Statement (.mulh s x d a b) := by
  intro fs h; cases h; rfl
theorem muli (s : BitVec 3) (i : BitVec 8) (d : BitVec 7) (a : BitVec 7) : Statement (.muli s i d a) := by
  intro fs h; cases h; show some _ = some _; simp only [join8]
theorem div (s : BitVec 3) (x : BitVec 1) (d : BitVec 7) (a : BitVec 7) (b : BitVec 7) : Statement (.div s x d a b) := by
  intro fs h; cases h; rfl
theorem rem (s : BitVec 3) (x : BitVec 1) (d : BitVec 7) (a : BitVec 7) (b : BitVec 7) : Statement (.rem s x d a b) := by
  intro fs h; cases h; rfl
theorem and (s : BitVec 3) (d : BitVec 7) (a : BitVec 7) (b : BitVec 7) : Statement (.and s d a b) := by
  intro fs h; cases h; rfl
theorem or (s : BitVec 3) (d : BitVec 7) (a : BitVec 7) (b : BitVec 7) : Statement (.or s d a b) := by
  intro fs h; cases h; rfl
theorem xor (s : BitVec 3) (d : BitVec 7) (a : BitVec 7) (b : BitVec 7) : Statement (.xor s d a b) := by
  intro fs h; cases h; rfl
theorem andi (s : BitVec 3) (i : BitVec 8) (d : BitVec 7) (a : BitVec 7) : Statement (.andi s i d a) := by
  intro fs h; cases h; show some _ = some _; simp only [join8]
theorem ori (s : BitVec 3) (i : BitVec 8) (d : BitVec 7) (a : BitVec 7) : Statement (.ori s i d a) := by
  intro fs h; cases h; show some _ = some _; simp only [join8]
theorem xori (s : BitVec 3) (i : BitVec 8) (d : BitVec 7) (a : BitVec 7) : Statement (.xori s i d a) := by
  intro fs h; cases h; show some _ = some _; simp only [join8]
theorem shl (s : BitVec 3) (d : BitVec 7) (a : BitVec 7) (b : BitVec 7) : Statement (.shl s d a b) := by
  intro fs h; cases h; rfl
theorem shr (s : BitVec 3) (x : BitVec 1) (d : BitVec 7) (a : BitVec 7) (b : BitVec 7) : Statement (.shr s x d a b) := by
  intro fs h; cases h; rfl
theorem shli (s : BitVec 3) (i : BitVec 8) (d : BitVec 7) (a : BitVec 7) : Statement (.shli s i d a) := by
  intro fs h; cases h; show some _ = some _; simp only [join8]
theorem shri (s : BitVec 3) (i : BitVec 8) (d : BitVec 7) (a : BitVec 7) : Statement (.shri s i d a) := by
  intro fs h; cases h; show some _ = some _; simp only [join8]
theorem shrai (s : BitVec 3) (i : BitVec 8) (d : BitVec 7) (a : BitVec 7) : Statement (.shrai s i d a) := by
  intro fs h; cases h; show some _ = some _; simp only [join8]
theorem movi (s : BitVec 3) (i : BitVec 8) (d : BitVec 7) : Statement (.movi s i d) := by
  intro fs h; cases h; show some _ = some _; simp only [join8]
theorem not (s : BitVec 3) (d : BitVec 7) (a : BitVec 7) : Statement (.not s d a) := by
  intro fs h; cases h; rfl
theorem neg (s : BitVec 3) (d : BitVec 7) (a : BitVec 7) : Statement (.neg s d a) := by
  intro fs h; cases h; rfl
theorem abs (s : BitVec 3) (d : BitVec 7) (a : BitVec 7) : Statement (.abs s d a) := by
  intro fs h; cases h; rfl
theorem clz (s : BitVec 3) (d : BitVec 7) (a : BitVec 7) : Statement (.clz s d a) := by
  intro fs h; cases h; rfl
theorem popc (s : BitVec 3) (d : BitVec 7) (a : BitVec 7) : Statement (.popc s d a) := by
  intro fs h; cases h; rfl
theorem brev (s : BitVec 3) (d : BitVec 7) (a : BitVec 7) : Statement (.brev s d a) := by
  intro fs h; cases h; rfl
theorem mov (s : BitVec 3) (d : BitVec 7) (a : BitVec 7) : Statement (.mov s d a) := by
  intro fs h; cases h; rfl
theorem bfx (s : BitVec 3) (d : BitVec 7) (a : BitVec 7) (b : BitVec 7) : Statement (.bfx s d a b) := by
  intro fs h; cases h; rfl
theorem bfi (s : BitVec 3) (d : BitVec 7) (a : BitVec 7) (b : BitVec 7) : Statement (.bfi s d a b) := by
  intro fs h; cases h; rfl
theorem isetEq (s : BitVec 3) (d : BitVec 7) (a : BitVec 7) (b : BitVec 7) : Statement (.isetEq s d a b) := by
  intro fs h; cases h; rfl
theorem isetNe (s : BitVec 3) (d : BitVec 7) (a : BitVec 7) (b : BitVec 7) : Statement (.isetNe s d a b) := by
  intro fs h; cases h; rfl
theorem isetLt (s : BitVec 3) (x : BitVec 1) (d : BitVec 7) (a : BitVec 7) (b : BitVec 7) : Statement (.isetLt s x d a b) := by
  intro fs h; cases h; rfl
theorem isetLe (s : BitVec 3) (x : BitVec 1) (d : BitVec 7) (a : BitVec 7) (b : BitVec 7) : Statement (.isetLe s x d a b) := by
  intro fs h; cases h; rfl
theorem sel (s : BitVec 3) (d : BitVec 7) (a : BitVec 7) (b : BitVec 7) : Statement (.sel s d a b) := by
  intro fs h; cases h; rfl
theorem add64 (s : BitVec 3) (d : BitVec 7) (a : BitVec 7) (b : BitVec 7) : Statement (.add64 s d a b) := by
  intro fs h; cases h; rfl
theorem addi64 (s : BitVec 3) (i : BitVec 8) (d : BitVec 7) (a : BitVec 7) : Statement (.addi64 s i d a) := by
  intro fs h; cases h; show some _ = some _; simp only [join8]
theorem lea (s : BitVec 3) (d : BitVec 7) (a : BitVec 7) (b : BitVec 7) : Statement (.lea s d a b) := by
  intro fs h; cases h; rfl
theorem imad (s : BitVec 3) (d : BitVec 7) (a : BitVec 7) (b : BitVec 7) : Statement (.imad s d a b) := by
  intro fs h; cases h; rfl
theorem fadd (s : BitVec 3) (d : BitVec 7) (a : BitVec 7) (b : BitVec 7) : Statement (.fadd s d a b) := by
  intro fs h; cases h; rfl
theorem fsub (s : BitVec 3) (d : BitVec 7) (a : BitVec 7) (b : BitVec 7) : Statement (.fsub s d a b) := by
  intro fs h; cases h; rfl
theorem fmul (s : BitVec 3) (d : BitVec 7) (a : BitVec 7) (b : BitVec 7) : Statement (.fmul s d a b) := by
  intro fs h; cases h; rfl
theorem ffma (s : BitVec 3) (d : BitVec 7) (a : BitVec 7) (b : BitVec 7) : Statement (.ffma s d a b) := by
  intro fs h; cases h; rfl
theorem fmin (s : BitVec 3) (x : BitVec 1) (d : BitVec 7) (a : BitVec 7) (b : BitVec 7) : Statement (.fmin s x d a b) := by
  intro fs h; cases h; rfl
theorem fmax (s : BitVec 3) (x : BitVec 1) (d : BitVec 7) (a : BitVec 7) (b : BitVec 7) : Statement (.fmax s x d a b) := by
  intro fs h; cases h; rfl
theorem fsetEq (s : BitVec 3) (d : BitVec 7) (a : BitVec 7) (b : BitVec 7) : Statement (.fsetEq s d a b) := by
  intro fs h; cases h; rfl
theorem fsetNe (s : BitVec 3) (d : BitVec 7) (a : BitVec 7) (b : BitVec 7) : Statement (.fsetNe s d a b) := by
  intro fs h; cases h; rfl
theorem fsetLt (s : BitVec 3) (x : BitVec 1) (d : BitVec 7) (a : BitVec 7) (b : BitVec 7) : Statement (.fsetLt s x d a b) := by
  intro fs h; cases h; rfl
theorem fsetLe (s : BitVec 3) (x : BitVec 1) (d : BitVec 7) (a : BitVec 7) (b : BitVec 7) : Statement (.fsetLe s x d a b) := by
  intro fs h; cases h; rfl
theorem fclass (s : BitVec 3) (i : BitVec 8) (d : BitVec 7) (a : BitVec 7) : Statement (.fclass s i d a) := by
  intro fs h; cases h; show some _ = some _; simp only [join8]
theorem fneg (s : BitVec 3) (d : BitVec 7) (a : BitVec 7) : Statement (.fneg s d a) := by
  intro fs h; cases h; rfl
theorem fabs (s : BitVec 3) (d : BitVec 7) (a : BitVec 7) : Statement (.fabs s d a) := by
  intro fs h; cases h; rfl
theorem frcp (s : BitVec 3) (d : BitVec 7) (a : BitVec 7) : Statement (.frcp s d a) := by
  intro fs h; cases h; rfl
theorem frsq (s : BitVec 3) (d : BitVec 7) (a : BitVec 7) : Statement (.frsq s d a) := by
  intro fs h; cases h; rfl
theorem fsqrt (s : BitVec 3) (d : BitVec 7) (a : BitVec 7) : Statement (.fsqrt s d a) := by
  intro fs h; cases h; rfl
theorem fex2 (s : BitVec 3) (d : BitVec 7) (a : BitVec 7) : Statement (.fex2 s d a) := by
  intro fs h; cases h; rfl
theorem flg2 (s : BitVec 3) (d : BitVec 7) (a : BitVec 7) : Statement (.flg2 s d a) := by
  intro fs h; cases h; rfl
theorem fsin (s : BitVec 3) (d : BitVec 7) (a : BitVec 7) : Statement (.fsin s d a) := by
  intro fs h; cases h; rfl
theorem fcos (s : BitVec 3) (d : BitVec 7) (a : BitVec 7) : Statement (.fcos s d a) := by
  intro fs h; cases h; rfl
theorem ftanh (s : BitVec 3) (d : BitVec 7) (a : BitVec 7) : Statement (.ftanh s d a) := by
  intro fs h; cases h; rfl
theorem hadd2 (s : BitVec 3) (x : BitVec 1) (d : BitVec 7) (a : BitVec 7) (b : BitVec 7) : Statement (.hadd2 s x d a b) := by
  intro fs h; cases h; rfl
theorem hmul2 (s : BitVec 3) (x : BitVec 1) (d : BitVec 7) (a : BitVec 7) (b : BitVec 7) : Statement (.hmul2 s x d a b) := by
  intro fs h; cases h; rfl
theorem hfma2 (s : BitVec 3) (x : BitVec 1) (d : BitVec 7) (a : BitVec 7) (b : BitVec 7) : Statement (.hfma2 s x d a b) := by
  intro fs h; cases h; rfl
theorem hmin2 (s : BitVec 3) (x : BitVec 1) (d : BitVec 7) (a : BitVec 7) : Statement (.hmin2 s x d a) := by
  intro fs h; cases h; rfl
theorem hmin2P (s : BitVec 3) (x : BitVec 1) (d : BitVec 7) (a : BitVec 7) : Statement (.hmin2P s x d a) := by
  intro fs h; cases h; rfl
theorem hmax2 (s : BitVec 3) (x : BitVec 1) (d : BitVec 7) (a : BitVec 7) : Statement (.hmax2 s x d a) := by
  intro fs h; cases h; rfl
theorem hmax2P (s : BitVec 3) (x : BitVec 1) (d : BitVec 7) (a : BitVec 7) : Statement (.hmax2P s x d a) := by
  intro fs h; cases h; rfl
theorem hneg2 (s : BitVec 3) (x : BitVec 1) (d : BitVec 7) (a : BitVec 7) : Statement (.hneg2 s x d a) := by
  intro fs h; cases h; rfl
theorem habs2 (s : BitVec 3) (x : BitVec 1) (d : BitVec 7) (a : BitVec 7) : Statement (.habs2 s x d a) := by
  intro fs h; cases h; rfl
theorem cvts (s : BitVec 3) (d : BitVec 7) (a : BitVec 7) (p : BitVec 2) (f : BitVec 3) : Statement (.cvts s d a p f) := by
  intro fs h; cases h; show some _ = some _; simp only [pf_lo, pf_hi]
theorem cvtx (s : BitVec 3) (d : BitVec 7) (a : BitVec 7) (p : BitVec 2) (f : BitVec 3) : Statement (.cvtx s d a p f) := by
  intro fs h; cases h; show some _ = some _; simp only [pf_lo, pf_hi]
theorem cvti (s : BitVec 3) (d : BitVec 7) (a : BitVec 7) (u : BitVec 1) (v : BitVec 1) (r : BitVec 2) : Statement (.cvti s d a u v r) := by
  intro fs h; cases h; show some _ = some _; simp only [uvr_r, uvr_v, uvr_u]
theorem cvtb (s : BitVec 3) (d : BitVec 7) (a : BitVec 7) (f : BitVec 3) : Statement (.cvtb s d a f) := by
  intro fs h; cases h; show some _ = some _; simp only [low3]
theorem cvthF2hl (s : BitVec 3) (d : BitVec 7) (a : BitVec 7) : Statement (.cvthF2hl s d a) := by
  intro fs h; cases h; rfl
theorem cvthF2hh (s : BitVec 3) (d : BitVec 7) (a : BitVec 7) : Statement (.cvthF2hh s d a) := by
  intro fs h; cases h; rfl
theorem cvthF2bl (s : BitVec 3) (d : BitVec 7) (a : BitVec 7) : Statement (.cvthF2bl s d a) := by
  intro fs h; cases h; rfl
theorem cvthF2bh (s : BitVec 3) (d : BitVec 7) (a : BitVec 7) : Statement (.cvthF2bh s d a) := by
  intro fs h; cases h; rfl
theorem cvthHl2f (s : BitVec 3) (d : BitVec 7) (a : BitVec 7) : Statement (.cvthHl2f s d a) := by
  intro fs h; cases h; rfl
theorem cvthHh2f (s : BitVec 3) (d : BitVec 7) (a : BitVec 7) : Statement (.cvthHh2f s d a) := by
  intro fs h; cases h; rfl
theorem cvthBl2f (s : BitVec 3) (d : BitVec 7) (a : BitVec 7) : Statement (.cvthBl2f s d a) := by
  intro fs h; cases h; rfl
theorem cvthBh2f (s : BitVec 3) (d : BitVec 7) (a : BitVec 7) : Statement (.cvthBh2f s d a) := by
  intro fs h; cases h; rfl
theorem lane (s : BitVec 3) (x : BitVec 1) (d : BitVec 7) : Statement (.lane s x d) := by
  intro fs h; cases h; rfl
theorem shfl (s : BitVec 3) (x : BitVec 1) (d : BitVec 7) (a : BitVec 7) (b : BitVec 7) : Statement (.shfl s x d a b) := by
  intro fs h; cases h; rfl
theorem voteAny (s : BitVec 3) (x : BitVec 1) (d : BitVec 7) (a : BitVec 7) : Statement (.voteAny s x d a) := by
  intro fs h; cases h; rfl
theorem voteAll (s : BitVec 3) (x : BitVec 1) (d : BitVec 7) (a : BitVec 7) : Statement (.voteAll s x d a) := by
  intro fs h; cases h; rfl
theorem voteBallot (s : BitVec 3) (m : BitVec 3) (a : BitVec 7) : Statement (.voteBallot s m a) := by
  intro fs h; cases h; show some _ = some _; simp only [low3]
theorem bcast (s : BitVec 3) (x : BitVec 1) (d : BitVec 7) (a : BitVec 7) (b : BitVec 7) : Statement (.bcast s x d a b) := by
  intro fs h; cases h; rfl
theorem matchLanes (s : BitVec 3) (x : BitVec 1) (d : BitVec 7) (a : BitVec 7) : Statement (.matchLanes s x d a) := by
  intro fs h; cases h; rfl
theorem redAdd (s : BitVec 3) (x : BitVec 1) (d : BitVec 7) (a : BitVec 7) : Statement (.redAdd s x d a) := by
  intro fs h; cases h; rfl
theorem redMinS (s : BitVec 3) (x : BitVec 1) (d : BitVec 7) (a : BitVec 7) : Statement (.redMinS s x d a) := by
  intro fs h; cases h; rfl
theorem redMinU (s : BitVec 3) (x : BitVec 1) (d : BitVec 7) (a : BitVec 7) : Statement (.redMinU s x d a) := by
  intro fs h; cases h; rfl
theorem redMaxS (s : BitVec 3) (x : BitVec 1) (d : BitVec 7) (a : BitVec 7) : Statement (.redMaxS s x d a) := by
  intro fs h; cases h; rfl
theorem redMaxU (s : BitVec 3) (x : BitVec 1) (d : BitVec 7) (a : BitVec 7) : Statement (.redMaxU s x d a) := by
  intro fs h; cases h; rfl
theorem redAnd (s : BitVec 3) (x : BitVec 1) (d : BitVec 7) (a : BitVec 7) : Statement (.redAnd s x d a) := by
  intro fs h; cases h; rfl
theorem redOr (s : BitVec 3) (x : BitVec 1) (d : BitVec 7) (a : BitVec 7) : Statement (.redOr s x d a) := by
  intro fs h; cases h; rfl
theorem redXor (s : BitVec 3) (x : BitVec 1) (d : BitVec 7) (a : BitVec 7) : Statement (.redXor s x d a) := by
  intro fs h; cases h; rfl
theorem fredAdd (s : BitVec 3) (x : BitVec 1) (d : BitVec 7) (a : BitVec 7) : Statement (.fredAdd s x d a) := by
  intro fs h; cases h; rfl
theorem fredMin (s : BitVec 3) (x : BitVec 1) (d : BitVec 7) (a : BitVec 7) : Statement (.fredMin s x d a) := by
  intro fs h; cases h; rfl
theorem fredMinp (s : BitVec 3) (x : BitVec 1) (d : BitVec 7) (a : BitVec 7) : Statement (.fredMinp s x d a) := by
  intro fs h; cases h; rfl
theorem fredMax (s : BitVec 3) (x : BitVec 1) (d : BitVec 7) (a : BitVec 7) : Statement (.fredMax s x d a) := by
  intro fs h; cases h; rfl
theorem fredMaxp (s : BitVec 3) (x : BitVec 1) (d : BitVec 7) (a : BitVec 7) : Statement (.fredMaxp s x d a) := by
  intro fs h; cases h; rfl
theorem scanAdd (s : BitVec 3) (x : BitVec 1) (d : BitVec 7) (a : BitVec 7) : Statement (.scanAdd s x d a) := by
  intro fs h; cases h; rfl
theorem scanXadd (s : BitVec 3) (x : BitVec 1) (d : BitVec 7) (a : BitVec 7) : Statement (.scanXadd s x d a) := by
  intro fs h; cases h; rfl
theorem scanFadd (s : BitVec 3) (x : BitVec 1) (d : BitVec 7) (a : BitVec 7) : Statement (.scanFadd s x d a) := by
  intro fs h; cases h; rfl
theorem barArrive (s : BitVec 3) (n : BitVec 5) (d : BitVec 7) : Statement (.barArrive s n d) := by
  intro fs h; cases h; show some _ = some _; simp only [low5]
theorem barWait (s : BitVec 3) (n : BitVec 5) (a : BitVec 7) : Statement (.barWait s n a) := by
  intro fs h; cases h; show some _ = some _; simp only [low5]
theorem barSync (s : BitVec 3) (n : BitVec 5) : Statement (.barSync s n) := by
  intro fs h; cases h; show some _ = some _; simp only [low5]
theorem regrp (s : BitVec 3) (k : BitVec 7) (f : BitVec 7) (c : BitVec 7) : Statement (.regrp s k f c) := by
  intro fs h; cases h; rfl
theorem winb (s : BitVec 3) (i : BitVec 8) : Statement (.winb s i) := by
  intro fs h; cases h; show some _ = some _; simp only [join8]
theorem tcall (s : BitVec 3) (m : BitVec 3) (p : BitVec 7) (n : BitVec 3) : Statement (.tcall s m p n) := by
  intro fs h; cases h; show some _ = some _; simp only [low3]
theorem tret (s : BitVec 3) : Statement (.tret s) := by
  intro fs h; cases h; rfl
theorem ld (s : BitVec 3) (c : BitVec 1) (d : BitVec 7) (a : BitVec 7) (b : BitVec 7) : Statement (.ld s c d a b) := by
  intro fs h; cases h; rfl
theorem ldB64 (s : BitVec 3) (c : BitVec 1) (d : BitVec 7) (a : BitVec 7) (b : BitVec 7) : Statement (.ldB64 s c d a b) := by
  intro fs h; cases h; rfl
theorem ldB8 (s : BitVec 3) (d : BitVec 7) (a : BitVec 7) (b : BitVec 7) : Statement (.ldB8 s d a b) := by
  intro fs h; cases h; rfl
theorem ldB16 (s : BitVec 3) (d : BitVec 7) (a : BitVec 7) (b : BitVec 7) : Statement (.ldB16 s d a b) := by
  intro fs h; cases h; rfl
theorem ldNr (s : BitVec 3) (c : BitVec 1) (d : BitVec 7) (a : BitVec 7) (m : BitVec 3) : Statement (.ldNr s c d a m) := by
  intro fs h; cases h; show some _ = some _; simp only [low3]
theorem st (s : BitVec 3) (c : BitVec 1) (d : BitVec 7) (a : BitVec 7) (b : BitVec 7) : Statement (.st s c d a b) := by
  intro fs h; cases h; rfl
theorem stB64 (s : BitVec 3) (c : BitVec 1) (d : BitVec 7) (a : BitVec 7) (b : BitVec 7) : Statement (.stB64 s c d a b) := by
  intro fs h; cases h; rfl
theorem stB8 (s : BitVec 3) (d : BitVec 7) (a : BitVec 7) (b : BitVec 7) : Statement (.stB8 s d a b) := by
  intro fs h; cases h; rfl
theorem stB16 (s : BitVec 3) (d : BitVec 7) (a : BitVec 7) (b : BitVec 7) : Statement (.stB16 s d a b) := by
  intro fs h; cases h; rfl
theorem ldsp (s : BitVec 3) (d : BitVec 7) (a : BitVec 7) (b : BitVec 7) : Statement (.ldsp s d a b) := by
  intro fs h; cases h; rfl
theorem stsp (s : BitVec 3) (d : BitVec 7) (a : BitVec 7) (b : BitVec 7) : Statement (.stsp s d a b) := by
  intro fs h; cases h; rfl
theorem atom (s : BitVec 3) (d : BitVec 7) (a : BitVec 7) (o : BitVec 7) : Statement (.atom s d a o) := by
  intro fs h; cases h; rfl
theorem ratom (s : BitVec 3) (d : BitVec 7) (a : BitVec 7) (o : BitVec 7) : Statement (.ratom s d a o) := by
  intro fs h; cases h; rfl
theorem cadd (s : BitVec 3) (d : BitVec 7) (a : BitVec 7) (f : BitVec 7) : Statement (.cadd s d a f) := by
  intro fs h; cases h; rfl
theorem fence (s : BitVec 3) (c : BitVec 7) : Statement (.fence s c) := by
  intro fs h; cases h; rfl
theorem fenceTc (s : BitVec 3) : Statement (.fenceTc s) := by
  intro fs h; cases h; rfl
theorem fenceQ (s : BitVec 3) (a : BitVec 7) : Statement (.fenceQ s a) := by
  intro fs h; cases h; rfl
theorem pref (s : BitVec 3) (l : BitVec 7) (a : BitVec 7) : Statement (.pref s l a) := by
  intro fs h; cases h; rfl
theorem pgreq (s : BitVec 3) (h : BitVec 4) (a : BitVec 7) : Statement (.pgreq s h a) := by
  intro fs h; cases h; show some _ = some _; simp only [low4]
theorem qpush (s : BitVec 3) (q : BitVec 3) (a : BitVec 7) : Statement (.qpush s q a) := by
  intro fs h; cases h; show some _ = some _; simp only [low3]
theorem qpop (s : BitVec 3) (d : BitVec 7) (m : BitVec 3) (q : BitVec 3) : Statement (.qpop s d m q) := by
  intro fs h; cases h; show some _ = some _; simp only [mq_lo, mq_hi]
theorem copy (s : BitVec 3) (h : BitVec 4) (a : BitVec 7) (q : BitVec 3) : Statement (.copy s h a q) := by
  intro fs h; cases h; show some _ = some _; simp only [low4, low3]
theorem hwait (s : BitVec 3) (h : BitVec 4) : Statement (.hwait s h) := by
  intro fs h; cases h; show some _ = some _; simp only [low4]
theorem htest (s : BitVec 3) (d : BitVec 7) (h : BitVec 4) : Statement (.htest s d h) := by
  intro fs h; cases h; show some _ = some _; simp only [low4]
theorem hcancel (s : BitVec 3) (h : BitVec 4) : Statement (.hcancel s h) := by
  intro fs h; cases h; show some _ = some _; simp only [low4]
theorem hexport (s : BitVec 3) (d : BitVec 7) (h : BitVec 4) : Statement (.hexport s d h) := by
  intro fs h; cases h; show some _ = some _; simp only [low4]
theorem himport (s : BitVec 3) (h : BitVec 4) (a : BitVec 7) : Statement (.himport s h a) := by
  intro fs h; cases h; show some _ = some _; simp only [low4]
theorem macq (s : BitVec 3) : Statement (.macq s) := by
  intro fs h; cases h; rfl
theorem mrel (s : BitVec 3) : Statement (.mrel s) := by
  intro fs h; cases h; rfl
theorem mma (s : BitVec 3) (x : BitVec 1) (t : BitVec 3) (a : BitVec 7) (b : BitVec 7) : Statement (.mma s x t a b) := by
  intro fs h; cases h; show some _ = some _; simp only [low3]
theorem mmaP (s : BitVec 3) (x : BitVec 1) (t : BitVec 3) (a : BitVec 7) (b : BitVec 7) : Statement (.mmaP s x t a b) := by
  intro fs h; cases h; show some _ = some _; simp only [low3]
theorem mzero (s : BitVec 3) (t : BitVec 3) : Statement (.mzero s t) := by
  intro fs h; cases h; show some _ = some _; simp only [low3]
theorem mloada (s : BitVec 3) (t : BitVec 3) (a : BitVec 7) : Statement (.mloada s t a) := by
  intro fs h; cases h; show some _ = some _; simp only [low3]
theorem mstorea (s : BitVec 3) (t : BitVec 3) (a : BitVec 7) : Statement (.mstorea s t a) := by
  intro fs h; cases h; show some _ = some _; simp only [low3]
theorem collPost (s : BitVec 3) (h : BitVec 4) (c : BitVec 2) : Statement (.collPost s h c) := by
  intro fs h; cases h; show some _ = some _; simp only [low2, low4]
theorem collFire (s : BitVec 3) (c : BitVec 2) (a : BitVec 7) : Statement (.collFire s c a) := by
  intro fs h; cases h; show some _ = some _; simp only [low2]
theorem collProg (s : BitVec 3) (d : BitVec 7) (c : BitVec 2) : Statement (.collProg s d c) := by
  intro fs h; cases h; show some _ = some _; simp only [low2]
theorem collAgree (s : BitVec 3) (h : BitVec 4) (c : BitVec 2) : Statement (.collAgree s h c) := by
  intro fs h; cases h; show some _ = some _; simp only [low2, low4]
theorem deq (s : BitVec 3) (d : BitVec 7) (a : BitVec 7) : Statement (.deq s d a) := by
  intro fs h; cases h; rfl
theorem enq (s : BitVec 3) (d : BitVec 7) (a : BitVec 7) : Statement (.enq s d a) := by
  intro fs h; cases h; rfl
theorem launch (s : BitVec 3) (h : BitVec 4) (a : BitVec 7) : Statement (.launch s h a) := by
  intro fs h; cases h; show some _ = some _; simp only [low4]
theorem wfetch (s : BitVec 3) (d : BitVec 7) (a : BitVec 7) : Statement (.wfetch s d a) := by
  intro fs h; cases h; rfl
theorem srd (s : BitVec 3) (r : BitVec 8) (d : BitVec 7) : Statement (.srd s r d) := by
  intro fs h; cases h; show some _ = some _; simp only [join8]
theorem swr (s : BitVec 3) (r : BitVec 8) (a : BitVec 7) : Statement (.swr s r a) := by
  intro fs h; cases h; show some _ = some _; simp only [join8]
theorem trap (s : BitVec 3) (n : BitVec 4) : Statement (.trap s n) := by
  intro fs h; cases h; show some _ = some _; simp only [low4]
theorem eret (s : BitVec 3) : Statement (.eret s) := by
  intro fs h; cases h; rfl
theorem kset (s : BitVec 3) (k : BitVec 5) (a : BitVec 7) : Statement (.kset s k a) := by
  intro fs h; cases h; show some _ = some _; simp only [low5k]
theorem icinv (s : BitVec 3) (c : BitVec 7) (a : BitVec 7) : Statement (.icinv s c a) := by
  intro fs h; cases h; rfl
theorem isync (s : BitVec 3) : Statement (.isync s) := by
  intro fs h; cases h; rfl
theorem xlate (s : BitVec 3) (d : BitVec 7) (a : BitVec 7) : Statement (.xlate s d a) := by
  intro fs h; cases h; rfl
theorem sleep (s : BitVec 3) (a : BitVec 7) : Statement (.sleep s a) := by
  intro fs h; cases h; rfl
theorem halt (s : BitVec 3) : Statement (.halt s) := by
  intro fs h; cases h; rfl
theorem ctxsave (s : BitVec 3) (h : BitVec 4) (a : BitVec 7) : Statement (.ctxsave s h a) := by
  intro fs h; cases h; show some _ = some _; simp only [low4]
theorem ctxload (s : BitVec 3) (h : BitVec 4) (a : BitVec 7) : Statement (.ctxload s h a) := by
  intro fs h; cases h; show some _ = some _; simp only [low4]
theorem stallCountExpiry (core gid : Nat) : Statement (.stallCountExpiry core gid) := by
  intro fs h; cases h
theorem deferredRelease (core gid : Nat) (pc : DWord) (prio : Byte) : Statement (.deferredRelease core gid pc prio) := by
  intro fs h; cases h
theorem loadResult (tok : Nat) : Statement (.loadResult tok) := by
  intro fs h; cases h
theorem ratomResult (op lane : Nat) (resp : RemoteResp) : Statement (.ratomResult op lane resp) := by
  intro fs h; cases h
theorem remoteAccessRequest (r : RemoteReq) : Statement (.remoteAccessRequest r) := by
  intro fs h; cases h
theorem copyElement (op i0 i1 i2 i3 : Nat) (resp : RemoteResp) : Statement (.copyElement op i0 i1 i2 i3 resp) := by
  intro fs h; cases h
theorem copyComplete (op : Nat) : Statement (.copyComplete op) := by
  intro fs h; cases h
theorem matrixOpRetire (core : Nat) (cell : Bool) : Statement (.matrixOpRetire core cell) := by
  intro fs h; cases h
theorem invalidation (agent : Agent) (sector : Nat) : Statement (.invalidation agent sector) := by
  intro fs h; cases h
theorem tAcknowledge (agent : Agent) (sector : Nat) : Statement (.tAcknowledge agent sector) := by
  intro fs h; cases h
theorem completionPoint (sector : Nat) : Statement (.completionPoint sector) := by
  intro fs h; cases h
theorem pageRequestRecordPost (op : Nat) : Statement (.pageRequestRecordPost op) := by
  intro fs h; cases h
theorem windowAccessArrival (op lane : Nat) : Statement (.windowAccessArrival op lane) := by
  intro fs h; cases h
theorem teamRelease (core team : Nat) : Statement (.teamRelease core team) := by
  intro fs h; cases h
theorem mailboxWrite (core team : Nat) : Statement (.mailboxWrite core team) := by
  intro fs h; cases h
theorem collCheckReturn (core gid : Nat) : Statement (.collCheckReturn core gid) := by
  intro fs h; cases h
theorem launchCheck (q : Nat) : Statement (.launchCheck q) := by
  intro fs h; cases h
theorem placeStep (part : Nat) : Statement (.placeStep part) := by
  intro fs h; cases h
theorem tenantPartitionWrite (t : Nat) (v : DWord) : Statement (.tenantPartitionWrite t v) := by
  intro fs h; cases h
theorem wqcfgWrite (q : Nat) (v : DWord) : Statement (.wqcfgWrite q v) := by
  intro fs h; cases h
theorem hostItemAppend (q : Nat) (v : DWord) : Statement (.hostItemAppend q v) := by
  intro fs h; cases h
theorem preemptSave (core : Nat) (v : DWord) : Statement (.preemptSave core v) := by
  intro fs h; cases h
theorem groupHalt (core gid : Nat) : Statement (.groupHalt core gid) := by
  intro fs h; cases h
theorem forcedSave (core : Nat) : Statement (.forcedSave core) := by
  intro fs h; cases h
theorem teamStateSave (core team : Nat) : Statement (.teamStateSave core team) := by
  intro fs h; cases h
theorem preemptRestore (core : Nat) (v : DWord) : Statement (.preemptRestore core v) := by
  intro fs h; cases h
theorem restoreResume (core : Nat) (damaged : Bool) : Statement (.restoreResume core damaged) := by
  intro fs h; cases h
theorem paddockWrite (w : Nat) (v : DWord) : Statement (.paddockWrite w v) := by
  intro fs h; cases h
theorem circuitRelease (pkg : Nat) : Statement (.circuitRelease pkg) := by
  intro fs h; cases h
theorem pauseFlit (port vc : Nat) : Statement (.pauseFlit port vc) := by
  intro fs h; cases h
theorem resumeFlit (port vc : Nat) : Statement (.resumeFlit port vc) := by
  intro fs h; cases h
theorem collPacketArrival (p : CollPkt) : Statement (.collPacketArrival p) := by
  intro fs h; cases h
theorem retryAfter (p : CollPkt) (us : Nat) : Statement (.retryAfter p us) := by
  intro fs h; cases h
theorem retryResend (n : Nat) : Statement (.retryResend n) := by
  intro fs h; cases h
theorem collCommit (ctx c : Nat) : Statement (.collCommit ctx c) := by
  intro fs h; cases h
theorem agreementStart (ctx c : Nat) : Statement (.agreementStart ctx c) := by
  intro fs h; cases h
theorem agreeProgress (ctx c rank : Nat) (value : Option Nat) : Statement (.agreeProgress ctx c rank value) := by
  intro fs h; cases h
theorem agreeResult (ctx c : Nat) (value : Option Nat) : Statement (.agreeResult ctx c value) := by
  intro fs h; cases h
theorem collCancel (ctx c pkg : Nat) : Statement (.collCancel ctx c pkg) := by
  intro fs h; cases h
theorem cancelAck (ctx c rank : Nat) : Statement (.cancelAck ctx c rank) := by
  intro fs h; cases h
theorem governorInterval (perStream perByte : Nat) (temps : List Nat) : Statement (.governorInterval perStream perByte temps) := by
  intro fs h; cases h
theorem governorFloorWrite (v : DWord) : Statement (.governorFloorWrite v) := by
  intro fs h; cases h
theorem bootcfgWrite (v : DWord) : Statement (.bootcfgWrite v) := by
  intro fs h; cases h
theorem romHubVerify : Statement (.romHubVerify) := by
  intro fs h; cases h
theorem hubKernelVerify (peer : PeerInfo) : Statement (.hubKernelVerify peer) := by
  intro fs h; cases h
theorem attestRequest (v : DWord) : Statement (.attestRequest v) := by
  intro fs h; cases h
theorem thermalTrip (die temp : Nat) : Statement (.thermalTrip die temp) := by
  intro fs h; cases h
theorem tripClear (v : DWord) : Statement (.tripClear v) := by
  intro fs h; cases h
theorem powerRemove (die temp : Nat) : Statement (.powerRemove die temp) := by
  intro fs h; cases h
theorem debugRelease (ch : Nat) (v : DWord) : Statement (.debugRelease ch v) := by
  intro fs h; cases h
theorem pendingTrapRelease (core gid : Nat) : Statement (.pendingTrapRelease core gid) := by
  intro fs h; cases h
theorem trapRecordPost (tenant : Nat) : Statement (.trapRecordPost tenant) := by
  intro fs h; cases h
theorem trapbaseWrite (t : Nat) (v : DWord) : Statement (.trapbaseWrite t v) := by
  intro fs h; cases h
theorem trapResume (v : DWord) : Statement (.trapResume v) := by
  intro fs h; cases h
theorem trapKill (v : DWord) : Statement (.trapKill v) := by
  intro fs h; cases h
theorem killHeld (core : Nat) (v : DWord) : Statement (.killHeld core v) := by
  intro fs h; cases h
theorem killContext (core : Nat) (v : DWord) : Statement (.killContext core v) := by
  intro fs h; cases h
theorem killDone (core : Nat) : Statement (.killDone core) := by
  intro fs h; cases h
theorem declareLost (v : DWord) : Statement (.declareLost v) := by
  intro fs h; cases h
theorem lossRequestTimeout (pkg : Nat) : Statement (.lossRequestTimeout pkg) := by
  intro fs h; cases h
theorem switchLinksDown (pkg : Nat) : Statement (.switchLinksDown pkg) := by
  intro fs h; cases h
theorem lossNotice (pkg : Nat) : Statement (.lossNotice pkg) := by
  intro fs h; cases h
theorem homeRebuild (pkg : Nat) (copies : List HeldCopy) : Statement (.homeRebuild pkg copies) := by
  intro fs h; cases h
theorem eccError (e : EccEvent) : Statement (.eccError e) := by
  intro fs h; cases h
theorem structureError (kind unit effect : Nat) (hit : List Nat) : Statement (.structureError kind unit effect hit) := by
  intro fs h; cases h
theorem tenantReset (t : Nat) (v : DWord) : Statement (.tenantReset t v) := by
  intro fs h; cases h
theorem laneSampleInterval (port : Nat) (samples : List LinkSample) (trained : Bool) : Statement (.laneSampleInterval port samples trained) := by
  intro fs h; cases h
theorem swapRequest (port : Nat) (v : DWord) : Statement (.swapRequest port v) := by
  intro fs h; cases h
theorem swapProposal (port lane seq : Nat) (spareWeak : Bool) : Statement (.swapProposal port lane seq spareWeak) := by
  intro fs h; cases h
theorem replayRequest (port seq : Nat) : Statement (.replayRequest port seq) := by
  intro fs h; cases h
theorem moduleReset : Statement (.moduleReset) := by
  intro fs h; cases h
theorem apertureRegisterWrite (off : Nat) (v : DWord) : Statement (.apertureRegisterWrite off v) := by
  intro fs h; cases h
theorem illegalOpcodeWord (w : Word) : Statement (.illegalOpcodeWord w) := by
  intro fs h; cases h
theorem sleepCountExpiry (core gid : Nat) (pc : DWord) (prio : Byte) : Statement (.sleepCountExpiry core gid pc prio) := by
  intro fs h; cases h
theorem storePerformed (op lane : Nat) : Statement (.storePerformed op lane) := by
  intro fs h; cases h
theorem homeRequest (r : HomeReq) : Statement (.homeRequest r) := by
  intro fs h; cases h
theorem icinvComplete (core gid : Nat) (pc : DWord) (prio : Byte) : Statement (.icinvComplete core gid pc prio) := by
  intro fs h; cases h
theorem ctxmoveComplete (op : Nat) : Statement (.ctxmoveComplete op) := by
  intro fs h; cases h
theorem scratchpadZeroingComplete (core team : Nat) : Statement (.scratchpadZeroingComplete core team) := by
  intro fs h; cases h
theorem laneLossOfLock (port lane : Nat) : Statement (.laneLossOfLock port lane) := by
  intro fs h; cases h
theorem uncorrectableFlit (port seq : Nat) : Statement (.uncorrectableFlit port seq) := by
  intro fs h; cases h
theorem hostEndpointAccess (a : HostAccess) : Statement (.hostEndpointAccess a) := by
  intro fs h; cases h
theorem storageNetworkTransfer (a : HostAccess) : Statement (.storageNetworkTransfer a) := by
  intro fs h; cases h

end Laws.EncodeFields

end Sys2Proof
end

