-- ==== Sys2Proof/Tests/Slice0.lean ====
section
/-! SUPPORT. Tests: words from the spec's encodings, terms that the well-formedness checks refuse, one-step results taken from
the spec's tables and worked examples, and a witness for the hypotheses of each statement. -/

set_option Elab.async false

namespace Sys2Proof.Tests

open Sys2Proof Sys2Proof.Machine Sys2Proof.Claims

/-! ## States for the tests -/

/-- The conditions of `Clear`, computed. -/
def clearB (i : Instr) (s : State) (g : Group) (e : Ent) : Bool :=
  selected s == some (g, e) && i.wf && !busy s g i e && checkCause s g e i true == none && (deferredHit s g i e.mask).isNone &&
  poisonedLanes s g i e.mask == 0 && s.shadowBad.isEmpty && g.brkSkip.isEmpty &&
  (List.range 4).all (fun c => !(dbgWord s c 0).getLsbD 0)
theorem clear_of {i : Instr} {s : State} {g : Group} {e : Ent} (h : clearB i s g e = true) : Clear i s g e := by
  simp only [clearB, Bool.and_eq_true, beq_iff_eq, Bool.not_eq_true', Option.isNone_iff_eq_none, List.isEmpty_iff, List.all_eq_true] at h
  obtain ⟨⟨⟨⟨⟨⟨⟨⟨h1, h2⟩, h3⟩, h4⟩, h5⟩, h6⟩, h7⟩, h8⟩, h9⟩ := h
  exact ⟨h1, h2, h3, h4, h5, h6, h7, h8, fun c hc => h9 c (List.mem_range.2 hc)⟩
theorem clears_of {s : State} {g : Group} {e : Ent} {is : List Instr} (h : is.all (fun i => clearB i s g e) = true) :
    ∀ i, i ∈ is → Clear i s g e := fun i hi => clear_of (List.all_eq_true.1 h i hi)
/-- The conditions of `Calm`, computed. -/
def calmB (k : Instr → Bool) (s : State) (g : Group) (t : Team) : Bool :=
  teamOf s g.team == some t && s.groups.all (fun h => h.team != g.team || (h.live != 0 && h.ltrap.isNone &&
    h.ents.all (fun x => match x.st with
      | .parked p => k p.i
      | .pending _ => false
      | _ => true))) && t.bars.all (fun b => !barFull s t.tid b) && (coreOf s t.core).issueq.isEmpty
theorem calm_of {k : Instr → Bool} {s : State} {g : Group} {t : Team} (h : calmB k s g t = true) : Calm k s g t := by
  simp only [calmB, Bool.and_eq_true, beq_iff_eq, List.all_eq_true, Bool.or_eq_true, bne_iff_ne, ne_eq, Option.isNone_iff_eq_none,
    Bool.not_eq_true', List.isEmpty_iff] at h
  obtain ⟨⟨⟨h1, h2⟩, h3⟩, h4⟩ := h
  refine ⟨h1, fun g' hg ht => ?_, fun g' hg ht x hx p hp => ?_, fun g' hg ht x hx r hr => ?_, h3, h4⟩
  · rcases h2 g' hg with h | h
    · exact absurd ht h
    · exact h.1
  · rcases h2 g' hg with h | h
    · exact absurd ht h
    · have := h.2 x hx
      simpa [hp] using this
  · rcases h2 g' hg with h | h
    · exact absurd ht h
    · have := h.2 x hx
      simp [hr] at this
/-- The answer is a next state. -/
def isNext (o : Host.Outcome State Fault Refusal) : Bool := match o with
  | .next _ => true
  | _ => false
theorem next_of {o : Host.Outcome State Fault Refusal} (h : isNext o = true) : ∃ t, o = .next t := by
  cases o with
  | next t => exact ⟨t, rfl⟩
  | fault _ => cases h
  | refused _ => cases h
theorem ok_of {α : Type} {o : Option α} (h : o.isSome = true) : ∃ x, o = some x := Option.isSome_iff_exists.1 h

/-- A core's cycle has no issue left to make. -/
def noIssue (s : State) (n : Nat) : State := modCore s n (fun c => { c with issueq := [] })
/-- A team of one group of eight lanes at kernel level on compute core 0, its entry at PC 0 the issue in progress, the last of the
core's cycle. -/
def base : State := noIssue { bed State.reset 0 with sel := some ⟨3, 0, 0, 255, []⟩ } 0
/-- Its group. -/
def g0 : Group := bedGroup 3 2
/-- Its entry. -/
def e0 : Ent := ⟨0, 0, 255, 0, .ready⟩
/-- Its team. -/
def t0 : Team := bedTeam 2 1
/-- The same with another group in its place. -/
def at0 (g : Group) : State := setGroup base g
/-- Bytes stand in control memory. -/
def putCtl (s : State) (a : Nat) (bs : List Byte) : State := { s with ctl := memSetBytes s.ctl a bs }
/-- 64-bit words stand in control memory. -/
def putWords (s : State) (a : Nat) (ws : List DWord) : State := putCtl s a ((ws.map (fun w => leBytes 8 w.toNat)).flatten)

/-- The conditions of `Unheld`, computed. -/
def unheldB (s : State) (g : Group) (e : Ent) (kind : OpKind) (size : Nat) (va : Nat → DWord) (x : Nat → Xlat) : Bool :=
  let accs := lanesAccs s g e kind size va x (fun _ => (0, 0))
  (ptWrites s accs (insAll (nearOf s g e.mask kind) (afterOf s g e.mask kind accs))).isEmpty && accs.all (fun a => (regPend g a).all (fun w => w.tok != 0))
theorem unheld_of {s : State} {g : Group} {e : Ent} {kind : OpKind} {va : Nat → DWord} {size : Nat} {x : Nat → Xlat}
    (h : unheldB s g e kind size va x = true) : Unheld s g e kind size va x := by
  simpa [unheldB, Unheld, List.isEmpty_iff, List.all_eq_true] using h
/-- The conditions of `Reaches`, computed. -/
def reachesB (s : State) (g : Group) (e : Ent) (use : Use) (va : Nat → DWord) (size : Nat) (kind : OpKind) (reads : Bool)
    (x : Nat → Xlat) : Bool :=
  (List.range 64).all (fun l => !bitAt e.mask l || (translate s (.core g.core) g.ctxid g.kernel use (va l) size == .ok (x l) &&
    (!reads || (x l).nonRes || (placeBad s g.core (x l).at_ size == none && loadBad s g.core (pastL1 kind) (x l).at_ size == none)))) &&
  unheldB s g e kind size va x
theorem bit_lt {m : Mask} {l : Nat} (h : bitAt m l = true) : l < 64 := by
  rcases Nat.lt_or_ge l 64 with hl | hl
  · exact hl
  · have : m.getLsbD l = false := BitVec.getLsbD_of_ge m l hl
    simp [bitAt, this] at h
theorem reaches_of {s : State} {g : Group} {e : Ent} {use : Use} {va : Nat → DWord} {size : Nat} {kind : OpKind} {reads : Bool}
    {x : Nat → Xlat} (h : reachesB s g e use va size kind reads x = true) : Reaches s g e use va size kind reads x := by
  obtain ⟨h, hu⟩ := Bool.and_eq_true_iff.1 h
  refine ⟨fun l hl => ?_, unheld_of hu⟩
  have h := List.all_eq_true.1 h l (List.mem_range.2 (bit_lt hl))
  simp only [hl, Bool.not_true, Bool.false_or, Bool.and_eq_true, beq_iff_eq, Bool.or_eq_true, Bool.not_eq_true'] at h
  refine ⟨h.1, fun hr hn => ?_⟩
  rcases h.2 with (h2 | h2) | h2
  · rw [hr] at h2; cases h2
  · rw [hn] at h2; cases h2
  · exact h2
/-- A property of every lane of a mask, computed. -/
theorem lanes_of {m : Mask} {p : Nat → Prop} [DecidablePred p] (h : (List.range 64).all (fun l => !bitAt m l || decide (p l)) = true) :
    ∀ l, bitAt m l = true → p l := by
  intro l hl
  have h := List.all_eq_true.1 h l (List.mem_range.2 (bit_lt hl))
  simpa [hl] using h

theorem desc_of {r : Except XRes (List DWord × List Nat × List Place)} {w : List DWord} (h : (match r with
    | .ok (v, _, _) => v == w
    | _ => false) = true) : ∃ a b, r = .ok (w, a, b) := by
  cases r with
  | error _ => cases h
  | ok v => exact ⟨v.2.1, v.2.2, by simp only [beq_iff_eq] at h; rw [← h]⟩
/-- `DebugOff`, computed. -/
theorem debugOff_of {s : State} (h : (List.range 4).all (fun c => !(dbgWord s c 0).getLsbD 0) = true) : DebugOff s :=
  fun c hc => by simpa using List.all_eq_true.1 h c (List.mem_range.2 hc)

/-! ## Witnesses: the hypotheses of the statements about instructions -/

theorem wit_IntegerForms : ∀ i, i ∈ intForms 0 0 1 4 6 8 → Clear i base g0 e0 := clears_of (by decide +kernel)
/-- And one with every field at another value: a uniform source, v95, S = 7, X = 1, the last immediate of the shifts. -/
theorem wit_IntegerForms2 : ∀ i, i ∈ intForms 7 1 31 94 94 92 → Clear i base g0 e0 := clears_of (by decide +kernel)
theorem wit_IntegerFrame : Clear (.add 0 1 95 127 96) base g0 e0 ∧ ∃ t, exec (.add 0 1 95 127 96) base = .next t :=
  ⟨clear_of (by decide +kernel), next_of (by decide +kernel)⟩
theorem wit_FloatResults : ∀ i, i ∈ [Instr.fadd 0 4 5 6, .fsub 0 4 5 6, .fmul 0 4 5 6, .ffma 0 4 5 6, .fmin 0 1 4 5 6, .fmax 0 0 4 5 6,
    .fsetEq 0 4 5 6, .fsetNe 0 4 5 6, .fsetLt 0 1 4 5 6, .fsetLe 0 0 4 5 6, .fclass 0 255 4 5] → Clear i base g0 e0 :=
  clears_of (by decide +kernel)
theorem wit_FunctionClaims : ∀ i, i ∈ [Instr.fneg 0 4 5, .fabs 0 4 5, .frcp 0 4 5, .frsq 0 4 5, .fsqrt 0 4 5, .fex2 0 4 5, .flg2 0 4 5,
    .fsin 0 4 5, .fcos 0 4 5, .ftanh 0 4 5] → Clear i base g0 e0 := clears_of (by decide +kernel)
theorem wit_FunctionSpecials : isNan (dec32 0x7FC00000) = true ∧ ltV (dec32 0x80000001) (dec32 0x80000000) = true ∧
    ltV (dec32 0x49800000) (dec32 (0xC9800001 &&& 0x7FFFFFFF)) = true ∧ ltV (dec32 0x43000000) (dec32 0x43000000) = false ∧
    ltV (dec32 0xC3160000) (dec32 0xC3160000) = false ∧ ltV (dec32 (0xC1100000 &&& 0x7FFFFFFF)) (dec32 0x41100000) = false := by
  decide +kernel
theorem wit_HalfResults : ∀ i, i ∈ [Instr.hadd2 0 0 4 5 6, .hmul2 0 1 4 5 6, .hfma2 0 0 4 5 6, .hmin2 0 1 4 5, .hmin2P 0 0 4 5, .hmax2 0 1 4 5,
    .hmax2P 0 0 4 5, .hneg2 0 1 4 5, .habs2 0 0 4 5] → Clear i base g0 e0 := clears_of (by decide +kernel)
theorem wit_ConversionResults : (∀ i, i ∈ [Instr.cvts 0 4 5 0 0, .cvtx 0 4 5 3 7, .cvtb 0 64 32 0, .cvti 0 4 5 1 0 2, .cvthF2hl 0 4 5,
    .cvthF2hh 0 4 5, .cvthF2bl 0 4 5, .cvthF2bh 0 4 5, .cvthHl2f 0 4 5, .cvthHh2f 0 4 5, .cvthBl2f 0 4 5, .cvthBh2f 0 4 5] →
    Clear i base g0 e0) ∧ 0 < 32 / elemWidth (slotElem (slotOf base g0 0)) := ⟨clears_of (by decide +kernel), by decide +kernel⟩
theorem wit_ControlTransfer : ∀ i, i ∈ [Instr.blk 0 200, .nop 7, .yield 0, .exit 0, .br 0 128, .bz 0 1 4, .bnz 0 127 127, .bms 0 1 0,
    .bmc 0 1 7, .call 0 1 4, .jmp 0 94, .ret 0 94, .calli 0 4 98] → Clear i base g0 e0 := clears_of (by decide +kernel)

/-- The group with every lane a member in m0. -/
def gm : Group := { g0 with m := [(0, 255)] }
/-- The cross-lane instructions. -/
def crossForms : List Instr := [.shfl 0 0 4 5 6, .bcast 0 0 4 5 97, .voteAny 0 1 4 5, .voteAll 0 0 4 5, .redAdd 0 0 4 5, .redMinS 0 0 4 5,
  .redMinU 0 1 4 5, .redMaxS 0 0 4 5, .redMaxU 0 0 4 5, .redAnd 0 0 4 5, .redOr 0 0 4 5, .redXor 0 0 4 5, .fredAdd 0 0 4 5, .fredMin 0 0 4 5,
  .fredMinp 0 0 4 5, .fredMax 0 0 4 5, .fredMaxp 0 1 4 5, .scanAdd 0 0 4 5, .scanXadd 0 0 4 5, .scanFadd 0 0 4 5]
theorem wit_CrossLaneIssue : ∀ i, i ∈ crossForms → Clear i base g0 e0 ∧ Clear i (at0 gm) gm e0 ∧
    (crossOpt i).isSome = true ∧ (crossOperands i).isSome = true := by
  intro i hi
  exact ⟨clears_of (is := crossForms) (by decide +kernel) i hi, clears_of (is := crossForms) (by decide +kernel) i hi,
    (by decide +kernel : ∀ i, i ∈ crossForms → (crossOpt i).isSome = true) i hi,
    (by decide +kernel : ∀ i, i ∈ crossForms → (crossOperands i).isSome = true) i hi⟩
theorem wit_CrossLaneResults : Calm (fun j => (crossOpt j).isNone) (at0 gm) gm t0 ∧ readM gm 0 = e0.mask ∧ e0.mask ≠ 0 ∧
    e0.mask &&& ~~~gm.live = 0 ∧ bitAt e0.mask ((readReg (at0 gm) gm (lowest e0.mask) 97).toNat % gm.width) = true ∧
    (∀ i, i ∈ crossForms → Clear i (at0 gm) gm e0) ∧ Clear (.matchLanes 0 0 4 5) (at0 gm) gm e0 ∧
    (∀ i, i ∈ crossForms → ∃ a b d f, crossOperands i = some (a, b) ∧
      crossGives gm e0.mask (fun l => readReg (at0 gm) gm l a) (fun l => readReg (at0 gm) gm l b) i = some (d, f)) ∧
    lanesWhere e0.mask (fun l => isSnan (dec32 (readReg (at0 gm) gm l 5))) = 0 := by
  refine ⟨calm_of (by decide +kernel), by decide +kernel, by decide +kernel, by decide +kernel, by decide +kernel,
    clears_of (by decide +kernel), clear_of (by decide +kernel), ?_, by decide +kernel⟩
  intro i hi
  simp only [crossForms, List.mem_cons, List.not_mem_nil, or_false] at hi
  rcases hi with rfl | rfl | rfl | rfl | rfl | rfl | rfl | rfl | rfl | rfl | rfl | rfl | rfl | rfl | rfl | rfl | rfl | rfl | rfl | rfl <;>
    exact ⟨_, _, _, _, rfl, rfl⟩
theorem wit_LaneBallotWindow : ∀ i, i ∈ [Instr.lane 0 0 4, .lane 0 1 95, .voteBallot 0 7 5, .winb 0 0, .winb 0 88, .winb 0 96] →
    Clear i base g0 e0 := clears_of (by decide +kernel)
theorem wit_BarrierIssue : (∃ k, barName base g0 0 = .ok k) ∧ ∀ i, i ∈ [Instr.barArrive 0 0 4, .barSync 0 0, .barWait 0 0 5] →
    Clear i base g0 e0 := ⟨⟨⟨0, 0, 0, 0, 0, [], [], []⟩, rfl⟩, clears_of (by decide +kernel)⟩
/-- BAR.WAIT names a phase that is over; BAR.SYNC is the last to arrive. -/
theorem wit_BarrierCompletes :
    let k : Bar := ⟨0, 0, 0, 0, 0, [], [], []⟩
    let s := (List.range 8).foldl (fun s l => writeRf s g0 l 5 1) base
    Calm (fun _ => false) s g0 t0 ∧ barName s g0 0 = .ok k ∧ Clear (.barWait 0 0 5) s g0 e0 ∧ Clear (.barSync 0 0) s g0 e0 ∧
    barFull s t0.tid (barOf s g0.team k) = false ∧ (∀ l, l < 64 → bitAt e0.mask l = true → readReg s g0 l 5 ≠ (barOf s g0.team k).phase) ∧
    (barOf s g0.team k).ops = [] ∧ (∀ l, l < 64 → bitAt e0.mask l = true → (barOf s g0.team k).arrived.contains (rfCell g0 l 0) = false) ∧
    barGroups s t0.tid (barOf s g0.team k) = [g0] ∧ g0.live = e0.mask := by
  refine ⟨calm_of (by decide +kernel), rfl, clear_of (by decide +kernel), clear_of (by decide +kernel), by decide +kernel⟩

/-- A REGRP, a TRET inside a frame, and a TCALL by the whole of a team's one group. -/
def frame0 : Frame := ⟨7, 4, 0, false, none, [g0], 0, [(0, 0)], [], 0⟩
def gt : Group := { g0 with path := [(7, 0)] }
theorem wit_CollectionsComplete :
    Clear (.regrp 0 4 8 2) base g0 e0 ∧ Calm isRegrp base g0 t0 ∧ g0.path = [] ∧ otherRoleRegrps base g0 = false ∧
    (∃ g1 e1, collected isRegrp (scopeAll (parkEnt base g0.gid e0 ⟨.regrp 0 4 8 2, 0, 0, [], 0⟩) g0) = some (g1, e1) ∧
      e1.st = .parked ⟨.regrp 0 4 8 2, 0, 0, [], 0⟩) ∧
    Clear (.tret 0) (at0 gt) gt e0 ∧ Calm isTret (at0 gt) gt t0 ∧ gt.path ≠ [] := by
  refine ⟨clear_of (by decide +kernel), calm_of (by decide +kernel), rfl, by decide +kernel, ⟨_, _, rfl, rfl⟩, clear_of (by decide +kernel),
    calm_of (by decide +kernel), by decide +kernel⟩

/-! A page at virtual address 0: the loads' pages are those of the words placed; a writable page for the stores. -/

/-- The page at virtual 0 readable and writable for kernel and user, at physical 0x5000. -/
def rw : State := putWords base 0x4000 [0x501F]
def x0 : Nat → Xlat := fun _ => match translate rw (.core 0) 0 true .load 0 4 with
  | .ok x => x
  | _ => ⟨.ten 0, 0, 0, false, []⟩
/-- The addresses of a memory instruction with pair 6 and index 8. -/
def addr (s : State) (g : Group) (n : Nat) : Nat → DWord := fun l => readPair s g l 6 + BitVec.ofInt 64 (n * (readReg s g l 8).toInt)
theorem wit_LoadForms : (∀ i, i ∈ [Instr.ld 0 0 4 6 8, .ldB64 0 1 4 6 8, .ldB8 0 4 6 8, .ldB16 0 4 6 8, .ldNr 0 0 4 6 7] → Clear i rw g0 e0) ∧
    e0.mask ≠ 0 ∧ Reaches rw g0 e0 .load (addr rw g0 4) 4 (.load false) true x0 ∧ Reaches rw g0 e0 .load (addr rw g0 8) 8 (.load true) true x0 ∧
    Reaches rw g0 e0 .load (addr rw g0 1) 1 (.load false) true x0 ∧ Reaches rw g0 e0 .load (addr rw g0 2) 2 (.load false) true x0 ∧
    Reaches rw g0 e0 .loadNr (fun l => readPair rw g0 l 6) 4 (.load false) true x0 ∧
    (∃ s : State, s.powered = true ∧ s.agenda = .ahead 0 :: [] ∧ (s.cores.map Prod.fst).Pairwise (· < ·)) :=
  ⟨clears_of (by decide +kernel), by decide +kernel, reaches_of (by decide +kernel), reaches_of (by decide +kernel),
    reaches_of (by decide +kernel), reaches_of (by decide +kernel), reaches_of (by decide +kernel),
    { State.reset with agenda := [.ahead 0] }, rfl, rfl, List.Pairwise.nil⟩
/-- R40: the branch at PC 0 waits for v4, and the load at PC 8 has its translations held in T. -/
def fork : State :=
  let s := ([Instr.bz 0 4 4, .addi 0 12 10 0, .ld 0 0 8 6 12].map encode).zip [0, 4, 8] |>.foldl (fun s p =>
    putCtl s (0x5000 + p.2) (bytesOfWord (p.1.getD 0))) rw
  let s := setGroup { s with grids := s.grids.map (fun g => { g with rec_ := [1] }) } { g0 with pend := [⟨.v 4, 255, [], none, 77⟩] }
  fillT s (.core 0) [0, 0x40, 0x80, 0xC0, 0x100, 0x140]
theorem test_load_ahead : (runAhead fork 0).groups.map (fun g => g.ahead.map (fun r => (r.branch, r.pc, r.mask))) = [[(0, 8, 255)]] := by
  decide +kernel
/-- The team's scratchpad has 4,096 bytes in its record, and lane 0 names the last word of them. -/
def sp : State := writeRf (writeRf { base with grids := [{ bedGrid 1 with rec_ := [0, 0, 0, 0, 4096] }] } g0 0 5 4088) g0 0 6 1
theorem wit_ScratchpadIssue : Clear (.ldsp 0 4 5 6) sp g0 e0 ∧ Clear (.stsp 0 4 5 6) sp g0 e0 ∧ e0.mask ≠ 0 ∧
    (∀ l, bitAt e0.mask l = true → ((readReg sp g0 l 5).toNat + 4 * (readReg sp g0 l 6).toNat) % 2 ^ 32 % 4 = 0 ∧
      ((readReg sp g0 l 5).toNat + 4 * (readReg sp g0 l 6).toNat) % 2 ^ 32 + 4 ≤ bitsOf ((recOf sp g0).getD 4 0) 0 32) ∧
    (∀ l, bitAt e0.mask l = true → placeBad sp g0.core
      (.spad (spBaseOf sp g0 + ((readReg sp g0 l 5).toNat + 4 * (readReg sp g0 l 6).toNat) % 2 ^ 32)) 4 = none) ∧
    (∀ k, k ∈ [OpKind.ldsp, .stsp] → Unheld sp g0 e0 k 4 (fun l => BitVec.ofNat 64 (spadOff sp g0 l 5 6))
      (fun l => ⟨.spad (spBaseOf sp g0 + spadOff sp g0 l 5 6), 0, 0, false, []⟩)) :=
  ⟨clear_of (by decide +kernel), clear_of (by decide +kernel), by decide +kernel, lanes_of (by decide +kernel), lanes_of (by decide +kernel),
    fun k hk => unheld_of (by revert k; decide +kernel)⟩
/-- RATOM's lanes name a tensor address of rank 5. -/
def far : State := (List.range 8).foldl (fun s l => writeRf s g0 l 7 0x40500000) base
theorem wit_AtomicsIssue : e0.mask ≠ 0 ∧ Clear (.atom 0 4 6 0) rw g0 e0 ∧ Clear (.atom 0 4 6 13) rw g0 e0 ∧
    Reaches rw g0 e0 .store (fun l => readPair rw g0 l 6) 4 (.atom 0) true x0 ∧ Reaches rw g0 e0 .store (fun l => readPair rw g0 l 6) 8 (.atom 13) true x0 ∧
    (∀ l, bitAt e0.mask l = true → (x0 l).nonRes = false) ∧ Clear (.ratom 0 4 6 12) far g0 e0 ∧
    (∀ l, bitAt e0.mask l = true → spaceCheck (readPair far g0 l 6) = none ∧ (readPair far g0 l 6).toNat / 2 ^ 62 = 1 ∧
      (readPair far g0 l 6).toNat % 8 = 0) ∧ Unheld far g0 e0 (.ratom 12 0) 8 (fun l => readPair far g0 l 6) (fun _ => ⟨.ten 0, 0, 0, false, []⟩) ∧
    Clear (.cadd 0 4 6 2) rw g0 e0 ∧ Reaches rw g0 e0 .store (fun l => readPair rw g0 l 6) 8 (.cadd 2) false x0 ∧
    (∀ l, bitAt e0.mask l = true → (readPair rw g0 l 6).toNat / 2 ^ 62 = 0) :=
  ⟨by decide +kernel, clear_of (by decide +kernel), clear_of (by decide +kernel), reaches_of (by decide +kernel), reaches_of (by decide +kernel),
    lanes_of (by decide +kernel), clear_of (by decide +kernel), lanes_of (by decide +kernel), unheld_of (by decide +kernel),
    clear_of (by decide +kernel), reaches_of (by decide +kernel), lanes_of (by decide +kernel)⟩
/-- Lanes 4 to 7 name a page that is not mapped. -/
def half : State := [4, 5, 6, 7].foldl (fun s l => writeRf s g0 l 6 0x1000) rw
theorem wit_StoreForms : (∀ i, i ∈ [Instr.st 0 1 4 6 8, .stB64 0 0 4 6 8, .stB8 0 4 6 8, .stB16 0 4 6 8] → Clear i rw g0 e0) ∧
    Reaches rw g0 e0 .store (addr rw g0 4) 4 .store false x0 ∧ Reaches rw g0 e0 .store (addr rw g0 8) 8 .store false x0 ∧
    Reaches rw g0 e0 .store (addr rw g0 1) 1 .store false x0 ∧ Reaches rw g0 e0 .store (addr rw g0 2) 2 .store false x0 ∧
    Clear (.st 0 1 4 6 8) half g0 e0 ∧ Reaches half g0 { e0 with mask := e0.mask &&& ~~~(0xF0 : Mask) } .store (addr half g0 4) 4 .store false x0 ∧
    (0xF0 : Mask) ≠ 0 ∧ e0.mask &&& ~~~(0xF0 : Mask) ≠ 0 ∧ (0xF0 : Mask) &&& ~~~e0.mask = 0 ∧
    (∀ l, bitAt (0xF0 : Mask) l = true → translate half (.core g0.core) g0.ctxid g0.kernel .store (addr half g0 4 l) 4 = .fault 0x042 ∧
      walkLeaves half (.core g0.core) g0.ctxid (addr half g0 4 l) = half) :=
  ⟨clears_of (by decide +kernel), reaches_of (by decide +kernel), reaches_of (by decide +kernel), reaches_of (by decide +kernel),
    reaches_of (by decide +kernel), clear_of (by decide +kernel), reaches_of (by decide +kernel), by decide +kernel, by decide +kernel,
    by decide +kernel, lanes_of (by decide +kernel)⟩
theorem wit_FencesIssue : (∀ i, i ∈ [Instr.fence 0 0, .fence 0 13, .fenceTc 0, .fenceQ 0 97, .pref 0 1 6] → Clear i base g0 e0) ∧
    (base.cores.map Prod.fst).Pairwise (· < ·) := ⟨clears_of (by decide +kernel), by decide +kernel⟩

/-- A team with queue 1, of depth 2, holding nothing or one entry. -/
def q1 (es : List QEntry) : State := { base with teams := [{ t0 with queues := [(1, 2, es)] }] }
theorem wit_HandOffQueues : queueOf (q1 []) g0.team 1 = some (2, []) ∧ Clear (.qpush 0 1 4) (q1 []) g0 e0 ∧
    queueWaiters (q1 []) g0.team pushQueue 1 = [] ∧ queueOf (q1 [⟨[5], 1, []⟩]) g0.team 1 = some (2, [⟨[5], 1, []⟩]) ∧
    Clear (.qpop 0 4 3 1) (q1 [⟨[5], 1, []⟩]) g0 e0 ∧ queueWaiters (q1 [⟨[5], 1, []⟩]) g0.team popQueue 1 = [] :=
  ⟨by decide +kernel, clear_of (by decide +kernel), by decide +kernel, by decide +kernel, clear_of (by decide +kernel), by decide +kernel⟩

/-- A copy descriptor at virtual 0x100 (R233): one element of 8 bytes, tensor address 0x40 to 0x80. -/
def desc : List DWord := [0x4000000000000040, 0x4000000000000080, 0x0001000100010001, 0, 0x0001000100010001, 0, 0, 0, 3, 0, 0, 0]
def withDesc : State := putWords rw 0x5100 desc
/-- The group with the descriptor's address in k2:k3, and with a handle that is Pending. -/
def gc : Group := { g0 with k := [(2, 0x100)] }
def gp : Group := { gc with h := [(1, 9)] }
/-- An operation. -/
def aop (id : Nat) (k : AKind) (st : AState) : AOp :=
  ⟨id, k, 0, 2, 3, 0, true, st, some 0, 0, none, 0, false, none, [], [], [], [], [], [], [], []⟩
def pending : State := setGroup { withDesc with aops := [aop 9 (.pages [] []) .pending], nextId := 20 } gp
theorem wit_AsyncStarts :
    FreshId (setGroup withDesc gc) ∧ Clear (.copy 0 2 98 7) (setGroup withDesc gc) gc e0 ∧ handleSt (setGroup withDesc gc) gc 2 ≠ .pending ∧
    copiesOn (setGroup withDesc gc) 0 < 64 ∧ freeSlot (setGroup withDesc gc) 0 false = some 0 ∧ ownReadsDone (setGroup withDesc gc) gc = true ∧
    (∃ sectors ps, readDesc (setGroup withDesc gc) gc e0.mask (readPair (setGroup withDesc gc) gc (lowest e0.mask) 98) = .ok (desc, sectors, ps)) ∧
    descBad (setGroup withDesc gc) 0 desc = false ∧ descBar desc = none ∧
    FreshId pending ∧ Clear (.copy 0 1 98 0) pending gp e0 ∧ handleSt pending gp 1 = .pending ∧
    Clear (.pgreq 0 2 6) rw g0 e0 ∧ freeSlot rw 0 true = some 64 ∧
    (∀ l, bitAt e0.mask l = true → translate rw (.core g0.core) g0.ctxid g0.kernel .probe (readPair rw g0 l 6) 1 = .ok (x0 l)) := by
  refine ⟨by constructor <;> decide +kernel, clear_of (by decide +kernel), by decide +kernel, by decide +kernel, by decide +kernel,
    by decide +kernel, desc_of (by decide +kernel), by decide +kernel, by decide +kernel, by constructor <;> decide +kernel, clear_of (by decide +kernel),
    by decide +kernel, clear_of (by decide +kernel), by decide +kernel, lanes_of (by decide +kernel)⟩
/-- Handle 1 of the group names operation 9, in a state of one's choosing. -/
def gh : Group := { g0 with h := [(1, 9)] }
def withOp (o : AOp) : State := setGroup { base with aops := [o], nextId := 20 } gh
/-- A token of operation 9: slot 0, generation 0, exported under context 0; lane 0's v5 holds it. -/
def exported : State := writeRf { withOp { aop 9 (.pages [] []) .pending with exported := some 0 } with groups := [g0] } g0 0 5 0x80000000
theorem wit_HandleResults :
    Clear (.hwait 0 1) base g0 e0 ∧ handleSt base g0 1 = .idle ∧
    Clear (.hwait 0 1) (withOp (aop 9 (.pages [] []) (.error 0x0E3 5))) gh e0 ∧
    handleSt (withOp (aop 9 (.pages [] []) (.error 0x0E3 5))) gh 1 = .error 0x0E3 5 ∧
    Clear (.hwait 0 1) (withOp (aop 9 (.pages [] []) .pending)) gh e0 ∧ handleSt (withOp (aop 9 (.pages [] []) .pending)) gh 1 = .pending ∧
    postBroken (withOp (aop 9 (.pages [] []) .pending)) gh 1 = none ∧ Clear (.htest 0 97 1) base g0 e0 ∧
    Clear (.hexport 0 4 1) (withOp (aop 9 (.pages [] []) .pending)) gh e0 ∧
    aopOf (withOp (aop 9 (.pages [] []) .pending)) (readH gh 1) = some (aop 9 (.pages [] []) .pending) ∧
    Clear (.himport 0 2 5) exported g0 e0 ∧ handleSt exported g0 2 ≠ .pending ∧ readReg exported g0 (lowest e0.mask) 5 ≠ 0 ∧
    (tokenOp exported g0 (readReg exported g0 (lowest e0.mask) 5)).isSome = true ∧
    Clear (.hcancel 0 1) (withOp (aop 9 (.pages [] []) .done)) gh e0 ∧
    Clear (.hcancel 0 1) (withOp (aop 9 (.pages [] []) .pending)) gh e0 ∧
    DebugOff (cancelAop (withOp (aop 9 (.pages [] []) .pending)) (aop 9 (.pages [] []) .pending)) :=
  ⟨clear_of (by decide +kernel), by decide +kernel, clear_of (by decide +kernel), by decide +kernel, clear_of (by decide +kernel),
    by decide +kernel, by decide +kernel, clear_of (by decide +kernel), clear_of (by decide +kernel), by decide +kernel,
    clear_of (by decide +kernel), by decide +kernel, by decide +kernel, by decide +kernel, clear_of (by decide +kernel),
    clear_of (by decide +kernel), debugOff_of (by decide +kernel)⟩

/-- The engine of core 0 is context 0's; nobody's, the group's, or another's; the team has a large scratchpad. -/
def mx (owner : Option Waiter) : State :=
  setCore { base with teams := [{ t0 with spBytes := 524288 }], grids := [{ bedGrid 1 with rec_ := [0, 0, 0, 0, 524288] ++ List.replicate 19 0 ++ List.replicate 8 3 }] } 0
    { coreOf base 0 with aown := 0x10000, owner := owner }
/-- A group that waits for the engine's return. -/
def gWait : Group := { g0 with engineWait := true }
theorem wit_EngineWaits : Clear (.mrel 0) (at0 gWait) gWait e0 ∧ gWait.engineWait = true := ⟨clear_of (by decide +kernel), rfl⟩
theorem wit_MatrixInstructions :
    Clear (.macq 0) (mx none) g0 e0 ∧ (coreOf (mx none) 0).aown.getLsbD 16 = true ∧ (coreOf (mx none) 0).aown.extractLsb' 0 16 = g0.ctxid ∧
    (coreOf (mx none) 0).fifo = [] ∧ Clear (.mrel 0) (mx (some ⟨3, 2⟩)) g0 e0 ∧ g0.engineWait = false ∧
    (coreOf (mx (some ⟨3, 2⟩)) 0).released = false ∧ Clear (.macq 0) base g0 e0 ∧ (coreOf base 0).aown.getLsbD 16 = false ∧
    Clear (.mrel 0) base g0 e0 ∧ Clear (.mrel 0) (mx none) g0 e0 ∧ (coreOf (mx (some ⟨3, 2⟩)) 0).stream.length < 16 ∧
    (∀ i, i ∈ [Instr.mma 0 0 7 98 100, .mmaP 0 0 0 98 100, .mzero 0 7, .mloada 0 0 98, .mstorea 0 7 98] → Clear i (mx (some ⟨3, 2⟩)) g0 e0) ∧
    mmaOwn false 98 100 (mx (some ⟨3, 2⟩)) g0 = none ∧ mmaOwn true 98 100 (mx (some ⟨3, 2⟩)) g0 = none ∧
    tileOwn false 98 (mx (some ⟨3, 2⟩)) g0 = none ∧ tileOwn true 98 (mx (some ⟨3, 2⟩)) g0 = none ∧
    wordBar (mx (some ⟨3, 2⟩)) g0 0 = .ok none :=
  ⟨clear_of (by decide +kernel), by decide +kernel, by decide +kernel, by decide +kernel, clear_of (by decide +kernel), by decide +kernel,
    by decide +kernel, clear_of (by decide +kernel), by decide +kernel, clear_of (by decide +kernel), clear_of (by decide +kernel),
    by decide +kernel, clears_of (by decide +kernel), by decide +kernel, by decide +kernel, by decide +kernel, by decide +kernel, rfl⟩

/-- Collective 0 is bound in the record, and open, closed or broken at this package. -/
def bind0 (st : BState) : Bind := {
  ctx := 0, c := 0, st := st, kind := 0, slot := 0, buf := 0, auto := false, ranks := [(0, 0), (1, 1)], pos := 0,
  chunks := [⟨0, 1, false, [], none, false, [], false⟩], post := 9, agrees := [], progress := [], cancelOwed := [], cancelling := false,
  owe := [], committed := false, pins := [], grid := 1, reported := false }
def bound (bs : List Bind) : State :=
  { base with grids := [{ bedGrid 1 with rec_ := List.replicate 32 0 ++ [0x8000000000000000] }], binds := bs, nextId := 20 }
theorem wit_CollectiveIssue :
    base.hdieDelay = false ∧ (∀ i, i ∈ [Instr.collPost 0 1 0, .collFire 0 0 96, .collProg 0 4 0, .collAgree 0 1 0] →
      Clear i base g0 e0 ∧ Clear i (bound [bind0 .open_]) g0 e0 ∧ Clear i (bound []) g0 e0 ∧
      Clear i (bound [bind0 (.agreed 1 0x145)]) g0 e0 ∧ Clear i (bound [bind0 (.broken 0x145)]) g0 e0) ∧
    foundAt base g0 0 = .unbound ∧ foundAt (bound [bind0 .open_]) g0 0 = .open_ ∧ foundAt (bound []) g0 0 = .closed ∧
    handleSt (bound []) g0 1 ≠ .pending ∧ (∃ u, collPostRun 0 1 0 (bound []) g0 e0 = (u, .loud) ∧ u.ap = (bound []).ap) ∧
    bindOf (bound [bind0 .open_]) (bindCtx (bound [bind0 .open_]) g0) 0 = some (bind0 .open_) ∧
    (bind0 .open_).chunks[(readReg (bound [bind0 .open_]) g0 0 96).toNat]? = some ⟨0, 1, false, [], none, false, [], false⟩ ∧
    (collPump (moved (fireChunk (bound [bind0 .open_]) 0 0 0 (fireAwaits (bound [bind0 .open_]) g0)) g0 e0 0)).ap = base.ap ∧
    foundAt (bound [bind0 (.agreed 1 0x145)]) g0 0 = .failed 0x145 (some 1) ∧ foundAt (bound [bind0 (.broken 0x145)]) g0 0 = .failed 0x145 none ∧
    FreshId (bound [bind0 (.broken 0x145)]) := by
  refine ⟨rfl, fun i hi => ⟨clears_of (by decide +kernel) i hi, clears_of (by decide +kernel) i hi, clears_of (by decide +kernel) i hi,
    clears_of (by decide +kernel) i hi, clears_of (by decide +kernel) i hi⟩, by decide +kernel, by decide +kernel, by decide +kernel,
    by decide +kernel, ⟨(collPostRun 0 1 0 (bound []) g0 e0).1, by decide +kernel⟩, by decide +kernel, by decide +kernel,
    by decide +kernel, by decide +kernel, by decide +kernel, by constructor <;> decide +kernel⟩

/-- Work queue 0 of tenant 0 is open, of kind 0 or 1, with items. -/
def wq (cfg : DWord) (items : List Item) : State :=
  setWq { { base with nextId := 20 } with ap := (apSet base 0x2000 cfg).ap } 0 ⟨items, none, []⟩
def item0 : Item := ⟨0x80, 0, [], none, false⟩
theorem wit_WorkIntake :
    Clear (.deq 0 98 96) (wq 0x80000000 [item0]) g0 e0 ∧ wqDenied (wq 0x80000000 [item0]) g0 0 (some 0) = none ∧
    (wqOf (wq 0x80000000 [item0]) 0).items = [item0] ∧ (wqOf (wq 0x80000000 [item0]) 0).parked = [] ∧
    DebugOff (moved (deqGive (setItems (wq 0x80000000 [item0]) 0 []) g0 98 item0) g0 e0 0) ∧
    Clear (.deq 0 98 96) base g0 e0 ∧ wqDenied base g0 0 (some 0) = some 0x0D0 ∧ wqDenied (wq 0x80000001 []) g0 0 (some 0) = some 0x0D1 ∧
    Clear (.enq 0 98 96) (wq 0x80000000 []) g0 e0 ∧ wqDenied (wq 0x80000000 []) g0 0 none = none ∧
    (wqOf (wq 0x80000000 []) 0).items.length < 512 ∧ wqDenied base g0 0 none = some 0x0D0 ∧
    Clear (.launch 0 1 98) (wq 0x80000001 []) g0 e0 ∧ wqDenied (wq 0x80000001 []) g0 0 (some 1) = none ∧ FreshId (markRegs (wq 0x80000001 []) g0.gid e0.mask) ∧
    Clear (.wfetch 0 4 96) sp g0 e0 ∧ teamOf sp g0.team = some t0 ∧ 16 ≤ bitsOf ((recOf sp g0).getD 4 0) 0 32 :=
  ⟨clear_of (by decide +kernel), by decide +kernel, by decide +kernel, by decide +kernel, debugOff_of (by decide +kernel),
    clear_of (by decide +kernel), by decide +kernel, by decide +kernel, clear_of (by decide +kernel), by decide +kernel, by decide +kernel,
    by decide +kernel, clear_of (by decide +kernel), by decide +kernel, by constructor <;> decide +kernel, clear_of (by decide +kernel),
    by decide +kernel⟩

/-- The group at user level, and one of a small budget. -/
def gu : Group := { g0 with kernel := false }
def gb : Group := { g0 with budget := 8 }
theorem wit_SystemRegisterMoves :
    Clear (.srd 0 1 4) base g0 e0 ∧ srWide 1 = false ∧ Clear (.srd 0 8 4) base g0 e0 ∧ srWide 8 = true ∧
    Clear (.swr 0 4 5) (at0 gu) gu e0 ∧ srIgnored gu.kernel 4 = true ∧
    Clear (.swr 0 0 5) (writeRf (at0 gb) gb 0 5 8) gb e0 ∧ srIgnored gb.kernel 0 = false ∧ gb.budget < bitsOf (8 : DWord) 3 5 * 8 + 8 ∧
    Clear (.swr 0 1 5) base g0 e0 ∧ srGroup 1 = true ∧ Clear (.swr 0 7 5) base g0 e0 ∧ srGroup 7 = false ∧ srIgnored g0.kernel 7 = false ∧
    ownReadsDone base g0 = true ∧ ctlStoresLeft base g0 e0.mask = false ∧ (coreOf base g0.core).stream = [] :=
  ⟨clear_of (by decide +kernel), by decide +kernel, clear_of (by decide +kernel), by decide +kernel, clear_of (by decide +kernel),
    by decide +kernel, clear_of (by decide +kernel), by decide +kernel, by decide +kernel, clear_of (by decide +kernel), by decide +kernel,
    clear_of (by decide +kernel), by decide +kernel⟩
/-- ICINV of no bytes, and of some; SLEEP of none and of some. -/
theorem wit_SystemInstructions :
    (∀ i, i ∈ [Instr.trap 0 15, .kset 0 31 5, .isync 0, .sleep 0 5, .halt 0, .icinv 0 13 98, .xlate 0 4 6, .ctxsave 0 1 98, .ctxload 0 15 98] →
      Clear i base g0 e0) ∧ ownReadsDone base g0 = true ∧ g0.core < 288 ∧ readReg base g0 (lowest e0.mask) 5 = 0 ∧
    Clear (.sleep 0 5) (writeRf base g0 0 5 9) g0 e0 ∧ readReg (writeRf base g0 0 5 9) g0 (lowest e0.mask) 5 ≠ 0 ∧
    (∀ l y, translate base (.core g0.core) g0.ctxid true .probe (readPair base g0 l 6) 1 ≠ .held y) ∧ FreshId base ∧ handleSt base g0 1 ≠ .pending := by
  refine ⟨clears_of (by decide +kernel), by decide +kernel, by decide +kernel, by decide +kernel, clear_of (by decide +kernel),
    by decide +kernel, fun l y => ?_, by constructor <;> decide +kernel, by decide +kernel⟩
  have hrf : (coreOf base g0.core).rf = [] := by decide +kernel
  have hp : g0.pend = [] := rfl
  have h : readPair base g0 l 6 = 0 := by simp [readPair, readRegAt, readOwn, hp, readRf, hrf, mapGet, isV, mkPair]
  have hx : translate base (.core g0.core) g0.ctxid true .probe 0 1 = .ok ⟨.ctl 0x5000, 0x500B, 0, false, [0, 64, 128, 192, 256]⟩ := by
    decide +kernel
  rw [h, hx]
  simp
/-! ## Witnesses: the hypotheses of the statements about events -/

def withEnt (st : EntSt) : Group := { g0 with ents := [{ e0 with st := st }] }
/-- A group whose entry waits at the check of the word at its PC. -/
def checking : State := setGroup { bed State.reset 0x1E00C000 with sel := none } (withEnt (.stalled .coll))
theorem wit_WaitsOver :
    groupOf base 3 = some g0 ∧ g0.core = 0 ∧
    (withEnt (.deferred 0 [(0, 0)])).ents.find? (fun x => unparked x && x.pc == 0 && x.prio == 0) = some { e0 with st := .deferred 0 [(0, 0)] } ∧
    deferOver (at0 (withEnt (.deferred 0 [(0, 0)]))) (withEnt (.deferred 0 [(0, 0)])) { e0 with st := .deferred 0 [(0, 0)] } = true ∧
    (withEnt (.stalled (.sleep (some 0) false))).ents.find? (fun x => x.pc == 0 && x.prio == 0 &&
      sleepOver (at0 (withEnt (.stalled (.sleep (some 0) false)))) (withEnt (.stalled (.sleep (some 0) false))) x) =
      some { e0 with st := .stalled (.sleep (some 0) false) } ∧
    0 ≤ (coreOf (at0 (withEnt (.stalled (.sleep (some 0) false)))) 0).cycle.toNat ∧ DebugOff base ∧ g0.brkSkip = [] ∧
    (withEnt (.stalled (.icinv 0 0 0 4 0))).ents.find? (fun x => x.pc == 0 && x.prio == 0 && (match x.st with
      | .stalled (.icinv _ _ _ _ _) => true
      | _ => false)) = some { e0 with st := .stalled (.icinv 0 0 0 4 0) } ∧
    groupOf checking 3 = some (withEnt (.stalled .coll)) ∧ checkedEnt (withEnt (.stalled .coll)) = some { e0 with st := .stalled .coll } ∧
    g0.halted = false ∧ (coreOf checking 0).halted = false ∧ checking.tripped = false ∧ checking.lost = false ∧
    peekWord checking (withEnt (.stalled .coll)) 0 = some 0x1E00C000 ∧ decode 0x1E00C000 = .ok (.collPost 0 3 0) ∧
    nextPending (withEnt (.pending ⟨255, 0x100, 4, 0⟩)) = some ⟨255, 0x100, 4, 0⟩ ∧ trapHeld base g0 0x100 = none ∧
    trapHeld (setDir (apSet base 0xD000 0x8000000000040000) 0x1020 ⟨some (.pkg 1, .m), [], [], none⟩) g0 0x100 = some 0x1020 :=
  ⟨by decide +kernel, by decide +kernel, by decide +kernel, by decide +kernel, by decide +kernel, by decide +kernel, debugOff_of (by decide +kernel),
    by decide +kernel⟩

/-- One lane's access, not yet performed. -/
def acc (p : Place) (va : DWord) (size : Nat) : Acc := ⟨0, va, p, size, 0x11223344, 0, false, false, [], [], false⟩
def mop (k : OpKind) (xs : List Acc) : MemOp := ⟨9, k, 0, 3, 2, 0, true, 1, xs, [], false, [], [], 0⟩
def withMop (s : State) (o : MemOp) : State := { s with ops := [o], nextId := 20 }
/-- A store to the last word of a sector; a core holds the sector in T. -/
def heldT : State := setDir (withMop base (mop .store [acc (.ctl 0x603C) 0 4])) 0x180 { dirOf base 0x180 with t := [.core 5] }
/-- The same store to a line of package 1's home, which this package's caches hold alone. -/
def alone : State := setHold (withMop base (mop .store [acc (.ctl 0x200000000) 0 4])) (2 ^ 27) (some .m)
theorem wit_StoreElsewhere : isOurs alone (2 ^ 27) = false ∧ holdsAlone alone (2 ^ 27) = true ∧ homeState alone 0x200000000 = none ∧
    writeFree alone (2 ^ 27) = true ∧ (dirOf alone (2 ^ 27)).blend = none ∧ opOf alone 9 = some (mop .store [acc (.ctl 0x200000000) 0 4]) ∧
    pinned alone (mop .store [acc (.ctl 0x200000000) 0 4]) (acc (.ctl 0x200000000) 0 4) = false ∧
    accFollowed alone (mop .store [acc (.ctl 0x200000000) 0 4]) (acc (.ctl 0x200000000) 0 4) = true := by decide +kernel
/-- A tensor store that its own core sees already. -/
def nearDone : Acc := { acc (.ten 0xFFC) 0 4 with reached := true }
/-- R299: its own core's loads read it, another core's do not. -/
theorem test_near_first :
    let s := withMop base (mop .store [nearDone])
    let b := fun core => coreOver s core (.ten 0xFFC) (placeBytes s (.ten 0xFFC) 4)
    b 0 = leBytes 4 nearDone.data.toNat ∧ b 1 = placeBytes s (.ten 0xFFC) 4 ∧ b 0 ≠ b 1 := by decide +kernel
theorem wit_StoresPerformed :
    let s := withMop base (mop .store [acc (.ten 0xFFC) 0 4])
    let c := withMop base (mop .store [acc (.ctl 0x603C) 0 4])
    let n := withMop base (mop .store [nearDone])
    nearWrite s (mop .store [acc (.ten 0xFFC) 0 4]) (acc (.ten 0xFFC) 0 4) = false ∧ opOf n 9 = some (mop .store [nearDone]) ∧
    (mop .store [nearDone]).accs.find? (fun y => y.lane == 0 && !y.done) = some nearDone ∧ nearDone.reached = true ∧
    accFollowed n (mop .store [nearDone]) nearDone = true ∧ lowerFirst (mop .store [nearDone]) nearDone = false ∧ Memory.wf n.ten = true ∧
    opOf s 9 = some (mop .store [acc (.ten 0xFFC) 0 4]) ∧
    (mop .store [acc (.ten 0xFFC) 0 4]).accs.find? (fun y => y.lane == 0 && !y.done) = some (acc (.ten 0xFFC) 0 4) ∧
    accFollowed s (mop .store [acc (.ten 0xFFC) 0 4]) (acc (.ten 0xFFC) 0 4) = true ∧
    accFollowed c (mop .store [acc (.ctl 0x603C) 0 4]) (acc (.ctl 0x603C) 0 4) = true ∧ lowerFirst (mop .store [acc (.ten 0xFFC) 0 4]) (acc (.ten 0xFFC) 0 4) = false ∧
    Memory.wf s.ten = true ∧ Memory.wf c.ctl = true ∧ homeState c 0x603C = none ∧
    pinned c (mop .store [acc (.ctl 0x603C) 0 4]) (acc (.ctl 0x603C) 0 4) = false ∧ isOurs c (0x603C / 64) = true ∧
    writeFree c (0x603C / 64) = true ∧ (dirOf c (0x603C / 64)).blend = none ∧
    opOf heldT 9 = some (mop .store [acc (.ctl 0x603C) 0 4]) ∧ homeState heldT 0x603C = none ∧
    pinned heldT (mop .store [acc (.ctl 0x603C) 0 4]) (acc (.ctl 0x603C) 0 4) = false ∧
    isOurs heldT (0x603C / 64) = true ∧ tHolders heldT (0x603C / 64) ≠ [] ∧ heldT.heldWrites = [] := by decide +kernel

/-- Rank 5 of context 0 lies on package 1, reached by port 0; package 1 is in the paddock. -/
def ranked : State :=
  let s := putWords (putWords base (rankPtrAddr base 0) [0x8050000000100000]) 0x100028 [0x8000001000000001]
  apSet s 0x8000 3
theorem wit_ResultsArrive :
    let w := withMop base (mop .store [acc (.win 1 1 0) 0 4])
    let r := withMop ranked (mop (.ratom 0 0) [acc (.ten 0) 0x4050000000000000 4])
    opOf (withMop base (mop .result [])) 9 = some (mop .result []) ∧ followed (withMop base (mop .result [])) (mop .result []) = true ∧
    opOf w 9 = some (mop .store [acc (.win 1 1 0) 0 4]) ∧
    accFollowed w (mop .store [acc (.win 1 1 0) 0 4]) (acc (.win 1 1 0) 0 4) = true ∧
    accFollowed r (mop (.ratom 0 0) [acc (.ten 0) 0x4050000000000000 4]) (acc (.ten 0) 0x4050000000000000 4) = true ∧
    lowerFirst (mop .store [acc (.win 1 1 0) 0 4]) (acc (.win 1 1 0) 0 4) = false ∧
    opOf r 9 = some (mop (.ratom 0 0) [acc (.ten 0) 0x4050000000000000 4]) ∧ bitsOf (0x4050000000000000 : DWord) 52 10 ≠ 0 ∧
    route r 0 0x4050000000000000 = .ok 1 0 (insAll [rankPtrAddr base 0 / 64] [0x100028 / 64]) := by decide +kernel

/-- A copy of one element: filled, from tensor memory, or to another rank; its tables map tensor page 0. -/
def tens : State :=
  let s := putWords base 0 [0x1003, 0x6000]
  let s := putWords (putWords s 0x6000 [0x7001]) 0x7000 [0x8001]
  putWords (putWords s 0x8000 [0x9001]) 0x9000 [0x001F]
def fillDesc : List DWord := [0x4000000000000040, 0x4000000000000080, 0x0001000100010001, 0x000000000000FFFF, 0x0001000100010001, 0, 0, 0, 3, 0, 0, 0]
def farDesc : List DWord := [0x4000000000000040, 0x4050000000000080, 0x0001000100010001, 0x000000000000FFFF, 0x0001000100010001, 0, 0, 0, 3, 0, 0, 0]
def copying (s : State) (w : List DWord) : State := { s with aops := [aop 9 (.copy 0 w) .pending], nextId := 20 }
def isOk : XRes → Nat → Bool
  | .ok x, p => x.at_ == .ten p
  | _, _ => false
theorem ten_of {r : XRes} {p : Nat} (h : isOk r p = true) : ∃ x, r = .ok x ∧ x.at_ = .ten p := by
  cases r with
  | ok x => exact ⟨x, rfl, by simpa [isOk] using h⟩
  | fault _ => cases h
  | held _ => cases h
/-- Its element is read; or on its way; or performed. -/
def got0 : AOp := { aop 9 (.copy 0 desc) .pending with got := [(0, [1, 2, 3, 4, 5, 6, 7, 8], false)] }
def flown : AOp := { aop 9 (.copy 0 farDesc) .pending with flight := [⟨0, 0, 1, 0, []⟩] }
def whole : AOp := { aop 9 (.copy 0 fillDesc) .pending with done := [0] }
theorem wit_CopyElements :
    aopOf (copying tens fillDesc) 9 = some (aop 9 (.copy 0 fillDesc) .pending) ∧ elemNo fillDesc 0 0 0 0 = 0 ∧
    (∀ j, j < 4 → 0 < descN fillDesc j) ∧ isRemote (copying tens fillDesc) 0 (dstAddr fillDesc 0) = false ∧
    Memory.wf (copying tens fillDesc).ten = true ∧ Memory.wf (copying tens fillDesc).ctl = true ∧
    ((copying tens fillDesc).dir.map Prod.fst).Pairwise (· < ·) ∧ srcAddr fillDesc 0 = none ∧
    (∃ x, translate (copying tens fillDesc) (.core 0) 0 true .store (dstAddr fillDesc 0) (descES fillDesc) = .ok x ∧ x.at_ = .ten 0x80) ∧
    srcAddr desc 0 = some 0x4000000000000040 ∧ isRemote (copying tens desc) 0 0x4000000000000040 = false ∧
    (∃ x, translate (copying tens desc) (.core 0) 0 true .load 0x4000000000000040 (min (descES desc) 8) = .ok x ∧ x.at_ = .ten 0x40) ∧
    isRemote (copying ranked farDesc) 0 (dstAddr farDesc 0) = true ∧
    route (copying ranked farDesc) 0 (dstAddr farDesc 0) = .ok 1 0 (insAll [rankPtrAddr base 0 / 64] [0x100028 / 64]) ∧
    spaceCheck (dstAddr farDesc 0) = none ∧ copyCount fillDesc = 1 ∧
    aopOf (withOp got0) 9 = some got0 ∧ got0.got.find? (fun h => h.1 == 0) = some (0, [1, 2, 3, 4, 5, 6, 7, 8], false) ∧
    aopOf (withOp flown) 9 = some flown ∧ (∃ f, f ∈ flown.flight ∧ f.lead = 0) ∧
    aopOf (withOp whole) 9 = some whole ∧ whole.done.length = copyCount fillDesc :=
  ⟨by decide +kernel, by decide +kernel, by decide +kernel, by decide +kernel, by decide +kernel, by decide +kernel, by decide +kernel,
    by decide +kernel, ten_of (by decide +kernel), by decide +kernel, by decide +kernel, ten_of (by decide +kernel), by decide +kernel⟩
/-- The first operation of core 0's stream is MZERO of the last tile; a save or load of one unit more; page requests. -/
def mop0 : MOp := ⟨9, .mzero 0 7, 3, 2, 0, 0, 0, 0, 0, 524288, 0, [], []⟩
def zeroing : State := setCore { base with aops := [aop 9 .matrix .pending], nextId := 20 } 0 { coreOf base 0 with stream := [mop0], acc := [(8191, 7)] }
/-- Unit 1023, the last of tile 7, is the one left of a move of that tile. -/
def moveOp (save : Bool) : AOp := { aop 9 (.tiles save 0x4000000000000000 0x80) .pending with done := (List.range 127).map (· + 896) }
def moving (save : Bool) : State :=
  setCore { putWords tens 0x9038 [0x701F] with aops := [moveOp save], nextId := 20 } 0 { coreOf base 0 with moves := [9], acc := [(8191, 7)] }
def paging (tail : DWord) : State :=
  let s := { base with aops := [aop 9 (.pages [(0x4000000000001000, 1)] []) .pending], nextId := 20 }
  putWords s 0x100000 [0, tail]
theorem wit_EnginesComplete :
    (coreOf zeroing 0).stream = [mop0] ∧ (∀ x, x ∈ (coreOf zeroing 0).moves → 9 ≤ x) ∧ (zeroing.cores.map Prod.fst).Pairwise (· < ·) ∧
    ((coreOf zeroing 0).acc.map Prod.fst).Pairwise (· < ·) ∧
    (∀ save, save = true ∨ save = false → aopOf (moving save) 9 = some (moveOp save) ∧ (coreOf (moving save) 0).moves.contains 9 = true ∧
      (moveOp save).after = [] ∧ (coreOf (moving save) 0).stream = [] ∧
      (natsWhere 1024 (fun k => (0x80 : Nat).testBit (k / 128))).filter (fun k => !(moveOp save).done.contains k) = [1023] ∧
      (∃ x, translate (moving save) (.core 0) 0 true (if save then .store else .load) (unitAddr 0x4000000000000000 1023) 4 = .ok x ∧
        x.at_ = .ten 0x7FE0) ∧
      (∃ x, translate (moving save) (.core 0) 0 true .load (unitAddr 0x4000000000000000 1023) 8 = .ok x ∧ x.at_ = .ten 0x7FE0)) ∧
    (∀ t, t = (0 : DWord) ∨ t = 15 → aopOf (paging t) 9 = some (aop 9 (.pages [(0x4000000000001000, 1)] []) .pending) ∧ (paging t).devWrites = [] ∧
      [((0x4000000000001000 : DWord), (1 : Mask))].filter (fun p => !pageIn (paging t) (aop 9 (.pages [(0x4000000000001000, 1)] []) .pending) p.1) ≠ [] ∧
      pageRing (paging t) 0 = 0x100000 ∧ ctlUnread (paging t) 0x100000 = false ∧ ctlUnread (paging t) 0x100008 = false ∧
      ctlWord64 (paging t) 0x100000 = 0 ∧ ctlWord64 (paging t) 0x100008 = t) := by
  refine ⟨by decide +kernel, by decide +kernel, by decide +kernel, by decide +kernel, fun save hs => ?_, fun t ht => ?_⟩
  · rcases hs with rfl | rfl <;>
      exact ⟨by decide +kernel, by decide +kernel, by decide +kernel, by decide +kernel, by decide +kernel, ten_of (by decide +kernel),
        ten_of (by decide +kernel)⟩
  · rcases ht with rfl | rfl <;>
      decide +kernel

/-- A store waits for core 5, which has acknowledged or still owes. -/
def held9 (inv owed : List Agent) : State :=
  { withMop base (mop .store [acc (.ctl 0x603C) 0 4]) with heldWrites := [⟨0x180, .lane 9 0, inv, owed, false⟩] }
theorem wit_CompletionPoints :
    agentBusy base (.core 5) 0x180 = false ∧ agentBusy { base with tlb := [(.core 5, 0x180)] } (.core 5) 0x180 = true ∧
    (base.dir.map Prod.fst).Pairwise (· < ·) ∧
    (held9 [.core 5] []).heldWrites.find? (fun h => h.sector == 0x180) = some ⟨0x180, .lane 9 0, [.core 5], [], false⟩ ∧
    agentLost (held9 [.core 5] []) (.core 5) = false ∧
    (held9 [] []).heldWrites.find? (fun h => h.sector == 0x180) = some ⟨0x180, .lane 9 0, [], [], false⟩ ∧ writeAway (held9 [] []) 0x180 = false ∧
    pkgHome (held9 [] []) (0x180 / 2 ^ 27) ≠ .rebuilding ∧ (held9 [] []).pinsAway = [] ∧ bootStopped base = false ∧
    opOf (held9 [] []) 9 = some (mop .store [acc (.ctl 0x603C) 0 4]) ∧ (held9 [] []).binds = [] ∧ Memory.wf (held9 [] []).ctl = true ∧
    (0x603C + 4 - 1) / 64 = 0x603C / 64 := by decide +kernel

theorem wit_OutsideAccesses :
    isLost base 1 = false ∧ base.lost = false ∧ homeState base (64 * 0x180) = none ∧ base.heldWrites = [] ∧ ownedNot base 1 0x180 = false ∧
    Memory.wf base.ctl = true ∧ (base.dir.map Prod.fst).Pairwise (· < ·) ∧ isOurs base 0x180 = true ∧ apSector 0x180 = false ∧ bootStopped base = false ∧
    regionPkgs base (0x603C / 64) = [] ∧ tHolders base (0x603C / 64) = [] ∧ base.pinsAway = [] ∧
    remoteCrooked ⟨1, 0, 0, 0, 0x4000000000000080, .read 4 true⟩ = false ∧ remoteCrooked ⟨1, 0, 0, 0, 0x4000000000000080, .write [(0, [1, 2], .good)]⟩ = false ∧
    remoteCrooked ⟨1, 0, 0, 0, 0x4000000000000080, .atom 13 [1, 2]⟩ = false ∧
    homeBase base + 0x1FFFE0000 ≤ 0x1FFFE0100 ∧ (0x1FFFE0100 - (homeBase base + 0x1FFFE0000)) % 8 = 0 ∧ base.binds = [] ∧ 4 ≤ 64 - 0x603C % 64 ∧ isLost (apSet base 0xF000 2) 1 = true ∧ spaceCheck 0x80 = none ∧ bitsOf (0x80 : DWord) 62 2 ≠ 1 ∧
    spaceCheck 0x4000000000000080 = none ∧ bitsOf (0x4000000000000080 : DWord) 62 2 = 1 ∧
    isOk (walk (putWords tens 0x9000 [0x001F]) (.port 0) 0 false .load 0x4000000000000080) 0x80 = true ∧
    isOk (walk (putWords tens 0x9000 [0x001F]) (.port 0) 0 false .store 0x4000000000000080) 0x80 = true ∧
    physOk true 0 = true ∧ physOk false 0x603C = true ∧ physOk false (0x603C + 4 - 1) = true ∧ overAperture base 0x603C 4 = false ∧
    (∀ n, n < 4 → imageShut base n = false) ∧ portWaits base 0x603C 4 = none := by decide +kernel

/-- Tenant 0 has slice 0 or, enabled, no more room for another. -/
def parted : State := apSet base 0x1000 0x8100
theorem wit_DroverConfiguration :
    (base.ap.map Prod.fst).Pairwise (· < ·) ∧ (0x810B : DWord) &&& 0xFFFFFFFFFFFF70F0 = 0 ∧ (apWord base (0x1000 + 8 * 11)).getLsbD 15 = false ∧
    bitsOf (0x810B : DWord) 8 4 ∈ [1, 2, 3, 4, 6, 12] ∧ bitsOf (0x810B : DWord) 0 4 % bitsOf (0x810B : DWord) 8 4 = 0 ∧
    bitsOf (0x810B : DWord) 0 4 + bitsOf (0x810B : DWord) 8 4 ≤ 12 ∧ (∀ u, u < 12 → partition base u = none) ∧
    (0x8110 : DWord) &&& 0xFFFFFFFFFFFF70F0 ≠ 0 ∧ (apWord parted 0x1000).getLsbD 15 = true ∧
    (0x8B07FFFF : DWord) &&& 0xFFFFFFFF10F8FFFE ≠ 0 ∧ (0x8B070001 : DWord) &&& 0xFFFFFFFF10F8FFFE = 0 ∧ bitsOf (0x8B070001 : DWord) 24 4 ≤ 11 ∧
    (wqCfg base 63).getLsbD 31 = false ∧ (wqCfg (wq 0x80000000 []) 0).getLsbD 31 = true ∧ (wqOf (wq 0x80000000 []) 0).items.length < 512 ∧
    base.devWrites = [] := by decide +kernel

/-- A record of one group of eight lanes: one team, budgets of 32 rows. -/
def goodRec : List DWord := [0x0100000108041000, 0, 0, 0x100010001, 64] ++ List.replicate 19 0 ++ List.replicate 8 3 ++ List.replicate 16 0
/-- Queue 0 of tenant 0, of kind launch, with one item; the record at its address is zeros, or good. -/
def launchOf (val : DWord) : State :=
  setWq { { rw with nextId := 20 } with ap := (apSet rw 0x2000 0x80000001).ap } 0 ⟨[{ item0 with val := val }], none, []⟩
def launchGood : State := putWords (launchOf 0x80) 0x5080 goodRec
def recRead (s : State) (w : List DWord) : Prop := ∃ a b, recordRead s 0 0x80 = .ok (w, a, b)
theorem rec_of {s : State} {w : List DWord} (h : (match recordRead s 0 0x80 with
    | .ok v => v.1 == w
    | .error _ => false) = true) : recRead s w := by
  simp only [recRead]
  cases hr : recordRead s 0 0x80 with
  | error _ => rw [hr] at h; cases h
  | ok v =>
    rw [hr] at h
    exact ⟨v.2.1, v.2.2, by rw [← beq_iff_eq.1 h]⟩
/-- The grid of that record is queue 0's, and tenant 0 has a partition of one slice with nothing in it. -/
def grid0 : Grid := { bedGrid 1 with rec_ := goodRec, next := 0, last := 23 }
def placing : State :=
  let s := { { State.reset with nextId := 20 } with ap := (apSet (apSet State.reset 0x1000 0x8100) 0x2000 0x80000001).ap }
  setWq { s with grids := [grid0] } 0 ⟨[], some 1, []⟩
theorem wit_Launches : (∀ v, v = 0x40 ∨ v = (0x84 : DWord) ∨ v = 0x80 → HeadReady (launchOf v) 0 { item0 with val := v }) ∧
    HeadReady launchGood 0 item0 ∧ (0x84 : DWord).toNat % 64 ≠ 0 ∧ bitsOf (0x80 : DWord) 62 2 = 0 ∧
    recRead (launchOf 0x80) (List.replicate 48 0) ∧ recordOk ((wqCfg (launchOf 0x80) 0).getLsbD 29) (List.replicate 48 0) = false ∧
    recRead launchGood goodRec ∧ recordOk ((wqCfg launchGood 0).getLsbD 29) goodRec = true ∧
    (launchGood.wqs.map Prod.fst).Pairwise (· < ·) ∧ (launchGood.ap.map Prod.fst).Pairwise (· < ·) ∧
    placeable placing 0 0 = some (grid0, 0, 0) ∧ mapGet 63 placing.lastWin (0 * 8 + bitsOf (wqCfg placing 0) 16 3) < 64 ∧
    (∀ r, r < 64 → r ≠ 0 → placeable placing 0 r = none) ∧ spadFree placing 0 (needOf grid0).alloc = some 0 ∧
    (∃ p, bundleAll 0 grid0.ctx (needOf grid0).width placing.nextId (coreOf placing 0).bundles (groupRoles (needOf grid0))
      (newSlots placing 0 (groupRoles (needOf grid0)).length) = some p) := by
  refine ⟨fun v h => ?_, by constructor <;> decide +kernel,
    by decide +kernel, by decide +kernel, rec_of (by decide +kernel), by decide +kernel, rec_of (by decide +kernel), by decide +kernel,
    by decide +kernel, by decide +kernel, by decide +kernel, by decide +kernel, by decide +kernel, by decide +kernel, ok_of (by decide +kernel)⟩
  rcases h with rfl | rfl | rfl <;>
    exact by constructor <;> decide +kernel
theorem wit_MailboxAndRelease :
    let z := { base with teams := [{ t0 with zeroing := true }] }
    let f := { base with teams := [{ t0 with wfetch := some 16 }] }
    teamOf z 2 = some { t0 with zeroing := true } ∧ t0.core = 0 ∧ (z.cores.map Prod.fst).Pairwise (· < ·) ∧
    Memory.wf (coreOf z 0).spad = true ∧ teamOf f 2 = some { t0 with wfetch := some 16 } ∧ gridOf f t0.grid = some (bedGrid 1) ∧
    (∃ g, g ∈ base.groups ∧ g.team = 2) ∧ teamOf { base with groups := [] } 2 = some t0 ∧ t0.ops = [] ∧ t0.zeroing = false ∧
    (¬∃ o, o ∈ base.aops ∧ o.id ∈ t0.named ∧ o.st = .pending) ∧
    ∃ o, o ∈ [aop 9 (.pages [] []) .pending] ∧ o.id ∈ ({ t0 with named := [9] } : Team).named ∧ o.st = .pending :=
  ⟨by decide +kernel, by decide +kernel, by decide +kernel, by decide +kernel, by decide +kernel, by decide +kernel,
    ⟨g0, by decide +kernel⟩, by decide +kernel, by decide +kernel, by decide +kernel, by decide +kernel, ⟨aop 9 (.pages [] []) .pending, by decide +kernel⟩⟩

/-- A save of context 0 in progress on core 0, with so much of the timeout left; its group running or halted. -/
def saving (tmo : Nat) (g : Group) : State := { at0 g with preempts := [⟨0, 0, false, 0, tmo, []⟩] }
def save0 : Saved := ⟨0, 0, 0, [t0], [{ g0 with halted := true }], [], [], [], [], [], []⟩
def restoring : State := { base with preempts := [⟨0, 0, true, 0, 0, []⟩], saved := [save0], teams := [], groups := [] }
theorem wit_PreemptionSteps :
    (base.ap.map Prod.fst).Pairwise (· < ·) ∧ (apWord base (preOff 0)).getLsbD 63 = false ∧ ctxTeams base 5 0 = [] ∧ ctxTeams base 0 0 = [t0] ∧
    (coreOf base 0).ptmo ≠ 0 ∧ restoring.saved = [save0] ∧ (apWord (apSet base (preOff 0) 0x8000000000000000) (preOff 0)).getLsbD 63 = true ∧
    saveOn (saving 5 g0) 0 = some ⟨0, 0, false, 0, 5, []⟩ ∧ groupOf (saving 5 g0) 3 = some g0 ∧ g0.halted = false ∧ t0 ∈ ctxTeams (saving 5 g0) 0 0 ∧
    g0.core = 0 ∧ lightOk g0 = true ∧ lightOk gt = false ∧ groupOf (saving 5 gt) 3 = some gt ∧ g0.ents = [e0] ∧ e0.st = .ready ∧ g0.path = [] ∧
    g0.ltrap = none ∧ g0.pend = [] ∧ (coreOf (saving 5 g0) 0).owner = none ∧ saveOn (saving 0 g0) 0 = some ⟨0, 0, false, 0, 0, []⟩ ∧
    teamOf (saving 5 { g0 with halted := true }) 2 = some t0 ∧ teamQuiet (saving 5 { g0 with halted := true }) t0 = true ∧
    (∀ g, g ∈ (saving 5 { g0 with halted := true }).groups → g.halted = true) ∧ (coreOf (saving 5 g0) 0).halted = false ∧
    savedAll restoring 0 0 = some save0 ∧ areaBad restoring 0 0 = false ∧ (∃ w, w ∈ restoring.saved ∧ w.core = 0 ∧ w.ctx = 0 ∧ w.area = 0) ∧
    areaBad { restoring with ctlBad := [0] } 0 0 = true ∧ owedDone save0 = true ∧ roomFor restoring save0 = true ∧
    roomFor { restoring with teams := [{ t0 with alloc := 524288, spBase := 0 }], saved := [{ save0 with teams := [{ t0 with alloc := 64 }] }] }
      { save0 with teams := [{ t0 with alloc := 64 }] } = false := by
  refine by decide +kernel

/-- Tenant 0's trap ring is at 0x41000, holding 0 or 63 records; one record waits. -/
def ringed (tail : DWord) : State :=
  { putWords (apSet base 0xD000 0x8000000000040000) 0x41000 [0, tail] with trapWait := [⟨0, 7, [1, 2, 3, 4, 5]⟩] }
/-- Record 0 of trap 7 is posted and the group's lanes are held there; its XPC and XLMASK words follow. -/
def trapped7 (xpc xl : DWord) : State :=
  let s := setGroup (putWords (apSet base 0xD000 0x8000000000040000) 0x41000 [0, 1]) (withEnt (.held 7))
  { putWords s 0x41048 [xpc, xl] with openRecs := [⟨0, 0, 7⟩] }
theorem wit_TrapDelivery :
    (∀ t, t = (0 : DWord) ∨ t = 63 → (ringed t).trapWait.find? (fun r => r.tenant == 0) = some ⟨0, 7, [1, 2, 3, 4, 5]⟩ ∧
      (trapBase (ringed t) 0).getLsbD 63 = true ∧ (ringed t).devWrites = [] ∧ ctlUnread (ringed t) 0x41000 = false ∧
      ctlUnread (ringed t) 0x41008 = false ∧ ctlWord64 (ringed t) 0x41000 = 0 ∧ ctlWord64 (ringed t) 0x41008 = t) ∧
    (base.ap.map Prod.fst).Pairwise (· < ·) ∧ (0x8000000000042000 : DWord) &&& 0x3FFF000000001FFF = 0 ∧
    (0x8000000000042008 : DWord) &&& 0x3FFF000000001FFF ≠ 0 ∧ base.xresBusy = none ∧ base.openRecs = [] ∧ xresFind base 0 g0.gslot 0 = none ∧
    (∀ x l, x = (0x100 : DWord) ∧ l = (0xFF : DWord) ∨ x = 0x102 ∧ l = 0xFF ∨ x = 0x100 ∧ l = 0x1FF →
      xresFind (trapped7 x l) 0 g0.gslot 0 = some (⟨0, 0, 7⟩, 3, 2, 255) ∧ ctlUnread (trapped7 x l) 0x41040 = false ∧
      ctlAway (trapped7 x l) 0x41008 = false ∧ ctlAway (trapped7 x l) 0x41040 = false ∧ (trapped7 x l).xresBusy = none ∧
      ctlWord64 (trapped7 x l) 0x41048 = x ∧ ctlWord64 (trapped7 x l) 0x41050 = l) ∧
    (0xFF : DWord) &&& ~~~255 = 0 ∧ bitsOf (0x100 : DWord) 0 2 = 0 ∧ (0x1FF : DWord) &&& ~~~255 ≠ 0 ∧ bitsOf (0x102 : DWord) 0 2 ≠ 0 ∧
    groupOf base 3 = some g0 ∧ ∀ l, bitAt (255 : Mask) l = true → ∃ e, e ∈ g0.ents ∧ bitAt e.mask l = true := by
  refine ⟨fun t h => ?_, by decide +kernel, by decide +kernel, by decide +kernel, by decide +kernel, by decide +kernel, by decide +kernel,
    fun x l h => ?_, by decide +kernel,
    by decide +kernel, by decide +kernel, by decide +kernel, by decide +kernel, fun l h => ⟨e0, by decide +kernel, h⟩⟩
  · rcases h with rfl | rfl <;>
      decide +kernel
  · rcases h with ⟨rfl, rfl⟩ | ⟨rfl, rfl⟩ | ⟨rfl, rfl⟩ <;>
      decide +kernel

theorem wit_KillsAndDebugRelease :
    (base.ap.map Prod.fst).Pairwise (· < ·) ∧ (base.cores.map Prod.fst).Pairwise (· < ·) ∧ (apWord base 0xC000).getLsbD 63 = false ∧
    (apWord (apSet base 0xC000 0x8000000000000000) 0xC000).getLsbD 63 = true ∧
    ({ base with kills := [⟨0, 0, [9]⟩] } : State).kills.find? (fun k => k.core == 0) = some ⟨0, 0, [9]⟩ ∧
    gone { withOp (aop 9 (.pages [] []) .pending) with kills := [⟨0, 0, [9]⟩] } 9 = false ∧ gone { base with kills := [⟨0, 0, [9]⟩] } 9 = true ∧
    bitsOf (0x012F000000000003 : DWord) 48 9 = 303 := by decide +kernel
/-- A group whose entry waits at the check of a COLL.PROG of an open binding. -/
def asking : State := setGroup (noIssue { bound [bind0 .open_] with ctl := (bed State.reset 0x1E010002).ctl, sel := none } 0) (withEnt (.stalled .coll))
/-- The same as its instruction issues. -/
def asked : State := modGroup { asking with sel := some ⟨3, 0, 0, 0, []⟩ } 3 (fun k => { k with
  ents := k.ents.map (fun x => if x == { e0 with st := .stalled .coll } then { x with st := .ready } else x) })
theorem wit_EventsComplete :
    groupOf asking 3 = some (withEnt (.stalled .coll)) ∧ checkedEnt (withEnt (.stalled .coll)) = some { e0 with st := .stalled .coll } ∧
    (coreOf asking 0).halted = false ∧ asking.tripped = false ∧ asking.lost = false ∧
    peekWord asking (withEnt (.stalled .coll)) 0 = some 0x1E010002 ∧ decode 0x1E010002 = .ok (.collProg 0 4 0) ∧
    Clear (.collProg 0 4 0) asked g0 e0 ∧ (bindWord asked g0 0 0).getLsbD 63 = true ∧ bindOf asked (bindCtx asked g0) 0 = some (bind0 .open_) :=
  ⟨by decide +kernel, by decide +kernel, by decide +kernel, by decide +kernel, by decide +kernel, by decide +kernel, by decide +kernel,
    clear_of (by decide +kernel), by decide +kernel⟩

theorem wit_FabricPorts :
    (base.ap.map Prod.fst).Pairwise (· < ·) ∧ (base.ports.map Prod.fst).Pairwise (· < ·) ∧ ownPkg base / 64 = 0 ∧
    (0x2 : DWord).getLsbD (ownPkg base % 64) = false ∧ (0x3 : DWord).getLsbD (ownPkg base % 64) = true ∧ inPaddock base 0 = true ∧
    inPaddock base 767 = false ∧ onWayTo base 767 = false ∧
    onWayTo { base with aops := [{ aop 9 (.copy 0 farDesc) .pending with flight := [⟨0, 0, 767, 0, []⟩] }] } 767 = true ∧
    ((abandonFlights { base with aops := [{ aop 9 (.copy 0 farDesc) .pending with flight := [⟨0, 0, 767, 0, []⟩] }] } 767 0x146).ap.map Prod.fst).Pairwise (· < ·) ∧
    countFlit (portOf base 0).tx 5 = (5, 1) ∧ countFlit (portOf (setPort base 0 { portOf base 0 with tx := (5, 16), rx := (5, 16) }) 0).tx 5 = (5, 17) ∧
    countFlit (portOf (setPort base 0 { portOf base 0 with tx := (5, 16), rx := (5, 16) }) 0).rx 5 = (5, 17) ∧
    (insNat 4 (portOf base 35).unlocked).length < 2 ∧ 2 ≤ (insNat 4 (portOf (setPort base 35 { portOf base 35 with unlocked := [0] }) 35).unlocked).length ∧
    (0x8100000000200400 : DWord) &&& 0x3CFFFFFFFF000000 = 0 ∧ (0x8100000001200400 : DWord) &&& 0x00FFFFFFFF000000 ≠ 0 ∧
    (apWord base (0x12000 + 16 * 35)).getLsbD 62 = false ∧
    (portOf (setPort base 0 { portOf base 0 with proposal := some (2, 256) }) 0).proposal = some (2, 256) ∧ (portOf base 0).proposal ≠ some (2, 256) ∧
    4 ∉ (portOf base 0).weak ∧ 4 ∈ (portOf (setPort base 0 { portOf base 0 with weak := [4] }) 0).weak ∧
    swapDue base 35 (weakLanes base 35 (List.replicate 5 ⟨3, 40⟩)) = none ∧ (List.replicate 5 (⟨3, 40⟩ : LinkSample)).length = 5 := by decide +kernel
/-- A packet of rank 1, on package 1, to collective 0; as a partial sum or a result, with NMEMB and position as bound or not. -/
def pkt0 (n pos : Nat) (b : CollBody) : CollPkt := ⟨0, 0, 0, pos, n, 1, 1, b⟩
/-- Tenant 0 has early-arrival space, or none. -/
def closed0 : State := { parted with binds := [bind0 .closed] }
/-- Its chunk is sent and not acknowledged, or final and acknowledged. -/
def bindSent : Bind := { bind0 .open_ with chunks := [⟨0, 1, true, [], none, true, [1], false⟩] }
def bindOver : Bind := { bind0 .open_ with chunks := [⟨0, 1, true, [], none, true, [], true⟩] }
/-- A packet of chunk 0 is on its way to the member at position 1; rank 5, on package 1, can be reached. -/
def onWay0 : CollSent := ⟨0, 0, 0, 9, ⟨1, 0, 1, 0, []⟩⟩
def way0 : State := { bound [bindSent] with collSent := [onWay0] }
def bind5 : Bind := { bind0 .open_ with ranks := [(0, 0), (5, 1)] }
def far5 : State := { ranked with binds := [bind5], retries := [(pkt0 1 1 (.result [5]), 0)] }
theorem rank_of {r : RankRes} (h : (match r with
    | .ok _ _ _ => true
    | _ => false) = true) : ∃ p q ss, r = .ok p q ss := by
  cases r with
  | ok p q ss => exact ⟨p, q, ss, rfl⟩
  | fault _ => cases h
  | held => cases h
theorem wit_CollectiveEvents :
    way0.collSent.find? (fun k => k.ctx == 0 && k.c == 0 && k.chunk == 0 && k.way.pkg == 1) = some onWay0 ∧ bindSent.post = onWay0.post ∧
    bindOf way0 0 0 = some bindSent ∧ bindSent.cancelling = false ∧ bindOf far5 0 0 = some bind5 ∧
    far5.retries[0]? = some (pkt0 1 1 (.result [5]), 0) ∧ (bind5.ranks.findIdx? (fun r => r.2 == 1)).getD 0 = 1 ∧
    (∃ q r ss, lookAll far5 bind5 0 [1] = .ok q r ss) ∧ (pkt0 1 1 (.result [5])).body ≠ .ack ∧
    isClosed closed0 0 0 = true ∧ earlyUsed closed0 0 + (pktBytes (pkt0 1 1 (.partSum [5]))).length ≤ earlyShare closed0 0 ∧
    isClosed base 0 0 = true ∧ earlyShare base 0 < earlyUsed base 0 + (pktBytes (pkt0 1 1 (.partSum [5]))).length ∧
    bindOf (bound [bind0 .open_]) 0 0 = some (bind0 .open_) ∧ (bind0 .open_).cancelling = false ∧
    (pkt0 1 1 (.result [5])).nmemb + 1 = (bind0 .open_).ranks.length ∧
    ((bind0 .open_).ranks.getD (pkt0 1 1 (.result [5])).pos (0, 0)).1 = (pkt0 1 1 (.result [5])).rank ∧
    (pkt0 2 1 (.result [5])).nmemb + 1 ≠ (bind0 .open_).ranks.length ∧
    ((bind0 .open_).ranks.getD (pkt0 1 0 (.result [5])).pos (0, 0)).1 ≠ (pkt0 1 0 (.result [5])).rank ∧
    ({ bound [bind0 .open_] with retries := [(pkt0 1 1 (.result [5]), 0), (pkt0 1 1 (.result [5]), 1)] } : State).retries[0]? =
      some (pkt0 1 1 (.result [5]), 0) ∧ (coreOf (bound [bind0 .open_]) 288).cycle.toNat = 0 ∧
    bindOf (collPump (bound [bindSent])) 0 0 = some bindSent ∧ (∃ q, q ∈ bindSent.chunks ∧ q.acks ≠ []) ∧
    bindOf (collPump (bound [bindOver])) 0 0 = some bindOver ∧
    (∀ q, q ∈ bindOver.chunks → q.final = true ∧ q.acks = []) ∧
    (bind0 .open_).agrees = [] ∧ bindOf (bound [{ bind0 .open_ with cancelling := true, cancelOwed := [1, 2] }]) 0 0 =
      some { bind0 .open_ with cancelling := true, cancelOwed := [1, 2] } ∧
    bindOf (bound [{ bind0 (.broken 0x145) with pos := 1 }]) 0 0 = some { bind0 (.broken 0x145) with pos := 1 } ∧
    leader base { bind0 (.broken 0x145) with pos := 1 } ≠ 1 ∧ bindOf (bound [bind0 (.agreeing 0x145)]) 0 0 = some (bind0 (.agreeing 0x145)) ∧
    leader (bound [bind0 (.agreeing 0x145)]) (bind0 (.agreeing 0x145)) = (bind0 (.agreeing 0x145)).pos :=
  ⟨by decide +kernel, by decide +kernel, by decide +kernel, by decide +kernel, by decide +kernel, by decide +kernel, by decide +kernel,
    rank_of (by decide +kernel), by decide +kernel, by decide +kernel, by decide +kernel, by decide +kernel, by decide +kernel, by decide +kernel, by decide +kernel,
    by decide +kernel⟩

/-- BOOTCFG is locked: package 0 with peer 1; the sequence is at the hub's stage. -/
def booted (stage : Nat) : State := apPut (apSet base 0 0x8000000000010000) 8 0 4 stage
/-- The image area is all zeros, which is no image (the image check is no hypothesis: the statement gives both of its outcomes). -/
theorem wit_BringUp :
    (base.ap.map Prod.fst).Pairwise (· < ·) ∧ ((booted 1).ap.map Prod.fst).Pairwise (· < ·) ∧ (apWord base 0).getLsbD 63 = false ∧
    (apWord (booted 1) 0).getLsbD 63 = true ∧ bitsOf (0x8000000002FF0000 : DWord) 16 10 = 767 ∧
    (0x8000000002FF0000 : DWord) &&& 0x7FFFFFFFFC00FC00 = 0 ∧ bitsOf (0x0000000003000000 : DWord) 16 10 = 768 ∧
    bootErr (booted 1) = 0 ∧ bootStage (booted 1) = 1 ∧ imgShape (apPut (booted 1) 8 0 4 1) 1 (homeBase (booted 1)) none = false ∧
    bootErr (booted 2) = 0 ∧ bootStage (booted 2) = 2 ∧ peerPkg (booted 2) = 1 ∧ ownPkg (booted 2) = 0 ∧
    ((booted 2).cores.map Prod.fst).Pairwise (· < ·) ∧ attestBusy (booted 3) = false ∧ bootDone (booted 3) = false ∧
    bootDone (apPut (booted 3) 8 63 1 1) = true := by decide +kernel

theorem wit_PowerLimits :
    (base.ap.map Prod.fst).Pairwise (· < ·) ∧ bitsOf (apWord (apSet base 0xB000 0x8000000064000000) 0xB000) (8 * 3) 8 = 100 ∧
    bitsOf (apWord (apSet base 0xB000 0x8000000063000000) 0xB000) (8 * 3) 8 = 99 ∧ bitsOf (0x00640000 + 1440 : DWord) 16 16 = 100 ∧
    bitsOf (0x00640000 + 1440 : DWord) 16 16 + bitsOf (0x00640000 + 1440 : DWord) 0 16 = 1540 ∧
    bitsOf (0x00640000 + 1441 : DWord) 16 16 + bitsOf (0x00640000 + 1441 : DWord) 0 16 = 1541 ∧
    (∀ d, d < 4 → bitsOf (apWord base 0xB000) (8 * d) 8 < 100) ∧ matTok base + fabTok base = 1540 ∧ matFloor base ≤ matTok base ∧
    fabFloor base ≤ fabTok base := by decide +kernel

/-- A package without work; package 1 is its peer and lost. -/
def lone : State := apSet State.reset 0 0x8000000000010000
def peerLost : State := { apSet lone 0xF000 2 with dl := [2 ^ 27 + 3], mirror := [(0x1FFFDFFFF, 7)] }
/-- Its own number is marked lost and the peer is not. -/
def selfLost : State := apSet lone 0xF000 1
/-- Slice 5 holds entries of tenant 0 alone. -/
def owned5 : State := { base with owned := [(1029, 1)] }
theorem wit_LossesAndErrors :
    (lone.ap.map Prod.fst).Pairwise (· < ·) ∧ (lone.cores.map Prod.fst).Pairwise (· < ·) ∧ 767 ≠ ownPkg lone ∧ isLost lone 767 = false ∧ lone.dir = [] ∧ lone.heldWrites = [] ∧
    lone.devWrites = [] ∧ lone.early = [] ∧ lone.retries = [] ∧ lone.binds = [] ∧ lone.aops = [] ∧ lone.ops = [] ∧ isLost peerLost 1 = true ∧
    1 ∉ peerLost.rebuilt ∧ isLost peerLost (mirrorOf peerLost 1) = false ∧ 1 = peerPkg peerLost ∧ peerLost.devWrites = [] ∧
    (peerLost.ctl.map Prod.fst).Pairwise (· < ·) ∧ (peerLost.mirror.map Prod.fst).Pairwise (· < ·) ∧ (∀ k, k ∈ peerLost.mirror → k.1 < 2 ^ 33) ∧
    holdOf peerLost (2 ^ 27 + 3) = none ∧ 767 ≠ peerPkg lone ∧ isLost lone 1 = false ∧ isLost selfLost 0 = true ∧ 0 ∉ selfLost.rebuilt ∧
    isLost selfLost (mirrorOf selfLost 0) = false ∧ 0 ≠ peerPkg selfLost ∧ (owned5.owned.map Prod.fst).Pairwise (· < ·) ∧ (peerLost.ap.map Prod.fst).Pairwise (· < ·) ∧
    (2 ^ 27 + 3) / 2 ^ 27 = 1 ∧ (mapGet 0 owned5.owned (1024 + 5)).testBit 0 = true ∧
    (∀ k, k < 12 → k ≠ 0 → (mapGet 0 owned5.owned (1024 + 5)).testBit k = false) ∧ (apWord owned5 0xF100).getLsbD 63 = false ∧
    partition base 0 = none ∧ partition parted 0 ≠ none ∧
    ((resetOps (resetColls (resetLanes parted 0 (tenantCores parted 0)) 0) 0 (tenantCores parted 0)).ap.map Prod.fst).Pairwise (· < ·) ∧
    ((resetOps (resetColls (resetLanes parted 0 (tenantCores parted 0)) 0) 0 (tenantCores parted 0)).cores.map Prod.fst).Pairwise (· < ·) ∧
    (0 : DWord).getLsbD 61 = false := by decide +kernel

/-! ## Witnesses: further clauses -/

theorem wit_MovesKeepFrontier : groupOf base 3 = some g0 ∧ Frontier g0 ∧
    ([(8, 0x0F), (4, 0xF0)] : List (DWord × Mask)).Pairwise (fun x y => x.2 &&& y.2 = 0) ∧
    (∀ q, q ∈ ([(8, 0x0F), (4, 0xF0)] : List (DWord × Mask)) → q.2 &&& ~~~g0.live = 0) ∧ bitAt (0xF0 : Mask) 7 = true ∧
    (∃ e, e ∈ g0.ents ∧ bitAt e.mask 0 = true ∧ ∀ q, q ∈ ([(8, 0xF0)] : List (DWord × Mask)) → bitAt q.2 0 = false) :=
  ⟨by decide +kernel, ⟨by decide +kernel, by decide +kernel, by decide +kernel⟩, by decide +kernel,
    List.forall_mem_cons.2 ⟨by decide +kernel, List.forall_mem_singleton.2 (by decide +kernel)⟩, by decide +kernel,
    e0, by decide +kernel, by decide +kernel, List.forall_mem_singleton.2 (by decide +kernel)⟩
theorem wit_RegroupLeaves : DebugOff base ∧ ([g0].map (·.gid)).Nodup ∧ (∀ g, g ∈ [g0] → groupOf base g.gid = some g ∧ g.width ≤ 64) ∧
    (regroup base [{ g0 with live := 0xA5 }] { e0 with mask := 0xA5 } 4 8 2).groups.map (fun g => (g.live, g.ents.map (fun e => (e.pc, e.mask)))) =
      [(15, [(4, 15)])] := ⟨debugOff_of (by decide +kernel), by decide +kernel, by decide +kernel, by decide +kernel⟩
/-- The group's uniforms k2:k3 name the call table at 0x200: callee 0 has weight 1 and its code at 0x100. -/
def calling : State := setGroup (putWords rw 0x5200 [0x0100000000000040]) { g0 with k := [(2, 0x200)] }
def gk : Group := { g0 with k := [(2, 0x200)] }
def callPark : State := parkEnt calling gk.gid e0 ⟨.tcall 0 1 98 0, 0, 0, [(lowest e0.mask, readK gk (kNum 98), readK gk (kNum 98 + 1))], 0⟩
theorem called_of {r : Except (Cause × DWord) State} {n : Nat} (h : (match r with
    | .ok u => u.nextId != n
    | .error _ => false) = true) : ∃ u, r = .ok u ∧ u.nextId ≠ n := by
  cases r with
  | ok u => exact ⟨u, rfl, by simpa using h⟩
  | error _ => cases h
theorem wit_TeamCallLeaves : Clear (.tcall 0 1 98 0) calling gk e0 ∧ Calm (fun _ => false) calling gk t0 ∧ gk.width ≠ 1 ∧ scopeAll calling gk = [gk] ∧
    gk.ents = [e0] ∧ noGroupWrites gk = true ∧ calling.ops.any (fun o => o.gid == gk.gid) = false ∧ gk.pend = [] ∧
    edgesLeft calling gk (bit1 (lowest e0.mask)) = false ∧ DebugOff callPark ∧ (∀ h, h ∈ callPark.groups → h.gid < callPark.nextId) ∧
    teamOf callPark gk.team = some t0 ∧ ∃ g1, groupOf callPark gk.gid = some g1 ∧
    ∃ u, teamCall callPark (scopeGroups callPark gk) g1 { e0 with stall := 0, st := .parked ⟨.tcall 0 1 98 0, 0, 0,
        [(lowest e0.mask, readK gk (kNum 98), readK gk (kNum 98 + 1))], 0⟩ } 1 (mkPair (readK gk (kNum 98)) (readK gk (kNum 98 + 1))) 1 = .ok u ∧
      u.nextId ≠ callPark.nextId :=
  ⟨clear_of (by decide +kernel), calm_of (by decide +kernel), by decide +kernel, by decide +kernel, by decide +kernel, by decide +kernel,
    by decide +kernel, by decide +kernel, by decide +kernel, debugOff_of (by decide +kernel), by decide +kernel, by decide +kernel,
    _, rfl, called_of (by decide +kernel)⟩
/-- The team's one frame is open, and its callee's lanes come to TRET. -/
def framed : State := { at0 gt with teams := [{ t0 with frames := [frame0] }] }
theorem wit_RejoinLeaves : DebugOff framed ∧ teamOf framed 2 = some { t0 with frames := [frame0] } ∧ Clear (.tret 0) framed gt e0 ∧
    Calm isTret framed gt { t0 with frames := [frame0] } ∧
    ({ t0 with frames := [frame0] } : Team).frames.find? (frameDone (parkEnt framed gt.gid e0 ⟨.tret 0, 0, 0, [], 0⟩) { t0 with frames := [frame0] }) =
      some frame0 := ⟨debugOff_of (by decide +kernel), by decide +kernel, clear_of (by decide +kernel), calm_of (by decide +kernel), by decide +kernel⟩

/-- Rank 0 is here and rank 5 on package 1: the member list at 0x100, and the chunk map at 0x140 with two chunks of four blocks. -/
def posting : State :=
  let s := putWords (putWords (putWords ranked 0x4000 [0x501F]) 0x5100 [0x0000000000050000]) 0x5140 [0x0000000000020000, 4, 0x0000000400000004]
  { s with nextId := 20, grids := [{ bedGrid 1 with
    rec_ := List.replicate 32 0 ++ [0x8000000000000100, 0x0000000100000008, 0x4000000000000000, 0x140] }] }
def two : List Chunk := [⟨0, 4, false, [], none, false, [], false⟩, ⟨4, 4, false, [], none, false, [], false⟩]
theorem list_of {r : Except (XRes × DWord) (List DWord × List Nat × List Place)} {ws : List DWord} {ss : List Nat} {ps : List Place}
    (h : (match r with
      | .ok v => v == (ws, ss, ps)
      | .error _ => false) = true) : r = .ok (ws, ss, ps) := by
  cases r with
  | ok v => simp only [beq_iff_eq] at h; rw [h]
  | error _ => cases h
theorem wit_CollectivePosts : let ss := [0, 64, 128, 192, 256]
    posting.hdieDelay = false ∧ Clear (.collPost 0 1 0) posting g0 e0 ∧ foundAt posting g0 0 = .closed ∧ handleSt posting g0 1 ≠ .pending ∧
    ownReadsDone posting g0 = true ∧ FreshId posting ∧
    listRead posting g0 e0.mask 0x100 1 = .ok ([0x50000], ss, [.ctl 0x5100]) ∧ listRead posting g0 e0.mask 0x140 1 = .ok ([0x20000], ss, [.ctl 0x5140]) ∧
    listRead posting g0 e0.mask 0x140 3 = .ok ([0x20000, 4, 0x0000000400000004], ss, [.ctl 0x5140, .ctl 0x5148, .ctl 0x5150]) ∧
    sortBy (fun a b => decide (a < b)) (memberEntries [0x50000] 2) = [0, 5] ∧ (mapGet 0 posting.lrank (bindCtx posting g0)).toNat = 0 ∧
    chunksOf [0x20000, 4, 0x0000000400000004] (bitsOf (bindWord posting g0 0 1) 0 32) = some two ∧ bitsOf (bindWord posting g0 0 2) 52 10 = 0 ∧
    (∃ p q tt, rankLookup (readLeaves posting 0 ss [.ctl 0x5100, .ctl 0x5140, .ctl 0x5148, .ctl 0x5150]) 0 5 0 = .ok p q tt) ∧
    isLost posting 0 = false ∧ isLost posting 1 = false ∧ ownPkg posting = 0 ∧ posting.early = [] :=
  ⟨by decide +kernel, clear_of (by decide +kernel), by decide +kernel, by decide +kernel, by decide +kernel, by constructor <;> decide +kernel,
    list_of (by decide +kernel), list_of (by decide +kernel), list_of (by decide +kernel), by decide +kernel, by decide +kernel, by decide +kernel,
    by decide +kernel, rank_of (by decide +kernel), by decide +kernel⟩
/-- A binding one of whose chunks is fired, and handle 1 of the group Pending. -/
def fired : Bind := { bind0 .open_ with chunks := [⟨0, 1, true, [], none, false, [], false⟩] }
def busyH (bs : List Bind) : State := setGroup { bound bs with aops := [aop 9 (.pages [] []) .pending] } gh
theorem wit_CollectiveIssueMore :
    Clear (.collPost 0 1 0) (busyH []) gh e0 ∧ foundAt (busyH []) gh 0 = .closed ∧ handleSt (busyH []) gh 1 = .pending ∧
    Clear (.collAgree 0 1 0) (busyH [bind0 (.broken 0x145)]) gh e0 ∧ foundAt (busyH [bind0 (.broken 0x145)]) gh 0 = .failed 0x145 none ∧
    handleSt (busyH [bind0 (.broken 0x145)]) gh 1 = .pending ∧ Clear (.collFire 0 0 96) (bound [fired]) g0 e0 ∧
    foundAt (bound [fired]) g0 0 = .open_ ∧ fired.chunks[0]? = some ⟨0, 1, true, [], none, false, [], false⟩ ∧
    (bindOf (bound [{ bind0 .open_ with chunks := [] }]) 0 0).map (fun b => b.chunks[0]?) = some none ∧
    Clear (.collAgree 0 1 0) (bound [bind0 (.agreeing 0x149)]) g0 e0 ∧ foundAt (bound [bind0 (.agreeing 0x149)]) g0 0 = .failed 0x149 none ∧
    bindOf (bound [bind0 (.agreeing 0x149)]) (bindCtx (bound [bind0 (.agreeing 0x149)]) g0) 0 = some (bind0 (.agreeing 0x149)) ∧
    handleSt (bound [bind0 (.agreeing 0x149)]) g0 1 ≠ .pending ∧ FreshId (bound [bind0 (.agreeing 0x149)]) :=
  ⟨clear_of (by decide +kernel), by decide +kernel, by decide +kernel, clear_of (by decide +kernel), by decide +kernel, by decide +kernel,
    clear_of (by decide +kernel), by decide +kernel, by decide +kernel, by decide +kernel, clear_of (by decide +kernel), by decide +kernel,
    by decide +kernel, by decide +kernel, by constructor <;> decide +kernel⟩

theorem wit_SystemRegisterFields : groupOf base g0.gid = some g0 ∧ KeysOk base.schk ∧ KeysOk base.shadow ∧ KeysOk base.lrank ∧ KeysOk base.scope ∧
    CoresOk base ∧ ({ g0 with core := 288 } : Group).core ≠ g0.core ∧ ({ g0 with ctxid := 1 } : Group).ctxid ≠ g0.ctxid ∧ teamOf base g0.team = some t0 ∧ g0.path.length ≤ 8 ∧
    t0.x < 65536 ∧ t0.y < 65536 ∧ t0.z < 65536 ∧ t0.lin < 2 ^ 32 :=
  ⟨by decide +kernel, by simp only [KeysOk]; decide +kernel, by simp only [KeysOk]; decide +kernel, by simp only [KeysOk]; decide +kernel,
    by simp only [KeysOk]; decide +kernel, by simp only [CoresOk, KeysOk]; decide +kernel, by decide +kernel⟩
/-- XLATE follows no page-table write that is still to be performed. -/
theorem wit_XlateUnheld : let x := fun l => translate base (.core g0.core) g0.ctxid true .probe (readPair base g0 l 6) 1
    let passed := (lanesOf e0.mask).filterMap (fun l => match x l with
      | .ok y => some (l, readPair base g0 l 6, y)
      | _ => none)
    let loads := passed.map (accOf base g0 ⟨.load false, 1, fun l => (readPair base g0 l 6, x l), false, noData, noWrites, fun _ => false⟩)
    ptWrites base loads (afterOf base g0 e0.mask (.load false) loads) = [] := by decide +kernel
/-- A result on its way to v4 of the group's lanes. -/
def gRes : Group := { g0 with pend := [⟨.v 4, 255, [], none, 9⟩] }
theorem wit_ResultWritten : let s := withMop (at0 gRes) (mop .result [])
    groupOf s gRes.gid = some gRes ∧ (s.groups.map (fun h => h.gid)).Nodup ∧ (∀ h, h ∈ s.groups → awaitsTok h 9 255 = true → h = gRes) ∧
    s.saved = [] ∧ CoresOk s ∧ KeysOk (coreOf s gRes.core).rf ∧ (∀ l, bitAt (255 : Mask) l = true → (octetOf gRes l).isSome = true) ∧
    (∀ k, bitAt (255 : Mask) k = true → ∀ l, l < 64 → bitAt (255 : Mask) l = true → rfCell gRes k 4 = rfCell gRes l 4 → k = l) :=
  ⟨by decide +kernel, by decide +kernel, by decide +kernel, by decide +kernel, by simp only [CoresOk, KeysOk]; decide +kernel,
    by simp only [KeysOk]; decide +kernel, lanes_of (by decide +kernel), lanes_of (by decide +kernel)⟩
/-- What the further clauses about stores, windows and copies ask of the machine. -/
theorem wit_StoresMore :
    let s := withMop base (mop .store [acc (.ten 0xFFC) 0 4])
    let w := withMop base (mop .store [acc (.win 1 1 0) 0 4])
    (∀ b, b ∈ (mop .store [acc (.ten 0xFFC) 0 4]).accs → b.stale = false) ∧ CoresOk s ∧
    nearWrite w (mop .store [acc (.win 1 1 0) 0 4]) (acc (.win 1 1 0) 0 4) = false ∧
    tileRecord w (.lane (mop .store [acc (.win 1 1 0) 0 4]).id 0) = none ∧ 1 ≠ (mop .store []).core ∧ (acc (.win 1 1 0) 0 4).reached = false ∧
    Memory.wf (coreOf w 1).spad = true ∧ CoresOk w ∧
    (mop (.ratom 0 0) [acc (.ten 0) 0x4050000000000000 4]).flights.any (fun f => f.idx == 0) = false ∧
    nearMeets (copying tens fillDesc) 0 (.ten 0x80) 8 = false ∧ nearMeets (copying tens desc) 0 (.ten 0x40) 8 = false ∧
    nearMeets (moving true) 0 (.ten 0x7FE0) 32 = false ∧ (moveOp true).held = [] ∧ (copying ranked farDesc).lost = false ∧
    srcAddr farDesc 0 = none ∧ aopOf (copying ranked farDesc) 9 = some (aop 9 (.copy 0 farDesc) .pending) ∧ (aop 9 (.copy 0 farDesc) .pending).got = [] ∧
    (∀ a, a ∈ (aop 9 (.copy 0 farDesc) .pending).after ++ (aop 9 (.copy 0 farDesc) .pending).deps → gone (copying ranked farDesc) a = true) := by
  simp only [CoresOk, KeysOk]
  decide +kernel
/-- A filled element for another rank has been gathered; the read at 0x40 of an element is complete and its destination is elsewhere. -/
def gathered : State := copying ranked farDesc
def gotFar : AOp := { aop 9 (.copy 0 farDesc) .pending with got := [(0, [0xFF], false)] }
theorem wit_GatheredElement : aopOf { gathered with aops := [gotFar] } 9 = some gotFar ∧
    gotFar.got.find? (fun h => h.1 == 0) = some (0, [0xFF], false) ∧ isRemote { gathered with aops := [gotFar] } 0 (dstAddr farDesc 0) = true ∧
    spaceCheck (dstAddr farDesc 0) = none ∧
    route { gathered with aops := [gotFar] } 0 (dstAddr farDesc 0) = .ok 1 0 (insAll [rankPtrAddr base 0 / 64] [0x100028 / 64]) := by decide +kernel
/-- A load of core 0 that waits and was translated through a sector; another that can be performed keeps the core waiting. -/
def translated : State := withMop base { mop (.load false) [{ acc (.ctl 0x6000) 0 4 with sectors := [0x180] }] with after := [] }
theorem wit_Acknowledgements : agentBusy (giveBack base 5 0x180) (.core 5) 0x180 = false ∧ agentBusy (giveBack translated 0 0x180) (.core 0) 0x180 = true ∧
    bootStopped base = false ∧ ownAgent (.core 5) = true ∧ DirOk base := by
  simp only [DirOk, KeysOk]
  decide +kernel
/-- The mirror of sector 0x180 is not yet acknowledged. -/
def mirrored : State := { apSet base 0 0x8000000000010000 with mirrorOwed := [0x180] }
theorem wit_MirrorWaits : mirrorWaits (writeBack (mergeBlend mirrored 0x180) 0x180) 0x180 = true ∧
    mirrorWaits (writeBack (mergeBlend base 0x180) 0x180) 0x180 = false ∧ isLost mirrored 1 = false ∧ mirrored.lost = false ∧
    bootStopped mirrored = false ∧ isOurs mirrored 0x180 = true ∧ ownedNot mirrored 1 0x180 = false ∧ hasMirror mirrored 0x180 = true ∧
    Memory.wf mirrored.ctl = true ∧ DirOk mirrored := by
  simp only [DirOk, KeysOk]
  decide +kernel
/-- A save of a halted core waits; a restore whose area's home, package 1, is being rebuilt waits. -/
def areaAway : State := { restoring with
  ap := (apSet (apSet restoring 0 0x8000000000010000) 0xF000 2).ap, saved := [{ save0 with area := 2 ^ 33 }] }
theorem wit_PreemptionMore : coreStopped (saving 5 g0) 0 = false ∧ coreStopped (modCore (saving 5 g0) 0 (fun c => { c with halted := true })) 0 = true ∧
    areaHeld restoring 0 0 = false ∧ areaHeld areaAway 0 0 = true ∧ areaBad areaAway 0 0 = false ∧ savedAll areaAway 0 0 = some { save0 with area := 2 ^ 33 } := by
  decide +kernel
/-- Port 0 has swapped a lane already. -/
theorem wit_SwapAgain : (apWord (apSet base 0x12000 0x4000000000000000) (0x12000 + 16 * 0)).getLsbD 62 = true ∧
    (0x8100000000200400 : DWord) &&& 0x3CFFFFFFFF000000 = 0 ∧ (portOf base 0).proposal ≠ some (2, 256) := by decide +kernel
/-- Two members, packages 0 and 1 of one paddock; this one leads or does not. -/
def pair (st : BState) (pos : Nat) : Bind := { bind0 st with
  pos := pos, ranks := if pos = 0 then [(0, 0), (1, 1)] else [(1, 1), (0, 0)] }
def paired (b : Bind) : State := apSet (bound [b]) 0x8000 3
theorem wit_Agreement :
    (∀ b, b ∈ [pair .open_ 1, { pair .open_ 1 with cancelling := true }, pair (.broken 0x145) 1, pair .closed 1, { pair .closed 1 with committed := true }] →
      bindOf (paired b) 0 0 = some b ∧ leader (paired b) b ≠ b.pos) ∧
    aopOf (paired (pair .open_ 1)) (pair .open_ 1).post = none ∧ bindOf base 0 0 = none ∧
    (∀ b, b ∈ [pair (.agreeing 0x149) 0, { pair (.agreeing 0x149) 0 with progress := [(1, none)] }] →
      bindOf (paired b) 0 0 = some b ∧ leader (paired b) b = b.pos ∧ otherMembers (paired b) b = [1]) ∧
    (∃ r, r ∈ (pair (.agreeing 0x149) 0).ranks ∧ r.1 = 1) ∧
    bindOf (paired (pair (.agreeing 0x149) 0)) 0 0 = some (pair (.agreeing 0x149) 0) :=
  ⟨by decide +kernel, by decide +kernel, by decide +kernel, by decide +kernel, ⟨(1, 1), by decide +kernel⟩, by decide +kernel⟩
/-! ## Witnesses: the statements about steps, checks and traps -/

/-- The bed itself, with an ADD placed; and one whose word is reserved. -/
def first (w : Word) : State := bed State.reset w
def picked (w : Word) : State := { first w with sel := some ⟨3, 0, 0, 255, []⟩, cores := (modCore (first w) 0 (fun c => { c with issueq := [] })).cores }
theorem fetch_of {s : State} {g : Group} {pc : DWord} {w : Word} (h : (match fetchWord s g pc with
    | .word v _ _ => v == w
    | _ => false) = true) : ∃ ss c, fetchWord s g pc = .word w ss c := by
  cases hf : fetchWord s g pc with
  | word v ss c => rw [hf] at h; exact ⟨ss, c, by rw [← beq_iff_eq.1 h]⟩
  | fault _ => rw [hf] at h; cases h
  | held _ => rw [hf] at h; cases h
theorem at_of {r : XRes} {p : Place} (h : (match r with
    | .ok x => x.at_ == p
    | _ => false) = true) : ∃ x, r = .ok x ∧ x.at_ = p := by
  cases r with
  | ok x => exact ⟨x, rfl, by simpa using h⟩
  | fault _ => cases h
  | held _ => cases h
theorem wit_StepRunsDecoded : ∀ w, w = (0x048A1440 : Word) ∨ w = 0 →
    (first w).powered = true ∧ (first w).agenda = [] ∧ (0 : Nat) = (first w).turn ∧ (coreOf (first w) 0).issueq ≠ [] ∧
    coreStopped (first w) 0 = false ∧ takePick { first w with agenda := [] } 0 = some (picked w) ∧ selected (picked w) = some (g0, e0) ∧
    g0.halted = false ∧ (∃ ss c, fetchWord (picked w) g0 0 = .word w ss c) ∧ heldWord (picked w) g0 0 = none ∧
    (∃ x, fetchAt (picked w) 0 0 true 0 = .ok x ∧ x.at_ = .ctl 0x5000) ∧ ownedAway (picked w) (0x5000 / 64) = false ∧ (picked w).ctlBad = [] ∧ (picked w).ctlPoison = [] := by
  intro w h
  rcases h with rfl | rfl <;>
    exact ⟨by decide +kernel, by decide +kernel, by decide +kernel, by decide +kernel, by decide +kernel, by decide +kernel, by decide +kernel,
      by decide +kernel, fetch_of (by decide +kernel), by decide +kernel, at_of (by decide +kernel), by decide +kernel⟩
theorem wit_DecodeEncode : encode (.add 7 1 95 127 96) = some 0xE437FFE0 ∧ decode 0xE437FFE0 = .ok (.add 7 1 95 127 96) ∧ decode 0 = .illegalOpcode ∧
    decode 0x02C00082 = .badOperand (.exit 0) := by decide +kernel
theorem wit_MemoryInvariant : MemoriesOk (first 0x048A1440) ∧ ∃ t, step (first 0x048A1440) = .next t :=
  ⟨by constructor <;> decide +kernel, next_of (by decide +kernel)⟩
theorem wit_RegisterAccess : (g0.k.map Prod.fst).Pairwise (· < ·) ∧ (g0.m.map Prod.fst).Pairwise (· < ·) ∧ (base.cores.map Prod.fst).Pairwise (· < ·) ∧
    ((coreOf base g0.core).rf.map Prod.fst).Pairwise (· < ·) ∧ (octetOf g0 7).isSome = true := by decide +kernel

/-- One of each cause of R147: on a control core, at user level, ill formed, above the budget, and a register read too early. -/
def g288 : Group := { g0 with core := 288 }
def g8 : Group := { g0 with vwb := 8 }
def early5 : Group := { g0 with pend := [⟨.v 5, 255, [], some 9, 0⟩] }
theorem wit_IssueChecks :
    (∀ x : Group × Instr, x ∈ [(g288, Instr.macq 0), (gu, .halt 0), (g0, .shli 0 32 4 5), (g8, .add 0 0 95 4 5), (early5, .mov 0 4 5)] →
      selected (at0 x.1) = some (x.1, e0) ∧ (encodeFields x.2).isSome = true ∧ (x.2.wf = true → busy (at0 x.1) x.1 x.2 e0 = false)) ∧
    DebugOff base ∧ needsMatrix (.macq 0) = true ∧ kernelOnly (.halt 0) = true ∧ gu.kernel = false ∧ Instr.wf (.shli 0 32 4 5) = false ∧
    .v 103 ∈ writesOf (at0 g8) g8 (.add 0 0 95 4 5) ∧ schkOn { at0 early5 with schk := [(0, true)] } early5 = true ∧
    tooEarly { at0 early5 with schk := [(0, true)] } early5 (.mov 0 4 5) e0.mask = true :=
  ⟨by decide +kernel, debugOff_of (by decide +kernel), by decide +kernel⟩

/-- A conversion with ROUND = 2, out of the budget: its lanes are to draw with the SRCNT of this issue. Slot 0 rounds stochastically. -/
def rounding : State := { at0 g8 with grids := [{ bedGrid 1 with rec_ := List.replicate 24 0 ++ [0x00002B6700080002] }] }
theorem wit_IssueChecksDraw : selected rounding = some (g8, e0) ∧ (encodeFields (.cvts 0 4 95 0 0)).isSome = true ∧
    Instr.wf (.cvts 0 4 95 0 0) = true ∧ busy rounding g8 (.cvts 0 4 95 0 0) e0 = false ∧ drawsRandom rounding g8 (.cvts 0 4 95 0 0) = true ∧
    .v 103 ∈ readsOf rounding g8 (.cvts 0 4 95 0 0) ∧ barNumOk rounding g8 (.cvts 0 4 95 0 0) = true ∧
    selected framed = some (gt, e0) ∧ barNumOk framed gt (.barSync 0 31) = false :=
  ⟨by decide +kernel, by decide +kernel, by decide +kernel, by decide +kernel, by decide +kernel, by decide +kernel, by decide +kernel,
    by decide +kernel⟩

/-- Tenant 0's trap table at 0x40000: entry 0x002 has so much; or the base word's V bit is 0. -/
def tabled (v : Bool) (entry : DWord) : State := putWords (apSet base 0xD000 (if v then 0x8000000000040000 else 0x40000)) 0x40010 [entry]
def raise2 : Raise := ⟨255, 2, 64, 0⟩
/-- The group is in its local handler, with F = lanes 0 to 7 or 0 to 3, to return to XPC. -/
def handling (xpc xl : DWord) (f : Mask) : Group := { g0 with xpc := xpc, xlmask := xl, ltrap := some ⟨f, false, 0, 8, 5, []⟩ }
theorem wit_TrapEntry :
    dropAhead (applyDue base 3 true) 3 = base ∧
    dropAhead (applyDue (setGroup (tabled true 0) (handling 0x100 0x0F 255)) 3 true) 3 = setGroup (tabled true 0) (handling 0x100 0x0F 255) ∧
    (apWord (setGroup (tabled true 0) (handling 0x100 0x0F 255)) 0xD000).getLsbD 63 = true ∧ raise2.lanes ≠ 0 ∧ raise2.lanes &&& ~~~g0.live = 0 ∧
    (∀ v a, v = true ∨ v = false → a = 0 ∨ a = 1 ∨ a = 2 ∨ a = 3 → groupOf (tabled v (BitVec.ofNat 64 (a * 2 ^ 62 + 0x40))) 3 = some g0 ∧
      trapTenant (tabled v (BitVec.ofNat 64 (a * 2 ^ 62 + 0x40))) g0 = 0 ∧
      (apWord (tabled v (BitVec.ofNat 64 (a * 2 ^ 62 + 0x40))) 0xD000).getLsbD 63 = v ∧
      trapEntry (tabled v (BitVec.ofNat 64 (a * 2 ^ 62 + 0x40))) 0 raise2.code = (a, 0x100, false)) ∧
    (∀ l, g0.ltrap ≠ some l) ∧ raise2.lanes &&& ~~~(255 : Mask) = 0 ∧ teamOf base g0.team = some t0 ∧ g0.core < 304 ∧ g0.gslot < 1024 ∧
    g0.path.length ≤ 8 ∧ g0.num < 16 ∧ t0.lin < 2 ^ 32 := by
  refine ⟨by decide +kernel, by decide +kernel, by decide +kernel, by decide +kernel, by decide +kernel, fun v a hv ha => ?_,
    by simp [g0, bedGroup], by decide +kernel⟩
  rcases hv with rfl | rfl <;> rcases ha with rfl | rfl | rfl | rfl <;>
    decide +kernel
/-- Lanes 0 to 3 are in the handler, lanes 4 to 7 are not. -/
def eIn : Ent := { e0 with mask := 15 }
def gOut : Group := { handling 0x100 0xFF 15 with ents := [eIn, { e0 with mask := 0xF0, pc := 64 }] }
theorem wit_TrapReturn : Clear (.eret 0) base g0 e0 ∧ g0.ltrap = none ∧
    (∀ g, g ∈ [handling 0x102 0x0F 255, handling 0x100 0x0F 255] → Clear (.eret 0) (at0 g) g e0) ∧ Clear (.eret 0) (at0 gOut) gOut eIn ∧
    bitsOf (0x102 : DWord) 0 2 ≠ 0 ∧ (0xFF : DWord) &&& 255 &&& ~~~15 ≠ 0 ∧ bitsOf (0x100 : DWord) 0 2 = 0 ∧
    (0x0F : DWord) &&& 255 &&& ~~~255 = 0 := by
  refine ⟨clear_of (by decide +kernel), by decide +kernel, fun g h => clear_of ?_, clear_of (by decide +kernel), by decide +kernel⟩
  revert g
  decide +kernel
/-- Writes that are pending: fixed-latency at opportunity n, or scoreboarded. -/
def pw (d : Dst) (due : Option Nat) : PWrite := ⟨d, 255, [(0, 7)], due, 0⟩
theorem wit_PendingWrites : (∀ ws, ws ∈ [[pw (.k 5) (some 1)], [pw (.k 5) (some 2)], [pw (.k 5) none], [pw (.k 5) none, pw (.k 5) (some 1)],
      [pw (.k 5) (some 1), pw (.k 5) (some 1)], [pw (.k 5) (some 2), pw (.k 5) (some 1)]] →
      groupOf (at0 { g0 with pend := ws }) g0.gid = some { g0 with pend := ws }) ∧ g0.opp = 0 ∧ sameDst (pw (.k 5) none) (pw (.k 5) (some 1)) = true := by
  decide +kernel
/-- A later write of v4 in lanes 0 to 7 waits, in lanes 0 to 3 alone, for an earlier one that is scoreboarded. -/
theorem wit_PendingOverlap : let w : PWrite := ⟨.v 4, 0x0F, [], none, 9⟩
    let v : PWrite := ⟨.v 4, 0xFF, [(0, 7)], some 1, 0⟩
    groupOf (at0 { g0 with pend := [w, v] }) 3 = some { g0 with pend := [w, v] } ∧ v.lanes &&& w.lanes ≠ 0 ∧ v.lanes &&& ~~~w.lanes ≠ 0 ∧ 1 ≤ g0.opp + 1 := by
  decide +kernel
/-- Lane 0 still reads what v5 held before a write that is not due. -/
theorem wit_OldValue : readReg base { g0 with pend := [⟨.old 5, 1, [(0, 77)], some 9, 0⟩] } 0 5 = 77 ∧
    readReg base { g0 with pend := [⟨.old 5, 1, [(0, 77)], some 9, 0⟩] } 1 5 = 0 := by decide +kernel
theorem wit_OnlyPowerOffStops : base.powered = true ∧ ({ base with powered := false } : State).powered = false := by decide +kernel
theorem wit_TranslationCauses : spaceCheck 0xC000000000000000 = some 0x040 ∧ spaceCheck 0x4001000000000000 = some 0x041 ∧
    spaceCheck 0x4050000000000080 = none ∧ bitsOf (0x4050000000000080 : DWord) 52 10 ≠ (mapGet 0 base.lrank 0).toNat ∧
    spaceCheck 0x8001000000000000 = some 0x041 ∧ bitsOf (0x8001000000000000 : DWord) 62 2 = 2 := by decide +kernel
/-! ## Words that the spec prints (every constructor's word is in Decode.lean) -/

/-- Every word of the list decodes to the instruction beside it, and is that instruction's word. -/
def Reads (xs : List (Word × Instr)) : Bool := xs.all (fun p => decode p.1 == .ok p.2 && encode p.2 == some p.1)
/-- Words that the spec's own tables and programs print (07, 08 to 14, 24). -/
theorem decodes_examples : Reads [
  (0x00600048, .blk 0 200), (0x54000000, .lane 2 0 0), (0x1800B100, .ld 0 0 2 98 0), (0x00C00104, .bz 0 4 2), (0x08C10009, .movi 0 9 4),
  (0x00800003, .br 0 3), (0x48C30000, .movi 2 0 12), (0x8B83016A, .imad 4 12 2 106), (0x0B43B60C, .lea 0 14 108 12),
  (0x8C84046B, .fmul 4 16 8 107), (0x13048802, .cvthF2bl 0 18 16), (0x12C51400, .cvtb 0 20 40 0), (0x14800482, .voteBallot 0 0 9),
  (0x49C28160, .isetEq 2 10 2 96), (0x1542C500, .redAdd 0 0 11 10), (0x1A824A01, .cadd 0 9 20 1), (0x1AC04000, .fence 0 1),
  (0x1B00B801, .copy 0 2 112 1), (0x1B400100, .hwait 0 2), (0x1B400182, .hcancel 0 3), (0x1E58BF80, .deq 0 98 127), (0x1C000000, .macq 0),
  (0x1D000000, .mzero 0 0), (0x1C803C7A, .mma 0 0 0 120 122), (0x1D803E00, .mstorea 0 0 124), (0x1C400000, .mrel 0), (0x16004002, .barSync 0 1),
  (0x19C63F60, .ldsp 0 24 126 96), (0x1E00C000, .collPost 0 3 0), (0x1F068008, .srd 0 8 26), (0x5F9D0582, .kset 2 20 11), (0x01003A02, .bnz 0 2 116),
  (0x1F80C000, .trap 0 3), (0x1F800001, .eret 0), (0x1F800004, .isync 0), (0x1F803286, .sleep 0 101), (0x1F800007, .halt 0),
  (0x1F823C08, .ctxsave 0 8 120), (0x1F827D09, .ctxload 0 9 122), (0x190ABB28, .st 0 0 42 118 40), (0x44AA54FF, .addi 2 255 41 41),
  (0x012014FB, .bnz 0 251 41), (0x1AC00001, .fenceTc 0), (0x0F80C203, .hmax2P 0 0 3 4)] = true := by decide +kernel

/-! ## Terms that the well-formedness checks refuse, one for each check (07 R139, R141, R142) -/

/-- One for each kind of register operand: a uniform destination, an odd pair, a uniform pair, k0:k1, runs, odd sources, a vector where a
uniform is asked for, k30:k31 where a register follows. -/
theorem illformed_registers : ([.add 0 0 96 4 5, .fadd 0 127 4 5, .add64 0 5 4 6, .add64 0 96 4 6, .deq 0 5 96, .deq 0 97 96, .deq 0 96 97,
  .ffma 0 96 4 5, .ldB64 0 0 5 6 8, .ld 0 0 4 7 8, .jmp 0 5, .bcast 0 0 4 5 6, .winb 0 3, .copy 0 2 99 1, .icinv 0 0 126, .launch 0 1 4,
  .mma 0 0 0 4 100, .mma 0 0 0 121 100, .collFire 0 0 4, .cvtb 0 96 32 0, .cvts 0 96 5 0 0] : List Instr).all (fun i => !i.wf) =
    true := by decide +kernel
/-- One for each further condition on a field. -/
theorem illformed_fields : ([.shli 0 32 4 5, .shri 0 32 4 5, .shrai 0 32 4 5, .regrp 0 4 8 9, .winb 0 4, .atom 0 4 6 14, .atom 0 5 6 11, .atom 0 6 6 13,
  .ratom 0 4 6 14, .cadd 0 4 6 3, .fence 0 14, .pref 0 2 6, .srd 0 14 4, .srd 0 8 5, .swr 0 128 4, .swr 0 6 5] : List Instr).all (fun i => !i.wf) =
    true := by decide +kernel
/-- The same with each operand mended. -/
theorem wellformed_forms : ([.add 0 0 95 127 96, .add64 0 94 126 6, .deq 0 98 127, .ldB64 0 0 94 126 127, .jmp 0 126, .bcast 0 0 4 5 96, .icinv 0 0 124,
  .launch 0 1 98, .mma 0 0 7 122 127, .shli 0 31 4 5, .regrp 0 4 8 8, .winb 0 8, .atom 0 4 6 13, .cadd 0 4 6 2, .fence 0 13, .pref 0 1 6, .srd 0 13 4,
  .swr 0 127 4] : List Instr).all Instr.wf = true := by decide +kernel

/-! ## Results from the spec's tables and worked examples -/

/-- What the newest pending write of group 3 will put in lane 0. -/
def result (o : Host.Outcome State Fault Refusal) : Option DWord := match o with
  | .next s => (groupOf s 3).bind (fun g => g.pend.getLast?.bind (fun w => (w.vals.find? (fun p => p.1 == 0)).map (·.2)))
  | _ => none
/-- One instruction on v4, v5 (and v6) of every lane. -/
def run1 (i : Instr) (d a b : Word) : Option DWord :=
  result (exec i ((List.range 8).foldl (fun s l => writeRf (writeRf (writeRf s g0 l 4 d) g0 l 5 a) g0 l 6 b) base))
/-- The table of R168. -/
theorem test_div_rem : (([(7, 2, 3, 1, 3, 1), (0xFFFFFFF9, 2, 0xFFFFFFFD, 0xFFFFFFFF, 0x7FFFFFFC, 1), (5, 0, 0xFFFFFFFF, 5, 0xFFFFFFFF, 5),
    (0x80000000, 0xFFFFFFFF, 0x80000000, 0, 0, 0x80000000)] : List (Word × Word × DWord × DWord × DWord × DWord)).all (fun p =>
    match p with
    | (a, b, ds, rs, du, ru) => run1 (.div 0 0 4 5 6) 0 a b == some ds && run1 (.rem 0 0 4 5 6) 0 a b == some rs &&
      run1 (.div 0 1 4 5 6) 0 a b == some du && run1 (.rem 0 1 4 5 6) 0 a b == some ru)) = true := by decide +kernel
/-- The examples of R171. -/
theorem test_bfx : run1 (.bfx 0 4 5 6) 0 0x12345678 0x00000808 = some 0x56 ∧ run1 (.bfx 0 4 5 6) 0 0x12345678 0x00010410 = some 4 ∧
    run1 (.bfx 0 4 5 6) 0 0x12345678 0x00010C1C = some 1 := by decide +kernel
/-- IMAD, FMUL and CVTH.F2BL of 08's table for expert 1. -/
theorem test_router : run1 (.imad 0 4 5 6) 0 1 96 = some 96 ∧ run1 (.fmul 0 4 5 6) 0 0x3F400000 0x3E99999A = some 0x3E666667 ∧
    run1 (.cvthF2bl 0 4 5) 0 0x3E666667 0 = some 0x3E66 := by decide +kernel
/-- The examples of R186. -/
theorem test_cvti : run1 (.cvti 0 4 5 0 0 2) 0 0xC0200000 0 = some 0xFFFFFFFD ∧ run1 (.cvti 0 4 5 0 0 0) 0 0xC0200000 0 = some 0xFFFFFFFE ∧
    run1 (.cvti 0 4 5 0 0 1) 0 0xC0200000 0 = some 0xFFFFFFFE ∧ run1 (.cvti 0 4 5 1 1 0) 0 0xFFFFFFFF 0 = some 0x4F800000 := by decide +kernel
/-- The table of 06 on R120 and R126: T8, E5M2 and E4M3. -/
theorem test_roundings : encodeElem 5 false .rne (dec32 0x3F808000) = 0x40 ∧ encodeElem 5 false (.sr 0x0F82) (dec32 0x3F808000) = 0x41 ∧
    encodeElem 5 false .rne (dec32 0x3F840000) = 0x40 ∧ encodeElem 5 false .rne (dec32 0xC0400000) = 0xD8 ∧
    encodeElem 5 false .rne (dec32 0x459C4000) = 0x7F ∧ encodeElem 5 false .rne (dec32 0x358637BD) = 0x01 ∧
    encodeElem 4 false .rne (dec32 0x476A6000) = 0x7B ∧ encodeElem 4 false .rne (dec32 0x477A0000) = 0x7B ∧
    encodeElem 4 true .rne (dec32 0x477A0000) = 0x7C ∧ encodeElem 3 true .rne (dec32 0x43E80000) = 0x7E ∧
    encodeElem 3 true .rne (dec32 0x43EB0000) = 0x7F ∧ encodeElem 3 false .rne (dec32 0x43EB0000) = 0x7E := by decide +kernel
/-- Mix(1) of R129, and the tree of R136. -/
theorem test_mix : mix 1 = 0x0F82DBC3 ∧ drawU 0 0 0 1 = 3970 := by decide +kernel
theorem test_tree_sum : treeFold add32 5 [0x4B800000, 0x3F800000, 0x3F800000, 0x3F800000, 0x3F800000] = 0x4B800002 := by decide +kernel
/-- The slots of 06's router. -/
theorem test_slots : slotOk 0x0000000000010103 = true ∧ slotElem 0x0000000000010103 = 3 ∧ slotScale 0x0000000000010103 = true ∧
    slotBlk 0x0000000000010103 = 32 ∧ slotRound 0x00002B6700080002 = 2 ∧ slotSeed 0x00002B6700080002 = 0x2B67 := by decide +kernel
/-- The block of R187. -/
theorem test_cvtb : blockScale 3 ([0x40400000, 0xBF400000, 0x3A83126F].map dec32 ++ List.replicate 29 (dec32 0)) = 120 := by decide +kernel

end Sys2Proof.Tests
end

section
/-! SUPPORT. Sparse maps without the canonical form (a write leaves other keys in any order of the keys; where they rise, it is read back),
the bytes of a number, and a core after a change of one. -/

namespace Sys2Proof.Machine

open Sys2Proof.Claims

/-! ## Sparse maps whose keys rise -/

/-- A write at one key leaves every other key, in any order of the keys and whatever the reader's default. -/
theorem mapGet_mapSet_other {α : Type} [DecidableEq α] (d d' : α) {j k : Nat} (hjk : j ≠ k) (v : α) :
    ∀ m : SMap α, mapGet d' (mapSet d m k v) j = mapGet d' m j
  | [] => by
    unfold mapSet
    split
    · rfl
    · simp [mapGet, hjk.symm]
  | (i, w) :: rest => by
    have ih := mapGet_mapSet_other d d' hjk v rest
    simp only [mapSet]
    split
    · split
      · rfl
      · simp [mapGet, hjk.symm]
    · split
      · next hki =>
        subst hki
        split <;> simp [mapGet, hjk.symm]
      · simp [mapGet, ih]

/-- A value that is not the default is read back, in any order of the keys. -/
theorem mapGet_mapSet_self_of_ne {α : Type} [DecidableEq α] {d v : α} (hv : v ≠ d) (k : Nat) :
    ∀ m : SMap α, mapGet d (mapSet d m k v) k = v
  | [] => by simp [mapSet, hv, mapGet]
  | (i, w) :: rest => by
    have ih := mapGet_mapSet_self_of_ne hv k rest
    simp only [mapSet, if_neg hv]
    split
    · simp [mapGet]
    · split
      · simp [mapGet]
      · next hki => simp [mapGet, Ne.symm hki, ih]

/-- A key that is not listed reads as the default. -/
theorem mapGet_absent {α : Type} (d : α) {k : Nat} : ∀ {m : SMap α}, (∀ p ∈ m, p.1 ≠ k) → mapGet d m k = d
  | [], _ => rfl
  | (j, v) :: rest, h => by
    rw [mapGet, if_neg (h (j, v) (by simp))]
    exact mapGet_absent d fun p hp => h p (by simp [hp])

theorem keysOk_cons {α : Type} {j : Nat} {w : α} {rest : SMap α} :
    KeysOk ((j, w) :: rest) ↔ (∀ p ∈ rest, j < p.1) ∧ KeysOk rest := by
  simp [KeysOk, List.pairwise_cons]

/-- What a write leaves in a map is its own entry or was there. -/
theorem mem_mapSet {α : Type} [DecidableEq α] {d v : α} {k : Nat} {p : Nat × α} :
    ∀ {m : SMap α}, p ∈ mapSet d m k v → p.1 = k ∨ p ∈ m
  | [], h => by
    unfold mapSet at h
    split at h
    · cases h
    · simp at h; simp [h]
  | (j, w) :: rest, h => by
    have ih := mem_mapSet (d := d) (v := v) (k := k) (p := p) (m := rest)
    simp only [mapSet] at h
    split at h
    · split at h
      · exact .inr h
      · rcases List.mem_cons.mp h with rfl | h
        · exact .inl rfl
        · exact .inr h
    · split at h
      · split at h
        · exact .inr (List.mem_cons_of_mem _ h)
        · rcases List.mem_cons.mp h with rfl | h
          · exact .inl rfl
          · exact .inr (List.mem_cons_of_mem _ h)
      · rcases List.mem_cons.mp h with rfl | h
        · exact .inr (List.mem_cons_self ..)
        · exact (ih h).imp_right (List.mem_cons_of_mem _)

/-- A write keeps the keys rising. -/
theorem keysOk_mapSet {α : Type} [DecidableEq α] (d : α) (k : Nat) (v : α) :
    ∀ {m : SMap α}, KeysOk m → KeysOk (mapSet d m k v)
  | [], _ => by
    unfold mapSet
    split <;> simp [KeysOk]
  | (j, w) :: rest, h => by
    obtain ⟨hlow, hrest⟩ := keysOk_cons.mp h
    simp only [mapSet]
    split
    · next hkj =>
      split
      · exact h
      · refine keysOk_cons.mpr ⟨fun p hp => ?_, h⟩
        rcases List.mem_cons.mp hp with rfl | hp
        · exact hkj
        · exact Nat.lt_trans hkj (hlow p hp)
    · next hkj =>
      split
      · next hk =>
        subst hk
        split
        · exact hrest
        · exact keysOk_cons.mpr ⟨hlow, hrest⟩
      · next hk =>
        refine keysOk_cons.mpr ⟨fun p hp => ?_, keysOk_mapSet d k v hrest⟩
        rcases mem_mapSet hp with hp | hp
        · omega
        · exact hlow p hp

/-- In a map whose keys rise, every value that is written is read back, the default too. -/
theorem mapGet_mapSet_self {α : Type} [DecidableEq α] (d : α) (k : Nat) (v : α) :
    ∀ {m : SMap α}, KeysOk m → mapGet d (mapSet d m k v) k = v
  | m, h => by
    by_cases hv : v = d
    · subst hv
      induction m with
      | nil => simp [mapSet, mapGet]
      | cons q rest ih =>
        obtain ⟨j, w⟩ := q
        obtain ⟨hlow, hrest⟩ := keysOk_cons.mp h
        simp only [mapSet, if_true]
        split
        · next hkj =>
          refine mapGet_absent v fun p hp => ?_
          rcases List.mem_cons.mp hp with rfl | hp
          · exact Nat.ne_of_gt hkj
          · exact Nat.ne_of_gt (Nat.lt_trans hkj (hlow p hp))
        · split
          · next hk => exact mapGet_absent v fun p hp => Nat.ne_of_gt (hk ▸ hlow p hp)
          · next hk => rw [mapGet, if_neg (Ne.symm hk), ih hrest]
    · exact mapGet_mapSet_self_of_ne hv k m

/-! ## Little-endian bytes (R4) -/

@[simp] theorem length_leBytes : ∀ n v : Nat, (leBytes n v).length = n
  | 0, _ => rfl
  | n + 1, v => by simp [leBytes, length_leBytes n]

theorem getD_leBytes : ∀ (n v : Nat) {i : Nat}, i < n → (leBytes n v).getD i 0 = BitVec.ofNat 8 (v / 256 ^ i)
  | 0, _, _, h => absurd h (Nat.not_lt_zero _)
  | n + 1, v, 0, _ => by simp [leBytes]
  | n + 1, v, i + 1, h => by
    rw [leBytes, List.getD_cons_succ, getD_leBytes n (v / 256) (Nat.lt_of_succ_lt_succ h), Nat.div_div_eq_div_mul, Nat.pow_succ']

/-- A byte of a memory to which a number has been written. -/
theorem memByte_memSetBytes_leBytes {m : Mem} (h : Memory.wf m = true) (a n v c : Nat) :
    memByte (memSetBytes m a (leBytes n v)) c =
      if a ≤ c ∧ c < a + n then BitVec.ofNat 8 (v / 256 ^ (c - a)) else memByte m c := by
  rw [memByte_memSetBytes _ h, length_leBytes]
  split
  · exact getD_leBytes n v (by omega)
  · rfl

/-! ## Cores -/

@[simp] theorem coreOf_modCore_other (s : State) {m n : Nat} (hmn : m ≠ n) (f : Core → Core) :
    coreOf (modCore s n f) m = coreOf s m := mapGet_mapSet_other _ _ hmn _ _

theorem coreOf_modCore_self {s : State} (h : CoresOk s) (n : Nat) (f : Core → Core) :
    coreOf (modCore s n f) n = f (coreOf s n) := mapGet_mapSet_self _ _ _ h

theorem coresOk_modCore {s : State} (h : CoresOk s) (n : Nat) (f : Core → Core) : CoresOk (modCore s n f) :=
  keysOk_mapSet _ _ _ h

end Sys2Proof.Machine
end

section
/-! SUPPORT. The control-space caches (R86): which fields their operations can change, and what they leave of one sector. -/

namespace Sys2Proof.Machine

/-! ## What changes in the caches' bookkeeping alone -/

/-- `s` with the caches' bookkeeping and the messages of `u`. -/
def withCaches (s u : State) : State :=
  { s with hold := u.hold, lines := u.lines, mirrorOwed := u.mirrorOwed, out := u.out, waitOut := u.waitOut }

/-- `u` differs from `s` in the caches' bookkeeping and in messages only: no byte of memory is another. -/
def CachesOnly (s u : State) : Prop := u = withCaches s u

theorem CachesOnly.eq {s u : State} (h : CachesOnly s u) : u = withCaches s u := h

theorem CachesOnly.refl (s : State) : CachesOnly s s := rfl

theorem CachesOnly.trans {s t u : State} (hst : CachesOnly s t) (htu : CachesOnly t u) : CachesOnly s u :=
  Eq.trans htu (congrArg (withCaches · u) hst.eq :)

theorem CachesOnly.ctl {s u : State} (h : CachesOnly s u) : u.ctl = s.ctl := (congrArg State.ctl h.eq :)
theorem CachesOnly.dir {s u : State} (h : CachesOnly s u) : u.dir = s.dir := (congrArg State.dir h.eq :)
theorem CachesOnly.ten {s u : State} (h : CachesOnly s u) : u.ten = s.ten := (congrArg State.ten h.eq :)
theorem CachesOnly.ops {s u : State} (h : CachesOnly s u) : u.ops = s.ops := (congrArg State.ops h.eq :)
theorem CachesOnly.heldWrites {s u : State} (h : CachesOnly s u) : u.heldWrites = s.heldWrites := (congrArg State.heldWrites h.eq :)

theorem cachesOnly_send (s : State) (m : Msg) : CachesOnly s (send s m) := by
  unfold send
  split
  · rfl
  · split <;> rfl

theorem cachesOnly_sendOnce (s : State) (m : Msg) : CachesOnly s (sendOnce s m) := by
  unfold sendOnce
  split
  · rfl
  · exact cachesOnly_send s m

theorem cachesOnly_setHold (s : State) (x : Nat) (h : Option CState) : CachesOnly s (setHold s x h) := rfl
theorem cachesOnly_setLines (s : State) (x : Nat) (ls : List (Nat × CState)) : CachesOnly s (setLines s x ls) := rfl

theorem cachesOnly_mirrorMark (s : State) (x : Nat) : CachesOnly s (mirrorMark s x) := by
  unfold mirrorMark
  split
  · exact cachesOnly_send s _
  · rfl

/-- R86: what a write takes of its sector for this package. -/
theorem cachesOnly_takeM (s : State) (x : Nat) : CachesOnly s (takeM s x) := by
  unfold takeM
  split
  · rfl
  · split
    · rfl
    · split
      · exact (cachesOnly_mirrorMark s x).trans (cachesOnly_setHold _ x _)
      · split <;> rfl

/-- The invalidations of a write that starts to wait are messages. -/
theorem cachesOnly_callBack (s : State) (x : Nat) (as : List Agent) : CachesOnly s (callBack s x as) := by
  refine List.foldlRecOn as _ (CachesOnly.refl s) fun t ht a _ => ht.trans ?_
  cases a with
  | pkg p => exact cachesOnly_sendOnce t _
  | _ => rfl

/-! ## One sector's lines and hold -/

/-- Cached lines are read back: a sector with none is not listed. -/
theorem linesOf_setLines_self (s : State) (x : Nat) {ls : List (Nat × CState)} (h : ls ≠ []) :
    linesOf (setLines s x ls) x = ls := mapGet_mapSet_self_of_ne h x s.lines

theorem linesOf_setLines_other (s : State) {x z : Nat} (hxz : x ≠ z) (ls : List (Nat × CState)) :
    linesOf (setLines s z ls) x = linesOf s x := mapGet_mapSet_other _ _ hxz ls s.lines

theorem holdOf_setHold_self (s : State) (x : Nat) (c : CState) : holdOf (setHold s x (some c)) x = some c :=
  mapGet_mapSet_self_of_ne (by simp) x s.hold

theorem holdOf_setHold_other (s : State) {x z : Nat} (hxz : x ≠ z) (h : Option CState) :
    holdOf (setHold s z h) x = holdOf s x := mapGet_mapSet_other _ _ hxz h s.hold

/-- From `s` to `u` only the caches' bookkeeping changes, and nothing of sector `x` in it. -/
structure SparesSector (x : Nat) (s u : State) : Prop where
  caches : CachesOnly s u
  lines : linesOf u x = linesOf s x
  hold : holdOf u x = holdOf s x

theorem SparesSector.refl (x : Nat) (s : State) : SparesSector x s s := ⟨.refl s, rfl, rfl⟩

theorem SparesSector.trans {x : Nat} {s t u : State} (hst : SparesSector x s t) (htu : SparesSector x t u) : SparesSector x s u :=
  ⟨hst.caches.trans htu.caches, htu.lines.trans hst.lines, htu.hold.trans hst.hold⟩

theorem sparesSector_send (x : Nat) (s : State) (m : Msg) : SparesSector x s (send s m) :=
  ⟨cachesOnly_send s m, by simp [linesOf], by simp [holdOf]⟩

theorem sparesSector_setLines {x z : Nat} (hxz : x ≠ z) (s : State) (ls : List (Nat × CState)) :
    SparesSector x s (setLines s z ls) := ⟨cachesOnly_setLines s z ls, linesOf_setLines_other s hxz ls, rfl⟩

theorem sparesSector_setHold {x z : Nat} (hxz : x ≠ z) (s : State) (h : Option CState) :
    SparesSector x s (setHold s z h) := ⟨cachesOnly_setHold s z h, rfl, holdOf_setHold_other s hxz h⟩

theorem sparesSector_mirrorSend (x : Nat) (s : State) (z : Nat) : SparesSector x s (mirrorSend s z) := by
  unfold mirrorSend
  split
  · exact SparesSector.trans (t := { s with mirrorOwed := s.mirrorOwed ++ [z] }) ⟨rfl, rfl, rfl⟩ (sparesSector_send x _ _)
  · exact .refl x s

theorem SparesSector.ite {x : Nat} {s t u : State} {c : Prop} [Decidable c] (ht : SparesSector x s t) (hu : SparesSector x s u) :
    SparesSector x s (if c then t else u) := by
  split
  · exact ht
  · exact hu

/-- What a cache gives up of one sector is nothing of another (R86): of a sector homed here the dirty data go to the mirror, of another
one they are written back to their home, which is told when the region's last copy leaves. -/
theorem sparesSector_giveUp {x z : Nat} (hxz : x ≠ z) (s : State) (c : Nat) : SparesSector x s (giveUp s c z) := by
  have hHome (t : State) : SparesSector x t (setHold (mirrorSend t z) z none) :=
    (sparesSector_mirrorSend x t z).trans (sparesSector_setHold hxz _ none)
  have hBack (t : State) (m : Msg) : SparesSector x t (setHold (send t m) z (some .s)) :=
    (sparesSector_send x t m).trans (sparesSector_setHold hxz _ _)
  unfold giveUp
  split
  · exact .refl x s
  · next k _ =>
    refine .trans (sparesSector_setLines hxz s ((linesOf s z).filter fun k => k.1 != c)) ?_
    refine .ite (.ite (hHome _) (.refl x _)) ?_
    refine .trans ?_ (.ite (.refl x _) (.trans (sparesSector_setHold hxz _ none) (.ite (.refl x _) (sparesSector_send x _ _))))
    exact .ite (hBack _ _) (.refl x _)

/-- R86: the room a cache makes for a sector costs it other 256-byte lines only. -/
theorem sparesSector_makeRoom (s : State) (c x : Nat) : SparesSector x s (makeRoom s c x) := by
  unfold makeRoom
  refine .ite (.refl x s) ?_
  · split
    · next t ht =>
      have htx : t ≠ x / 4 := by simpa using List.find?_some ht
      refine List.foldlRecOn _ _ (SparesSector.refl x s) fun u hu i hi => hu.trans (sparesSector_giveUp ?_ u c)
      have := List.mem_range.mp hi
      omega
    · exact .refl x s

/-- R86, R416: a write leaves its package M of a sector that is homed elsewhere or that has a mirror. -/
theorem holdOf_takeM {s : State} {x : Nat} (h : isOurs s x = false ∨ hasMirror s x = true) : holdOf (takeM s x) x = some .m := by
  unfold takeM
  split
  · exact holdOf_setHold_self s x .m
  · next hours =>
    have hmirror : hasMirror s x = true := h.resolve_left (by simpa using hours)
    split
    · next hm => simpa using hm
    · exact holdOf_setHold_self _ x .m

end Sys2Proof.Machine
end

section
/-! SUPPORT. Stores performed (R82, R299, R300): when a lane of a store goes on, what its write changes in each space, and the gate
that a write to a control sector passes or waits at. -/

namespace Sys2Proof.Machine

open Sys2Proof.Claims

theorem exec_storePerformed (id lane : Nat) (s : State) : exec (.storePerformed id lane) s = .next (storeLane s id lane) := rfl

/-! ## A lane of a store that goes on -/

/-- The lane's access `a` of the store `o` goes on: what it follows has been performed, and its translation stands. -/
structure StoreReady (s : State) (id lane : Nat) (o : MemOp) (a : Acc) : Prop where
  op : opOf s id = some o
  kind : o.kind = .store
  acc : o.accs.find? (fun y => y.lane == lane && !y.done) = some a
  fresh : ∀ b, b ∈ o.accs → b.stale = false
  followed : accFollowed s o a = true
  first : lowerFirst o a = false

/-- R85: nothing is translated again while no translation was dropped. -/
theorem renew_fresh (s : State) {o : MemOp} (h : ∀ b, b ∈ o.accs → b.stale = false) (m : Mask) : renew s o m = (s, some o) := by
  have hnone : o.accs.filter (fun a => a.stale && !a.done && bitAt m a.lane) = [] :=
    List.filter_eq_nil_iff.mpr fun b hb => by simp [h b hb]
  simp [renew, hnone]

theorem StoreReady.storeLane_ten {s : State} {id lane p : Nat} {o : MemOp} {a : Acc} (h : StoreReady s id lane o a)
    (hp : a.at_ = .ten p) : storeLane s id lane = tenLane s o a := by
  simp [storeLane, h.op, h.kind, h.acc, h.followed, h.first, renew_fresh s h.fresh, hp]

theorem StoreReady.storeLane_ctl {s : State} {id lane p : Nat} {o : MemOp} {a : Acc} (h : StoreReady s id lane o a)
    (hp : a.at_ = .ctl p) : storeLane s id lane = ctlLane s o a p := by
  simp [storeLane, h.op, h.kind, h.acc, h.followed, h.first, renew_fresh s h.fresh, hp]

/-- R299: a store to tensor memory that is not yet performed for its own core is so first. -/
theorem tenLane_reaches {s : State} {o : MemOp} {a : Acc} (hk : o.kind = .store) (hr : a.reached = false)
    (hn : nearWrite s o a = false) : tenLane s o a = reachLane s o a := by simp [tenLane, hk, hr, hn]

theorem tenLane_performs {s : State} {o : MemOp} {a : Acc} (hk : o.kind = .store) (hr : a.reached = true) :
    tenLane s o a = performLane s o a := by simp [tenLane, hk, hr]

/-- R412: the word of a place loses its marks with its last byte, when the lanes of one store cover it. -/
def clearCovered (s : State) (o : MemOp) (a : Acc) : State :=
  if opCovers o o.core (placeWord o.core a.at_) &&
      o.accs.all (fun b => b.done || b.lane == a.lane || placeWord o.core b.at_ != placeWord o.core a.at_)
  then markWord s o.core a.at_ false else s

theorem performLane_store {o : MemOp} (hk : o.kind = .store) (s : State) (a : Acc) : performLane s o a =
    laneDone (clearCovered (placeWrite s o.core o.ctx a.at_ (leBytes a.size a.data.toNat)) o a) o a := by
  simp [performLane, hk, isAtomKind, isPlainStore, newBytes, clearCovered]

/-! ## What a write to tensor memory changes -/

/-- `s` with the tensor memory, its marks, the cores and the L2 of `u`. -/
def withTensor (s u : State) : State :=
  { s with ten := u.ten, tenBad := u.tenBad, tenPoison := u.tenPoison, cores := u.cores, l2 := u.l2 }

/-- `u` differs from `s` in tensor memory and its marks, the L2, and the L1 of one core only. -/
structure TensorOnly (core : Nat) (s u : State) : Prop where
  frame : u = withTensor s u
  others : ∀ n, n ≠ core → coreOf u n = coreOf s n
  own : coreOf u core = { coreOf s core with l1 := (coreOf u core).l1 }
  cores : CoresOk u

theorem TensorOnly.trans {core : Nat} {s t u : State} (hst : TensorOnly core s t) (htu : TensorOnly core t u) :
    TensorOnly core s u where
  frame := htu.frame.trans (congrArg (withTensor · u) hst.frame :)
  others n hn := (htu.others n hn).trans (hst.others n hn)
  own := htu.own.trans (congrArg (fun c : Core => { c with l1 := (coreOf u core).l1 }) hst.own :)
  cores := htu.cores

theorem tensorOnly_modCore {s : State} (h : CoresOk s) (core : Nat) {f : Core → Core} (hf : ∀ c, f c = { c with l1 := (f c).l1 }) :
    TensorOnly core s (modCore s core f) where
  frame := rfl
  others _ hn := coreOf_modCore_other s hn f
  own := by rw [coreOf_modCore_self h]; exact hf _
  cores := coresOk_modCore h core f

/-- New contents of tensor memory, with new marks. -/
def setTensor (s : State) (ten : Mem) (marks : List Nat × List Nat) : State :=
  { s with ten := ten, tenBad := marks.1, tenPoison := marks.2 }

theorem tensorOnly_setTensor {s : State} (h : CoresOk s) (core : Nat) (ten : Mem) (marks : List Nat × List Nat) :
    TensorOnly core s (setTensor s ten marks) := ⟨rfl, fun _ _ => rfl, rfl, h⟩

/-- R78: bytes that pass through the L2 leave the memory as it is. -/
@[simp] theorem l2Touch_ten (s : State) (a n : Nat) (dirty : Bool) (t : Nat) : (l2Touch s a n dirty t).ten = s.ten :=
  List.foldlRecOn (motive := fun u : State => u.ten = s.ten) _ _ rfl fun _ hu _ _ => hu

theorem tensorOnly_l2Touch {s : State} (h : CoresOk s) (core a n : Nat) (dirty : Bool) (t : Nat) :
    TensorOnly core s (l2Touch s a n dirty t) :=
  List.foldlRecOn (motive := TensorOnly core s) _ _ ⟨rfl, fun _ _ => rfl, rfl, h⟩ fun _ hu _ _ =>
    hu.trans ⟨rfl, fun _ _ => rfl, rfl, hu.cores⟩

theorem tenPut_ten (s : State) (core : Nat) (ctx : BitVec 16) (a : Nat) (bs : List Byte) :
    (tenPut s core ctx a bs).ten = memSetBytes s.ten a bs := by simp [tenPut]

theorem tensorOnly_tenPut {s : State} (h : CoresOk s) (core : Nat) (ctx : BitVec 16) (a : Nat) (bs : List Byte) :
    TensorOnly core s (tenPut s core ctx a bs) := by
  have hmem := tensorOnly_setTensor h core (memSetBytes s.ten a bs) (coverRange s.tenBad s.tenPoison a bs.length)
  have hl2 := hmem.trans (tensorOnly_l2Touch hmem.cores core a bs.length true (tagOf s ctx))
  unfold tenPut
  refine hl2.trans (tensorOnly_modCore hl2.cores core ?_)
  exact fun _ => rfl

theorem clearCovered_ten {o : MemOp} {a : Acc} {p : Nat} (hp : a.at_ = .ten p) (s : State) : (clearCovered s o a).ten = s.ten := by
  unfold clearCovered
  split
  · simp [markWord, hp, canonPlace]
  · rfl

theorem tensorOnly_clearCovered {o : MemOp} {a : Acc} {p : Nat} (hp : a.at_ = .ten p) {s : State} (h : CoresOk s) :
    TensorOnly o.core s (clearCovered s o a) := by
  unfold clearCovered
  split
  · have hmarks := tensorOnly_setTensor h o.core s.ten (delNat (p / 32) s.tenBad, delNat (p / 32) s.tenPoison)
    simp only [markWord, hp, canonPlace]
    refine hmarks.trans (tensorOnly_modCore hmarks.cores o.core ?_)
    exact fun _ => rfl
  · exact ⟨rfl, fun _ _ => rfl, rfl, h⟩

/-! ## What a write to control memory changes -/

/-- `s` with the control memory, its marks, the caches' bookkeeping and the messages of `u`. -/
def withControl (s u : State) : State := { withCaches s u with ctl := u.ctl, ctlBad := u.ctlBad, ctlPoison := u.ctlPoison }

/-- `u` differs from `s` in those only. -/
def ControlOnly (s u : State) : Prop := u = withControl s u

theorem ControlOnly.eq {s u : State} (h : ControlOnly s u) : u = withControl s u := h

theorem ControlOnly.trans {s t u : State} (hst : ControlOnly s t) (htu : ControlOnly t u) : ControlOnly s u :=
  Eq.trans htu (congrArg (withControl · u) hst.eq :)

theorem CachesOnly.controlOnly {s u : State} (h : CachesOnly s u) : ControlOnly s u := (congrArg (withControl · u) h.eq :)

/-- R409, R412: bytes written within a sector that does not lie in Blend. -/
theorem ctlPut_eq {s : State} {a : Nat} (h : (dirOf s (a / 64)).blend = none) (bs : List Byte) :
    ctlPut s a bs = { s with ctl := memSetBytes s.ctl a bs, ctlBad := (coverRange s.ctlBad s.ctlPoison a bs.length).1,
                             ctlPoison := (coverRange s.ctlBad s.ctlPoison a bs.length).2 } := by
  simp [ctlPut, mergeBlend, h]

/-- The sector's line in the cache of a core that may write it now: M, and no other cache has one (R86). -/
def ownedBy (s : State) (core x : Nat) : State := setLines (takeM s x) x [(cacheOf core, .m)]

theorem cachesOnly_ownedBy (s : State) (core x : Nat) : CachesOnly s (ownedBy s core x) :=
  (cachesOnly_takeM s x).trans (cachesOnly_setLines _ x _)

/-- What a core's write of bytes to a control sector leaves (R86). -/
structure CoreWrote (s : State) (core a : Nat) (bs : List Byte) (u : State) : Prop where
  frame : ControlOnly s u
  ctl : u.ctl = memSetBytes s.ctl a bs
  lines : linesOf u (a / 64) = [(cacheOf core, .m)]
  hold : holdOf u (a / 64) = holdOf (takeM s (a / 64)) (a / 64)

/-- A core's write to a sector that is homed here or held alone: the core's cache takes the sector, the bytes are put, and the cache makes
room. -/
theorem coreWrote_corePut {s : State} {a : Nat} (haway : writeAway s (a / 64) = false) (hb : (dirOf s (a / 64)).blend = none)
    (core : Nat) (bs : List Byte) : CoreWrote s core a bs (corePut s core a bs) := by
  have hown := cachesOnly_ownedBy s core (a / 64)
  have hput := ctlPut_eq (s := ownedBy s core (a / 64)) (a := a) (by rw [dirOf, hown.dir]; exact hb) bs
  have hroom := sparesSector_makeRoom (ctlPut (ownedBy s core (a / 64)) a bs) (cacheOf core) (a / 64)
  have hu : corePut s core a bs = makeRoom (ctlPut (ownedBy s core (a / 64)) a bs) (cacheOf core) (a / 64) := by
    simp [corePut, heldBack, haway, ownedBy]
  rw [hu]
  refine ⟨hown.controlOnly.trans (.trans ?_ hroom.caches.controlOnly), ?_, ?_, ?_⟩
  · rw [hput]; rfl
  · rw [hroom.caches.ctl, hput, hown.ctl]
  · rw [hroom.lines, hput]
    exact linesOf_setLines_self (takeM s (a / 64)) (a / 64) (by simp)
  · rw [hroom.hold, hput]; rfl

/-- The marks that a store's last lane clears are no part of what its write is known to leave. -/
theorem coreWrote_clearCovered {s u : State} {core p : Nat} {bs : List Byte} {o : MemOp} {a : Acc} (h : CoreWrote s core p bs u)
    (hp : a.at_ = .ctl p) : CoreWrote s core p bs (clearCovered u o a) := by
  unfold clearCovered
  split
  · simp only [markWord, hp, canonPlace]
    exact ⟨h.frame.trans rfl, h.ctl, h.lines, h.hold⟩
  · exact h

/-! ## The gate of a write to a control sector (R82, R86, R87) -/

theorem writeAway_eq_false {s : State} {x : Nat} (h : isOurs s x = true ∨ holdsAlone s x = true) : writeAway s x = false := by
  rcases h with h | h <;> simp [writeAway, h]

/-- A home that answers is not under rebuild (R417). -/
theorem pkgHome_of_homeState {s : State} {p : Nat} (h : homeState s p = none) : pkgHome s (p / 64 / 2 ^ 27) = .served := by
  rw [Nat.div_div_eq_div_mul]
  unfold homeState at h
  split at h
  · cases h
  · cases h
  · next hs => simpa using hs

/-- No write waits on the sector: this one does not either. -/
theorem heldOn_eq_false {s : State} {x : Nat} (h : ∀ k, k ∈ s.heldWrites → k.sector ≠ x) (w : Writer) : heldOn s x w = false :=
  List.any_eq_false.mpr fun k hk => by simp [h k hk]

/-- A write that neither a home, a pin, data elsewhere nor its own wait keeps back is made when the sector is free, and starts to wait for
its completion point when it is not. -/
theorem writeGate_here {s : State} {x : Nat} {same : Bool} {w : Writer} (hhome : pkgHome s (x / 2 ^ 27) = .served)
    (hheld : heldOn s x w = false) (hpin : (pinnedSector s x && !same) = false) (haway : writeAway s x = false) :
    writeGate s x same w = if writeFree s x then none else some (startHeld s x w) := by
  rw [writeGate, hhome, hheld, hpin, haway]
  rfl

/-- No write waits on a sector that is free to write. -/
theorem heldWrites_of_writeFree {s : State} {x : Nat} (h : writeFree s x = true) : ∀ k, k ∈ s.heldWrites → k.sector ≠ x := by
  simp only [writeFree, Bool.and_eq_true, Bool.not_eq_true', List.any_eq_false, beq_iff_eq] at h
  exact h.1.2

theorem writeFree_eq_false {s : State} {x : Nat} (h : tHolders s x ≠ []) : writeFree s x = false := by
  simp [writeFree, h]

/-- R82: the state in which a write starts to wait, before the invalidations go out. -/
def waiting (s : State) (x : Nat) (w : Writer) : State :=
  { s with heldWrites := s.heldWrites ++ [⟨x, w, holders s x w, [], !(tHolders s x).isEmpty⟩] }

/-- A write that starts to wait changes no byte of memory and no access: beside it, there are only messages. -/
theorem cachesOnly_startHeld {s : State} {x : Nat} {w : Writer} (h : heldOn s x w = false) :
    CachesOnly (waiting s x w) (startHeld s x w) := by
  rw [startHeld, h]
  exact cachesOnly_callBack (waiting s x w) x (holders s x w)

/-- While the home is not lost, the gate alone decides: a lane that it lets pass is performed. -/
theorem ctlLane_store_passes {s : State} {o : MemOp} {a : Acc} {p : Nat} (hk : o.kind = .store) (hp : a.at_ = .ctl p)
    (hhome : homeState s p = none) (hgate : writeGate s (p / 64) (sameWrite s o a) (.lane o.id a.lane) = none) :
    ctlLane s o a p = performLane s o a := by
  simp [ctlLane, homeGone, hp, hhome, hk, hgate, ctlMade]

/-- And a lane that it stops leaves the state in which it waits. -/
theorem ctlLane_store_waits {s t : State} {o : MemOp} {a : Acc} {p : Nat} (hk : o.kind = .store) (hp : a.at_ = .ctl p)
    (hhome : homeState s p = none) (hgate : writeGate s (p / 64) (sameWrite s o a) (.lane o.id a.lane) = some t) :
    ctlLane s o a p = t := by
  simp [ctlLane, homeGone, hp, hhome, hk, hgate]

theorem pinned_ctl {s : State} {o : MemOp} {a : Acc} {p : Nat} (hp : a.at_ = .ctl p) (h : pinned s o a = false) :
    (pinnedSector s (p / 64) && !sameWrite s o a) = false := by
  simpa only [pinned, hp] using h

end Sys2Proof.Machine
end

section
/-! Stores are performed (R82, R84, R86, R299, R300). -/

namespace Sys2Proof.Proofs

open Sys2Proof.Machine Sys2Proof.Claims

/-- R82, R299: first for its own core, then for every agent. -/
theorem tensorStorePerformed : TensorStorePerformed := by
  intro id lane p s o a hop hk hacc hp hfresh hfol hlow
  have hready : StoreReady s id lane o a := ⟨hop, hk, hacc, hfresh, hfol, hlow⟩
  rw [exec_storePerformed, hready.storeLane_ten hp]
  constructor
  · intro hr hn
    rw [tenLane_reaches hk hr hn]
    simp [reachLane]
  · intro hr hwf hcores
    have hput := tensorOnly_tenPut hcores o.core o.ctx p (leBytes a.size a.data.toNat)
    have hwrote := hput.trans (tensorOnly_clearCovered (o := o) hp hput.cores)
    refine ⟨_, ?_, fun y => ?_, hwrote.frame, hwrote.others, hwrote.own⟩
    · rw [tenLane_performs hk hr, performLane_store hk, hp]; rfl
    · rw [clearCovered_ten hp, tenPut_ten, memByte_memSetBytes_leBytes hwf]

/-- R82, R86: performed at once where nothing holds the sector. -/
theorem controlStorePerformed : ControlStorePerformed := by
  intro id lane p s o a hop hk hacc hp hfresh hfol hlow hwf hhome hpin hhere hfree hblend
  have hready : StoreReady s id lane o a := ⟨hop, hk, hacc, hfresh, hfol, hlow⟩
  have haway := writeAway_eq_false hhere
  have hgate : writeGate s (p / 64) (sameWrite s o a) (.lane o.id a.lane) = none := by
    rw [writeGate_here (pkgHome_of_homeState hhome) (heldOn_eq_false (heldWrites_of_writeFree hfree) _) (pinned_ctl hp hpin) haway,
      if_pos hfree]
  have hwrote := coreWrote_clearCovered (o := o) (coreWrote_corePut haway hblend o.core (leBytes a.size a.data.toNat)) hp
  refine ⟨_, ?_, fun y => ?_, hwrote.lines, fun hm => ?_, hwrote.frame⟩
  · rw [exec_storePerformed, hready.storeLane_ctl hp, ctlLane_store_passes hk hp hhome hgate, performLane_store hk, hp]; rfl
  · rw [hwrote.ctl, memByte_memSetBytes_leBytes hwf]
  · rw [hwrote.hold, holdOf_takeM hm]

/-- R82, R84, R87: it waits where a walker holds the sector. -/
theorem controlStoreWaits : ControlStoreWaits := by
  intro id lane p s o a hop hk hacc hp hfresh hfol hlow hhome hpin hhere hT hnone
  have hready : StoreReady s id lane o a := ⟨hop, hk, hacc, hfresh, hfol, hlow⟩
  have hheld := heldOn_eq_false hnone (.lane o.id a.lane)
  have hgate : writeGate s (p / 64) (sameWrite s o a) (.lane o.id a.lane) = some (startHeld s (p / 64) (.lane o.id a.lane)) := by
    rw [writeGate_here (pkgHome_of_homeState hhome) hheld (pinned_ctl hp hpin) (writeAway_eq_false hhere)]
    simp [writeFree_eq_false hT]
  have hwaits := cachesOnly_startHeld hheld
  refine ⟨_, ?_, hwaits.ctl, hwaits.ten, hwaits.ops, ?_⟩
  · rw [exec_storePerformed, hready.storeLane_ctl hp, ctlLane_store_waits hk hp hhome hgate]
  · rw [hwaits.heldWrites]
    simp [waiting, holders, hT]

/-- Settles O30: a lane of a store goes on through `storeLane`; in tensor memory what `tenPut` leaves, in control space what the gate of a
write and `corePut` leave. -/
theorem storesPerformed : Obligations.StoresPerformed := by
  unfold Obligations.StoresPerformed
  exact ⟨tensorStorePerformed, controlStorePerformed, controlStoreWaits⟩

end Sys2Proof.Proofs
end

section
/-! SUPPORT. A check of R147 that fails: the cause it gives is raised in every lane of the entry, and nothing else happens. -/

namespace Sys2Proof.Machine

open Sys2Proof.Claims

/-- A cause raised in a group of a state, and then what follows at once: its team settles. -/
theorem settleOf_raiseAll {s : State} {g : Group} (h : groupOf s g.gid = some g) (e : Ent) (c : Cause) (x : DWord) :
    settleOf (raiseAll s g e c x) g.gid = trapped s g e c x := by
  simp only [settleOf, raiseAll, groupOf_raise h, trapped]

/-- An entry that waits for nothing, and whose instruction draws nothing at random: the first check that fails is the answer. -/
theorem precheck_trap {i : Instr} {s : State} {g : Group} {e : Ent} {c : Cause} (names : selected s = some (g, e)) (noDebug : DebugOff s)
    (idle : i.wf = true → busy s g i e = false) (fails : checkCause s g e i i.wf = some c)
    (steady : i.wf = false ∨ drawsRandom s g i = false) : precheck i i.wf s = .trap (raiseAll s g e c 0) g.gid := by
  have hidle : (i.wf && barNumOk s g i && busy s g i e) = false := by
    cases hw : i.wf with
    | false => rfl
    | true => rw [idle hw, Bool.and_false]
  have hsteady : (i.wf && drawsRandom s g i) = false := Bool.and_eq_false_iff.2 steady
  unfold precheck
  simp [names, hidle, breakHit_debugOff noDebug, fails, hsteady]

/-- The whole of an issue that such a check stops. -/
theorem issueWith_trap {i : Instr} {s : State} {g : Group} {e : Ent} {c : Cause} (names : selected s = some (g, e)) (noDebug : DebugOff s)
    (idle : i.wf = true → busy s g i e = false) (fails : checkCause s g e i i.wf = some c)
    (steady : i.wf = false ∨ drawsRandom s g i = false) (k : State → Group → Ent → Mask → State × Fate) :
    issueWith i s k = .next (trapped s g e c 0) := by
  unfold issueWith
  rw [precheck_trap names noDebug idle fails steady]
  exact congrArg Host.Outcome.next (settleOf_raiseAll (selected_group names) e c 0)

/-- The checks before register-range pass, and an operand lies beyond the budget. -/
theorem checkCause_registerRange {i : Instr} {s : State} {g : Group} {e : Ent} (unit : needsMatrix i = false)
    (level : kernelOnly i = false) (bar : barNumOk s g i = true) (range : rangeOk s g i = false) :
    checkCause s g e i true = some 0x088 := by
  simp [checkCause, unit, level, bar, range]

end Sys2Proof.Machine
end

section
/-! The decoding checks in their order (R147): CVTB's source run (R187) lies within the budget only where its field names a vector
register, and that check comes before short-stall. -/

namespace Sys2Proof.Proofs

open Sys2Proof.Machine Sys2Proof.Claims

/-- R96, R187: a uniform names no run of the lanes' budget. -/
theorem rangeOk_cvtb_uniform (s : State) (g : Group) (S : BitVec 3) (d a : RegName) (f : BitVec 3) (ha : isV a = false) :
    rangeOk s g (.cvtb S d a f) = false := by
  simp [rangeOk, ha]

/-- A CVTB from a uniform raises register-range, whatever else is against it after that check. -/
theorem execCvtb_uniform {s : State} {g : Group} {e : Ent} {S : BitVec 3} {d a : RegName} {f : BitVec 3} (hd : isV d = true)
    (ha : isV a = false) (names : selected s = some (g, e)) (noDebug : DebugOff s) (idle : busy s g (.cvtb S d a f) e = false) :
    execCvtb S d a f s = .next (trapped s g e 0x088 0) := by
  have hwf : Instr.wf (.cvtb S d a f) = true := by simp [Instr.wf, operands, Opd.ok, hd]
  have fails : checkCause s g e (.cvtb S d a f) true = some 0x088 :=
    checkCause_registerRange rfl rfl rfl (rangeOk_cvtb_uniform s g S d a f ha)
  exact issueWith_trap names noDebug (fun _ => idle) (hwf.symm ▸ fails) (.inr rfl) _

/-- A group whose lanes have issued a KSET of k1 at PC 0 and stand at PC 4 one opportunity later: the write is due at the third. -/
def afterKset : Group := { bedGroup 3 2 with
  ents := [⟨4, 0, 255, 0, .ready⟩], pend := [⟨.k 1, 255, [(0, 7)], some 3, 0⟩], opp := 1 }
/-- Its entry. -/
def ksetEnt : Ent := ⟨4, 0, 255, 0, .ready⟩
/-- `cvtb v4, k1` in slot 0. -/
def cvtbUniform : Instr := .cvtb 0 4 97 0
/-- The entry's issue in progress, the last of its core's cycle, with SCHK.EN set and a trap table whose entries for
register-range and short-stall are zero, so that either is routed. -/
def ksetState : State :=
  modCore (setGroup { bed State.reset 0 with
    sel := some ⟨3, 4, 0, 255, []⟩, schk := [(0, true)], ap := [(0xD000, 0x8000000000000000)] } afterKset) 0 (fun c => { c with issueq := [] })

theorem ksetState_selected : selected ksetState = some (afterKset, ksetEnt) := by decide +kernel

theorem ksetState_debugOff : DebugOff ksetState := by unfold DebugOff; decide +kernel

theorem ksetState_idle : busy ksetState afterKset cvtbUniform ksetEnt = false := by decide +kernel

/-- R152: k1 is read before its write is due, and SCHK.EN is set. -/
theorem ksetState_tooEarly : schkOn ksetState afterKset = true ∧ tooEarly ksetState afterKset cvtbUniform ksetEnt.mask = true := by
  decide +kernel

/-- A register that an instruction reads or writes is a vector register beyond the budget (R96). -/
def beyondBudget (g : Group) : Dst → Bool
  | .v r => decide (g.budget ≤ r)
  | _ => false

/-- None is: the run read is one of uniforms, and the registers written lie within the budget. -/
theorem ksetState_registers :
    ¬ (readsOf ksetState afterKset cvtbUniform ++ writesOf ksetState afterKset cvtbUniform).any (beyondBudget afterKset) = true := by
  decide +kernel

/-- The trap records that wait to be posted, which name the cause (R374). -/
def waitingRecords (s : State) : List (List DWord) := s.trapWait.map (·.words)

/-- The two causes leave different trap records. -/
theorem ksetState_records :
    waitingRecords (trapped ksetState afterKset ksetEnt 0x088 0) ≠ waitingRecords (trapped ksetState afterKset ksetEnt 0x002 0) := by
  decide +kernel

/-- Refutes O53: it counts as register-range only the vector registers among an instruction's reads and writes, but a CVTB whose source
field names a uniform has a run that does not lie within the budget (R187). Where that uniform has a write that is not yet due and SCHK.EN
is set, the statement asks for short-stall, and the model raises register-range, which comes first in R147. -/
theorem not_issueChecks : ¬ Obligations.IssueChecks := by
  unfold Obligations.IssueChecks
  rintro ⟨hchecks, -, -, -⟩
  obtain ⟨hstated, -⟩ := hchecks cvtbUniform ksetState afterKset ksetEnt 0x002 rfl ksetState_selected ksetState_debugOff
    (fun _ => ksetState_idle)
    ((if_neg (by decide)).trans <| (if_neg (by decide)).trans <| (if_neg (by decide)).trans <|
      (if_neg ksetState_registers).trans (if_pos ksetState_tooEarly))
  have hmodel : exec cvtbUniform ksetState = .next (trapped ksetState afterKset ksetEnt 0x088 0) :=
    execCvtb_uniform rfl rfl ksetState_selected ksetState_debugOff ksetState_idle
  have hsame := Host.Outcome.next.inj (hmodel.symm.trans (hstated (.inr rfl)))
  exact ksetState_records (congrArg waitingRecords hsame)

end Sys2Proof.Proofs
end

section
/-! SUPPORT. The register files (R97 to R100, R149, R152): what a read of a uniform, a mask or a vector register returns after a write. -/

namespace Sys2Proof.Machine

open Sys2Proof.Claims

/-! ## Uniforms (R99) -/

@[simp] theorem readK_zero (g : Group) : readK g 0 = 0 := rfl

/-- A write to k0 is discarded. -/
@[simp] theorem writeK_zero (g : Group) (v : Word) : writeK g 0 v = g := rfl

theorem readK_writeK_self {g : Group} (h : KeysOk g.k) {n : Nat} (hn : n ≠ 0) (v : Word) : readK (writeK g n v) n = v := by
  rw [readK, writeK, if_neg hn, if_neg hn]
  exact mapGet_mapSet_self 0 n v h

theorem readK_writeK_other (g : Group) {n k : Nat} (hkn : k ≠ n) (v : Word) : readK (writeK g n v) k = readK g k := by
  unfold writeK
  split
  · rfl
  · rw [readK, readK, mapGet_mapSet_other 0 0 hkn v g.k]

theorem readK_writeK {g : Group} (h : KeysOk g.k) (n k : Nat) (v : Word) :
    readK (writeK g n v) k = if k = n ∧ n ≠ 0 then v else readK g k := by
  by_cases hkn : k = n
  · subst hkn
    by_cases hk : k = 0
    · subst hk; rfl
    · rw [if_pos ⟨rfl, hk⟩, readK_writeK_self h hk]
  · rw [if_neg fun hc => hkn hc.1, readK_writeK_other g hkn]

/-! ## Masks (R100) -/

theorem bitAt_lowMask (n l : Nat) : bitAt (lowMask n) l = (decide (l < 64) && decide (l < n)) := by
  simp [bitAt, lowMask, BitVec.getLsbD_ofNat]

/-- A position from 64 on is in no mask. -/
theorem bitAt_of_ge (m : Mask) {l : Nat} (h : 64 ≤ l) : bitAt m l = false := BitVec.getLsbD_of_ge m l h

theorem bitAt_and (a b : Mask) (l : Nat) : bitAt (a &&& b) l = (bitAt a l && bitAt b l) := BitVec.getLsbD_and

theorem bitAt_or (a b : Mask) (l : Nat) : bitAt (a ||| b) l = (bitAt a l || bitAt b l) := BitVec.getLsbD_or

theorem bitAt_minus (a b : Mask) (l : Nat) : bitAt (minus a b) l = (bitAt a l && !bitAt b l) := by
  rw [minus, bitAt_and]
  by_cases hl : l < 64
  · simp [bitAt, hl]
  · simp [bitAt_of_ge a (Nat.not_lt.mp hl)]

/-- The bits of `lanes` are those of `v`, the others those of `old`, and none lies at the width or beyond. -/
theorem bitAt_maskWrite (v lanes old : Mask) (width l : Nat) :
    bitAt (((v &&& lanes) ||| minus old lanes) &&& lowMask width) l =
      (decide (l < width) && (if bitAt lanes l then bitAt v l else bitAt old l)) := by
  rw [bitAt_and, bitAt_or, bitAt_and, bitAt_minus, bitAt_lowMask]
  by_cases hl : l < 64
  · cases bitAt lanes l <;> simp [hl, Bool.and_comm]
  · have hout (m : Mask) : bitAt m l = false := bitAt_of_ge m (Nat.not_lt.mp hl)
    simp [hout]

theorem readM_writeM_self {g : Group} (h : KeysOk g.m) (n : Nat) (lanes v : Mask) :
    readM (writeM g n lanes v) n = ((v &&& lanes) ||| minus (readM g n) lanes) &&& lowMask g.width :=
  mapGet_mapSet_self 0 n _ h

theorem readM_writeM_other (g : Group) {n k : Nat} (hkn : k ≠ n) (lanes v : Mask) : readM (writeM g n lanes v) k = readM g k :=
  mapGet_mapSet_other 0 0 hkn _ g.m

theorem bitAt_readM_writeM {g : Group} (h : KeysOk g.m) (n k l : Nat) (lanes v : Mask) :
    bitAt (readM (writeM g n lanes v) k) l =
      if k = n then decide (l < g.width) && (if bitAt lanes l then bitAt v l else bitAt (readM g n) l) else bitAt (readM g k) l := by
  split
  · next hkn => rw [hkn, readM_writeM_self h, bitAt_maskWrite]
  · next hkn => rw [readM_writeM_other g hkn]

/-! ## Vector registers (R97, R98, R149, R152) -/

/-- A write to a register of another core leaves the register. -/
theorem readRf_writeRf_otherCore (s : State) {g h : Group} (hcore : h.core ≠ g.core) (l r j q : Nat) (v : Word) :
    readRf (writeRf s g l r v) h j q = readRf s h j q := by
  unfold writeRf
  split
  · rw [readRf, readRf, coreOf_modCore_other s hcore]
  · rfl

/-- On its own core a write changes the one cell of its register and lane. -/
theorem readRf_writeRf_sameCore {s : State} {g h : Group} (hcores : CoresOk s) (hrf : KeysOk (coreOf s g.core).rf) {l : Nat}
    (hl : (octetOf g l).isSome) (hcore : h.core = g.core) (r j q : Nat) (v : Word) :
    readRf (writeRf s g l r v) h j q = if rfCell h j q = rfCell g l r then v else readRf s h j q := by
  rw [readRf, readRf, writeRf, if_pos hl, hcore, coreOf_modCore_self hcores]
  split
  · next hcell => rw [hcell]; exact mapGet_mapSet_self 0 _ v hrf
  · next hcell => exact mapGet_mapSet_other 0 0 hcell v _

theorem readRf_writeRf {s : State} {g : Group} (hcores : CoresOk s) (hrf : KeysOk (coreOf s g.core).rf) {l : Nat}
    (hl : (octetOf g l).isSome) (h : Group) (r j q : Nat) (v : Word) :
    readRf (writeRf s g l r v) h j q = if h.core = g.core ∧ rfCell h j q = rfCell g l r then v else readRf s h j q := by
  by_cases hcore : h.core = g.core
  · simp only [readRf_writeRf_sameCore hcores hrf hl hcore, hcore, true_and]
  · rw [if_neg fun hc => hcore hc.1, readRf_writeRf_otherCore s hcore]

theorem loWord_eq_setWidth (v : DWord) : loWord v = v.setWidth 32 := by
  simp [loWord, BitVec.setWidth_eq_extractLsb']

/-- With no old value kept for the lane, it reads what its register file holds. -/
theorem readOwn_of_none {g : Group} {l r : Nat} (h : ∀ w ∈ g.pend, w.dst = .old r → bitAt w.lanes l = false) (s : State) :
    readOwn s g l r = readRf s g l r := by
  have hnone : g.pend.find? (fun w => w.dst == .old r && bitAt w.lanes l) = none := by
    refine List.find?_eq_none.mpr fun w hw hc => ?_
    rw [Bool.and_eq_true, beq_iff_eq] at hc
    exact Bool.false_ne_true ((h w hw hc.1).symm.trans hc.2)
  rw [readOwn, hnone]

/-- The first old value kept for the lane is what it reads. -/
theorem readOwn_of_old {g : Group} {l r : Nat} {lanes : Mask} {v : DWord} {due : Option Nat} {ret : Nat} {more : List (Nat × DWord)}
    {rest : List PWrite} (h : g.pend = ⟨.old r, lanes, (l, v) :: more, due, ret⟩ :: rest) (hl : bitAt lanes l = true) (s : State) :
    readOwn s g l r = loWord v := by
  simp [readOwn, h, hl]

/-! ## Register fields (R96, R141) -/

theorem readReg_of_isV {r : RegName} (h : isV r = true) (s : State) (g : Group) (l : Nat) :
    readReg s g l r = readOwn s g l (g.vwb + r.toNat) := if_pos h

theorem readReg_of_not_isV {r : RegName} (h : isV r = false) (s : State) (g : Group) (l : Nat) :
    readReg s g l r = readK g (r.toNat - 96) := if_neg (Bool.eq_false_iff.mp h)

theorem isV_of_lt {r : RegName} (h : r.toNat < 96) : isV r = true := decide_eq_true h

theorem isV_of_ge {r : RegName} (h : 96 ≤ r.toNat) : isV r = false := decide_eq_false (Nat.not_lt.mpr h)

end Sys2Proof.Machine
end

section
/-! What a write leaves in the register files (R97 to R100, R149, R152). -/

namespace Sys2Proof.Proofs

open Sys2Proof.Machine Sys2Proof.Claims

/-- Settles O52: a read after a write in each of the three files, a pair as two reads, and a field as a read of its file. -/
theorem registerAccess : Obligations.RegisterAccess := by
  unfold Obligations.RegisterAccess
  refine ⟨fun g n k v hk => ⟨readK_zero g, readK_writeK hk n k v⟩, fun g n k l lanes v hm => bitAt_readM_writeM hm n k l lanes v,
    fun s g h l r j q v hcores hrf hl => readRf_writeRf hcores hrf hl h r j q v, fun s g l r => rfl,
    fun s g l r => ⟨rfl, fun hr hold => ?_, fun v lanes due ret rest more hr hpend hl => ?_, fun hr => ?_⟩⟩
  · rw [readReg_of_isV (isV_of_lt hr), readOwn_of_none hold]
  · rw [readReg_of_isV (isV_of_lt hr), readOwn_of_old hpend hl, loWord_eq_setWidth]
  · exact readReg_of_not_isV (isV_of_ge hr) s g l

end Sys2Proof.Proofs
end

section
/-! SUPPORT. The machine right after reset: its aperture words and what a read of each answers, its cores and packages. -/

namespace Sys2Proof.Machine

@[simp] theorem apWord_reset (off : Nat) : apWord State.reset off = apReset off := rfl

@[simp] theorem coreOf_reset (n : Nat) : coreOf State.reset n = Core.reset n := rfl

@[simp] theorem onWayTo_reset (p : Nat) : onWayTo State.reset p = false := rfl

@[simp] theorem putBits_zero (lo n : Nat) : putBits 0#64 lo n 0 = 0#64 := by simp [putBits]

/-- A word that the spec does not list is zero. -/
theorem apReset_unlisted {off : Nat} (h : ¬ (off = 0x8000 ∨ 0x9000 ≤ off ∧ off < 0x9060 ∨ off = 0xA000 ∨ off = 0xA008 ∨
    0x12000 ≤ off ∧ off < 0x12240)) : apReset off = 0 := by
  unfold apReset
  iterate 5 rw [if_neg (by omega)]

/-- No package is lost. -/
theorem isLost_reset {p : Nat} (h : p < 768) : isLost State.reset p = false := by
  rw [isLost, apWord_reset, apReset_unlisted (by omega)]
  exact BitVec.getLsbD_zero

/-! ## Words that a read computes -/

@[simp] theorem padstatRead_reset : padstatRead State.reset = 0 := by simp [padstatRead, apReset]

@[simp] theorem areqRead_reset : areqRead State.reset = 0 := by simp [areqRead, apReset]

@[simp] theorem xresRead_reset : xresRead State.reset = 0 := putBits_zero 62 1

@[simp] theorem ownPkg_reset : ownPkg State.reset = 0 := rfl

@[simp] theorem peerPkg_reset : peerPkg State.reset = 0 := rfl

@[simp] theorem rebuildRead_reset : rebuildRead State.reset = 0 := by
  simp [rebuildRead, apReset, isLost_reset]

/-- With no group resident no debug channel selects a lane. -/
theorem dstatRead_reset {c : Nat} (h : c < 4) : dstatRead State.reset c = 0 := by
  have hword : dbgWord State.reset c 3 = 0 := by
    rw [dbgWord, apWord_reset, apReset_unlisted (by omega)]
  show putBits (putBits (dbgWord State.reset c 3) 62 1 0) 48 9 0 = 0
  simp [hword]

/-- R345: every word reads as it stands; those that a read computes are zero. -/
@[simp] theorem apRead_reset (off : Nat) : apRead State.reset off = apReset off := by
  unfold apRead
  split
  · next h => rw [h, padstatRead_reset]; rfl
  split
  · next h => rw [h, areqRead_reset]; rfl
  split
  · next h => rw [h, xresRead_reset]; rfl
  split
  · next h => rw [h, rebuildRead_reset]; rfl
  split
  · next h => rw [dstatRead_reset (by omega), apReset_unlisted (by omega)]
  · exact apWord_reset off

/-! ## Packages (R326) -/

/-- Of the membership words only the first is not zero. -/
theorem apReset_paddockWord {w : Nat} (h : w < 12) : apReset (0x8000 + 8 * w) = if w = 0 then 1 else 0 := by
  split
  · next hw => rw [hw]; rfl
  · exact apReset_unlisted (by omega)

theorem inPaddock_reset {p : Nat} (h : p < 768) : inPaddock State.reset p = decide (p = 0) := by
  have hbit : (apReset (0x8000 + 8 * (p / 64))).getLsbD (p % 64) = decide (p = 0) := by
    rw [apReset_paddockWord (by omega)]
    split
    · have hlow : p % 64 = p := by omega
      simp [hlow]
    · have hp : p ≠ 0 := by omega
      simp [hp]
  rw [inPaddock, ownPkg_reset, apWord_reset, hbit, Bool.beq_eq_decide_eq, Bool.or_self]

/-! ## Cores (R349) -/

theorem held_reset (n : Nat) : (Core.reset n).held = false ↔ n = 288 := by simp [Core.reset]

end Sys2Proof.Machine
end

section
/-! Reset values (R95, R113, R287, R306, R326, R331, R343, R346, R349, R352, R371, R426). -/

namespace Sys2Proof.Proofs

open Sys2Proof.Machine

/-- Settles O51: the aperture's words are those of `apReset`, every map of the state is empty, and every core is as `Core.reset` gives it. -/
theorem resetValues : Obligations.ResetValues := by
  unfold Obligations.ResetValues
  intro s word
  have hword (off : Nat) : apReset off = word off := rfl
  refine ⟨fun off _ => ⟨hword off, (apRead_reset off).trans (hword off)⟩, fun n i => rfl, fun n => ⟨rfl, rfl, rfl, held_reset n⟩, rfl,
    fun c => ⟨rfl, rfl, rfl, rfl⟩, fun p hp => ⟨isLost_reset hp, inPaddock_reset hp⟩, rfl, rfl⟩

end Sys2Proof.Proofs
end

section
/-! SUPPORT. Decoding against encoding (R139 to R145): the fields of every instruction decode to it, and what each of the three outcomes
of `decode` says about the words that instructions encode to. -/

namespace Sys2Proof.Machine

section
open Laws.EncodeFields

/-- R139, R144: the per-instruction laws of the encoding, for all instructions at once; an event has no fields. -/
theorem decodeFields_encodeFields (i : Instr) : Statement i := by
  cases i with
  | blk => apply blk | br => apply br | bz => apply bz | bnz => apply bnz | bms => apply bms | bmc => apply bmc
  | call => apply call | jmp => apply jmp | calli => apply calli | ret => apply ret | nop => apply nop | yield => apply yield
  | exit => apply Laws.EncodeFields.exit | add => apply add | sub => apply sub | addi => apply addi | mul => apply mul
  | mulh => apply mulh | muli => apply muli | div => apply div | rem => apply rem | and => apply Laws.EncodeFields.and
  | or => apply Laws.EncodeFields.or | xor => apply Laws.EncodeFields.xor | andi => apply andi | ori => apply ori
  | xori => apply xori | shl => apply shl | shr => apply shr | shli => apply shli | shri => apply shri | shrai => apply shrai
  | movi => apply movi | not => apply Laws.EncodeFields.not | neg => apply neg | abs => apply Laws.EncodeFields.abs
  | clz => apply clz | popc => apply popc | brev => apply brev | mov => apply mov | bfx => apply bfx | bfi => apply bfi
  | isetEq => apply isetEq | isetNe => apply isetNe | isetLt => apply isetLt | isetLe => apply isetLe | sel => apply sel
  | add64 => apply add64 | addi64 => apply addi64 | lea => apply lea | imad => apply imad | fadd => apply fadd
  | fsub => apply fsub | fmul => apply fmul | ffma => apply ffma | fmin => apply fmin | fmax => apply fmax
  | fsetEq => apply fsetEq | fsetNe => apply fsetNe | fsetLt => apply fsetLt | fsetLe => apply fsetLe | fclass => apply fclass
  | fneg => apply fneg | fabs => apply fabs | frcp => apply frcp | frsq => apply frsq | fsqrt => apply fsqrt
  | fex2 => apply fex2 | flg2 => apply flg2 | fsin => apply fsin | fcos => apply fcos | ftanh => apply ftanh
  | hadd2 => apply hadd2 | hmul2 => apply hmul2 | hfma2 => apply hfma2 | hmin2 => apply hmin2 | hmin2P => apply hmin2P
  | hmax2 => apply hmax2 | hmax2P => apply hmax2P | hneg2 => apply hneg2 | habs2 => apply habs2 | cvts => apply cvts
  | cvtx => apply cvtx | cvti => apply cvti | cvtb => apply cvtb | cvthF2hl => apply cvthF2hl | cvthF2hh => apply cvthF2hh
  | cvthF2bl => apply cvthF2bl | cvthF2bh => apply cvthF2bh | cvthHl2f => apply cvthHl2f | cvthHh2f => apply cvthHh2f
  | cvthBl2f => apply cvthBl2f | cvthBh2f => apply cvthBh2f | lane => apply lane | shfl => apply shfl
  | voteAny => apply voteAny | voteAll => apply voteAll | voteBallot => apply voteBallot | bcast => apply bcast
  | matchLanes => apply matchLanes | redAdd => apply redAdd | redMinS => apply redMinS | redMinU => apply redMinU
  | redMaxS => apply redMaxS | redMaxU => apply redMaxU | redAnd => apply redAnd | redOr => apply redOr
  | redXor => apply redXor | fredAdd => apply fredAdd | fredMin => apply fredMin | fredMinp => apply fredMinp
  | fredMax => apply fredMax | fredMaxp => apply fredMaxp | scanAdd => apply scanAdd | scanXadd => apply scanXadd
  | scanFadd => apply scanFadd | barArrive => apply barArrive | barWait => apply barWait | barSync => apply barSync
  | regrp => apply regrp | winb => apply winb | tcall => apply tcall | tret => apply tret | ld => apply ld
  | ldB64 => apply ldB64 | ldB8 => apply ldB8 | ldB16 => apply ldB16 | ldNr => apply ldNr | st => apply st
  | stB64 => apply stB64 | stB8 => apply stB8 | stB16 => apply stB16 | ldsp => apply ldsp | stsp => apply stsp
  | atom => apply atom | ratom => apply ratom | cadd => apply cadd | fence => apply fence | fenceTc => apply fenceTc
  | fenceQ => apply fenceQ | pref => apply pref | pgreq => apply pgreq | qpush => apply qpush | qpop => apply qpop
  | copy => apply copy | hwait => apply hwait | htest => apply htest | hcancel => apply hcancel | hexport => apply hexport
  | himport => apply himport | macq => apply macq | mrel => apply mrel | mma => apply mma | mmaP => apply mmaP
  | mzero => apply mzero | mloada => apply mloada | mstorea => apply mstorea | collPost => apply collPost
  | collFire => apply collFire | collProg => apply collProg | collAgree => apply collAgree | deq => apply deq
  | enq => apply enq | launch => apply launch | wfetch => apply wfetch | srd => apply srd | swr => apply swr
  | trap => apply trap | eret => apply eret | kset => apply kset | icinv => apply icinv | isync => apply isync
  | xlate => apply xlate | sleep => apply sleep | halt => apply halt | ctxsave => apply ctxsave | ctxload => apply ctxload
  | _ => intro f h; cases h

end

/-- An ILLEGAL_OPCODE_WORD apart, the word of an instruction is its packed fields. -/
theorem encode_eq_some {i : Instr} {w : Word} (hi : ∀ v, i ≠ .illegalOpcodeWord v) :
    encode i = some w ↔ ∃ f, encodeFields i = some f ∧ packWord f = w := by
  have hfields : encode i = (encodeFields i).map packWord := by
    unfold encode
    split
    · next v => exact absurd rfl (hi v)
    · rfl
  rw [hfields, Option.map_eq_some_iff]

/-- A word decodes to the instruction that its fields are those of. -/
theorem decode_packWord {i : Instr} {f : Fields} (h : encodeFields i = some f) : decode (packWord f) = .ok i := by
  unfold decode
  rw [splitWord_packWord, decodeFields_encodeFields i f h]
  simp [h]

/-- An instruction that a word decodes to has fields, and the word is packed from them. -/
theorem encodeFields_of_decode_ok {i : Instr} {w : Word} (h : decode w = .ok i) : ∃ f, encodeFields i = some f ∧ packWord f = w := by
  unfold decode at h
  split at h
  · cases h
  · split at h
    · next hw =>
      cases h
      exact Option.map_eq_some_iff.mp hw
    · cases h

/-- What has fields is no ILLEGAL_OPCODE_WORD. -/
theorem ne_illegalOpcodeWord_of_encodeFields {i : Instr} {f : Fields} (h : encodeFields i = some f) (v : Word) :
    i ≠ .illegalOpcodeWord v := by
  rintro rfl
  cases h

theorem decode_of_encode {i : Instr} {w : Word} (hi : ∀ v, i ≠ .illegalOpcodeWord v) (h : encode i = some w) : decode w = .ok i := by
  obtain ⟨f, hf, rfl⟩ := (encode_eq_some hi).mp h
  exact decode_packWord hf

theorem encode_of_decode {i : Instr} {w : Word} (h : decode w = .ok i) : encode i = some w := by
  obtain ⟨f, hf, hw⟩ := encodeFields_of_decode_ok h
  exact (encode_eq_some (ne_illegalOpcodeWord_of_encodeFields hf)).mpr ⟨f, hf, hw⟩

end Sys2Proof.Machine
end

section
/-! The encoding (R139 to R145). -/

namespace Sys2Proof.Proofs

open Sys2Proof.Machine

/-- Settles O48: `decode` and `encode` are inverse to each other, and a word that is refused is not packed from any instruction's fields,
since it would decode to that instruction. -/
theorem decodeEncode : Obligations.DecodeEncode := by
  unfold Obligations.DecodeEncode
  refine fun i w => ⟨decode_of_encode, encode_of_decode, ?_⟩
  rintro j hrefused f hf rfl
  rw [decode_packWord hf] at hrefused
  rcases hrefused with h | h <;> cases h

/-- Settles O47: thirteen of the words are the encodings of their instructions, and major 0 is reserved. -/
theorem decodeSanity : Obligations.DecodeSanity := by
  unfold Obligations.DecodeSanity
  iterate 13 refine ⟨decode_of_encode (by rintro v ⟨⟩) rfl, ?_⟩
  decide

end Sys2Proof.Proofs
end

section
/-! SUPPORT. Pending writes (R149 to R151): which of a group's writes an opportunity performs and which it leaves, and what the
opportunity then comes to. -/

namespace Sys2Proof.Machine

/-! ## Groups -/

theorem replFirst_replFirst {α : Type} (p : α → Bool) (x y : α) (hx : p x = true) :
    ∀ l : List α, replFirst p y (replFirst p x l) = replFirst p y l
  | [] => rfl
  | z :: zs => by
    cases hz : p z
    · simp [replFirst, hz, replFirst_replFirst p x y hx zs]
    · simp [replFirst, hz, hx]

/-- Of two replacements of one group the second stands. -/
theorem setGroup_setGroup (s : State) {g h : Group} (hgid : g.gid = h.gid) : setGroup (setGroup s g) h = setGroup s h := by
  simp [setGroup, hgid, replFirst_replFirst]

/-! ## Writes to one register (R150) -/

/-- Writes to one register are both to a vector register, the same one, or both to a uniform or mask. -/
theorem vecOf_eq_of_sameDst {w v : PWrite} (h : sameDst w v = true) : vecOf w.dst = vecOf v.dst := by
  unfold sameDst at h
  split at h
  · next r hr =>
    rw [Bool.and_eq_true, beq_iff_eq] at h
    exact hr.trans h.1.symm
  · rw [beq_iff_eq.mp h]

theorem sameDst_symm {w v : PWrite} (h : sameDst w v = true) : sameDst v w = true := by
  have hvec := vecOf_eq_of_sameDst h
  unfold sameDst at h ⊢
  rw [hvec] at h ⊢
  split
  · next r hr => simpa [hr, BitVec.and_comm] using h
  · next hr => simp only [hr] at h; exact beq_iff_eq.mpr (beq_iff_eq.mp h).symm

@[simp] theorem blockedBy_nil (w : PWrite) : blockedBy [] w = 0 := rfl

theorem blockedBy_one {w v : PWrite} (h : sameDst w v = true) :
    blockedBy [w] v = if (vecOf v.dst).isSome then v.lanes &&& w.lanes else v.lanes := by
  simp [blockedBy, sameDst_symm h]

/-- A mask lies within another just when it has no lane outside it. -/
theorem and_eq_left_iff {m n : Mask} : m &&& n = m ↔ m &&& ~~~n = 0#64 := by
  constructor
  · intro h
    rw [← h, BitVec.and_assoc, BitVec.and_not_self]
    exact BitVec.and_zero
  · intro h
    calc m &&& n = (m &&& n) ||| (m &&& ~~~n) := by rw [h, BitVec.or_zero]
      _ = m := by rw [← BitVec.and_or_distrib_left, BitVec.or_not_self, BitVec.and_allOnes]

/-- What a mask has outside its lanes in another is what it has outside the other. -/
theorem minus_and (m n : Mask) : minus m (m &&& n) = m &&& ~~~n := by
  rw [minus, BitVec.not_and, BitVec.and_or_distrib_left, BitVec.and_not_self]
  exact BitVec.zero_or

/-- A uniform or mask, or a vector register whose lanes are all lanes of the earlier write, waits as a whole. -/
theorem blockedBy_covered {w v : PWrite} (h : sameDst w v = true) (hcov : vecOf v.dst = none ∨ v.lanes &&& ~~~w.lanes = 0) :
    blockedBy [w] v = v.lanes := by
  rw [blockedBy_one h]
  split
  · next hvec =>
    rcases hcov with hnone | hlanes
    · simp [hnone] at hvec
    · exact and_eq_left_iff.mpr hlanes
  · rfl

/-! ## The writes of an opportunity (R149, R150) -/

/-- A write's opportunity has not come yet, or it waits for its result. -/
def NotDue (opp : Nat) (w : PWrite) : Prop := ∀ n, w.due = some n → opp < n

theorem notDue_of_later {opp n : Nat} {w : PWrite} (hdue : w.due = some n) (hn : opp < n) : NotDue opp w := fun k hk => by
  rwa [← Option.some.inj (hdue.symm.trans hk)]

theorem notDue_of_scoreboarded {w : PWrite} (hdue : w.due = none) (opp : Nat) : NotDue opp w := fun k hk => by
  cases hdue.symm.trans hk

@[simp] theorem dueWrites_nil (opp : Nat) (all : Bool) (kept : List PWrite) : dueWrites opp all kept [] = ([], []) := rfl

/-- A write that is not due, or all of whose lanes an earlier one keeps, stays, and what comes after it may wait for it. -/
theorem dueWrites_stays {opp : Nat} {kept : List PWrite} {w : PWrite}
    (h : NotDue opp w ∨ (w.lanes ≠ 0 ∧ blockedBy kept w = w.lanes)) (ws : List PWrite) :
    dueWrites opp false kept (w :: ws) =
      ((dueWrites opp false (kept ++ [w]) ws).1, w :: (dueWrites opp false (kept ++ [w]) ws).2) := by
  obtain ⟨dst, lanes, vals, due, tok⟩ := w
  cases due with
  | none => simp [dueWrites]
  | some n =>
    by_cases hn : n ≤ opp
    · obtain ⟨hne, hall⟩ := h.resolve_left fun hlater => Nat.not_lt.mpr hn (hlater n rfl)
      have hzero : ¬lanes = 0#64 := hne
      simp [dueWrites, hn, hall, hzero]
    · simp [dueWrites, hn]

/-- A write whose opportunity has come takes effect when no earlier one stands before it. -/
theorem dueWrites_goes {opp n : Nat} {kept : List PWrite} {w : PWrite} (hdue : w.due = some n) (hn : n ≤ opp)
    (hfree : blockedBy kept w = 0) (ws : List PWrite) :
    dueWrites opp false kept (w :: ws) = (w :: (dueWrites opp false kept ws).1, (dueWrites opp false kept ws).2) := by
  simp [dueWrites, hdue, hn, hfree]

/-- Where an earlier write keeps some of its lanes, it takes effect in the others. -/
theorem dueWrites_splits {opp n : Nat} {kept : List PWrite} {w : PWrite} {m : Mask} (hdue : w.due = some n) (hn : n ≤ opp)
    (hblocked : blockedBy kept w = m) (hsome : m ≠ 0) (hall : m ≠ w.lanes) (ws : List PWrite) :
    dueWrites opp false kept (w :: ws) =
      ({ w with lanes := minus w.lanes m } :: (dueWrites opp false (kept ++ [{ w with lanes := m }]) ws).1,
       { w with lanes := m } :: (dueWrites opp false (kept ++ [{ w with lanes := m }]) ws).2) := by
  have hzero : ¬m = 0#64 := hsome
  simp [dueWrites, hdue, hn, hblocked, hzero, hall]

/-- A write that follows a waiting one to the same register waits with it, where that one keeps all of it. -/
theorem dueWrites_follower {opp : Nat} {w v : PWrite} (hw : NotDue opp w) (hsame : sameDst w v = true) (hne : v.lanes ≠ 0)
    (hcov : vecOf v.dst = none ∨ v.lanes &&& ~~~w.lanes = 0) : dueWrites opp false [] [w, v] = ([], [w, v]) := by
  rw [dueWrites_stays (.inl hw), List.nil_append, dueWrites_stays (.inr ⟨hne, blockedBy_covered hsame hcov⟩), dueWrites_nil]

/-- Two writes to one vector register, of which the first waits: the second waits in the lanes of both, and goes in its others. -/
theorem dueWrites_partly {opp k r : Nat} {w v : PWrite} (hw : NotDue opp w) (hv : v.due = some k) (hk : k ≤ opp)
    (hwr : w.dst = .v r) (hvr : v.dst = .v r) (hboth : v.lanes &&& w.lanes ≠ 0) (hrest : v.lanes &&& ~~~w.lanes ≠ 0) :
    dueWrites opp false [] [w, v] =
      ([{ v with lanes := v.lanes &&& ~~~w.lanes }], [w, { v with lanes := v.lanes &&& w.lanes }]) := by
  have hsame : sameDst w v = true := by simpa [sameDst, vecOf, hwr, hvr, BitVec.and_comm] using hboth
  have hblocked : blockedBy [w] v = v.lanes &&& w.lanes := by simp [blockedBy_one hsame, hvr, vecOf]
  have hall : v.lanes &&& w.lanes ≠ v.lanes := fun h => hrest (and_eq_left_iff.mp h)
  rw [dueWrites_stays (.inl hw), List.nil_append, dueWrites_splits hv hk hblocked hboth hall, dueWrites_nil, minus_and]

/-- A group whose counts have run down by one opportunity (R25, R29). -/
def ticked (g : Group) : Group :=
  { g with opp := g.opp + 1, ents := g.ents.map (fun e => { e with stall := e.stall - 1, st := (match e.st with
      | .deferred n w => .deferred (n - 1) w
      | x => x) }) }

/-- An opportunity: the counts run down, the writes that stay are kept, and the others take effect in their order. -/
theorem opportunity_eq {s : State} {g : Group} (hg : groupOf s g.gid = some g) {now later : List PWrite}
    (hdue : dueWrites (g.opp + 1) false [] g.pend = (now, later)) :
    opportunity s g.gid = now.foldl (fun t w => applyWrite t g.gid w) (setGroup s { ticked g with pend := later }) := by
  have htick : opportunity s g.gid = applyDue (setGroup s (ticked g)) g.gid false :=
    congrArg (applyDue · g.gid false) (modGroup_eq hg ticked)
  have hdue' : dueWrites (ticked g).opp false [] (ticked g).pend = (now, later) := hdue
  rw [htick, applyDue, groupOf_setGroup (g := ticked g) hg rfl]
  simp only [hdue']
  rw [setGroup_setGroup]
  rfl

/-- Where no write takes effect, only the counts run down. -/
theorem opportunity_quiet {s : State} {g : Group} (hg : groupOf s g.gid = some g)
    (hdue : dueWrites (g.opp + 1) false [] g.pend = ([], g.pend)) : opportunity s g.gid = setGroup s (ticked g) :=
  opportunity_eq hg hdue

/-! ## A write that takes effect -/

theorem applyWrite_k {s : State} {g : Group} (hg : groupOf s g.gid = some g) {w : PWrite} {n : Nat} (hw : w.dst = .k n) :
    applyWrite s g.gid w = setGroup s (writeK g n (loWord (w.vals.headD (0, 0)).2)) := by
  simp [applyWrite, hg, hw]

@[simp] theorem writeK_gid (g : Group) (n : Nat) (v : Word) : (writeK g n v).gid = g.gid := by
  unfold writeK
  split <;> rfl

/-- The group after a write to one of its uniforms. -/
theorem groupOf_applyWrite_k {s : State} {g : Group} (hg : groupOf s g.gid = some g) {w : PWrite} {n : Nat} (hw : w.dst = .k n) :
    groupOf (applyWrite s g.gid w) g.gid = some (writeK g n (loWord (w.vals.headD (0, 0)).2)) := by
  rw [applyWrite_k hg hw]
  exact groupOf_setGroup hg (writeK_gid ..)

end Sys2Proof.Machine
end

section
/-! When pending writes take effect (R149 to R151). -/

namespace Sys2Proof.Proofs

open Sys2Proof.Machine

/-- Settles O56: for each arrangement of one or two pending writes, `dueWrites` says which of them go and which stay, and the opportunity
performs those that go. -/
theorem pendingWrites : Obligations.PendingWrites := by
  unfold Obligations.PendingWrites
  intro s g hg
  show let next := ticked g; _
  intro next
  refine ⟨fun w n hp hw => ⟨fun hn => ?_, fun hn => ?_⟩, fun w hp hw => ?_, fun w v hp hw hsame hne hcov => ?_,
    fun w v n k hp hw hv hsame hk => ⟨fun hn hne hcov => ?_, fun hn => ?_⟩, fun w v r k hp hw hv hk hwr hvr hsome hall => ?_,
    fun r m xs due tok hkeys n hr hn => ?_⟩
  · exact opportunity_eq hg (by rw [hp, dueWrites_goes hw hn (blockedBy_nil w), dueWrites_nil])
  · exact opportunity_quiet hg (by rw [hp, dueWrites_stays (.inl (notDue_of_later hw hn)), dueWrites_nil])
  · exact opportunity_quiet hg (by rw [hp, dueWrites_stays (.inl (notDue_of_scoreboarded hw _)), dueWrites_nil])
  · exact opportunity_quiet hg (hp ▸ dueWrites_follower (notDue_of_scoreboarded hw _) hsame hne hcov)
  · exact opportunity_quiet hg (hp ▸ dueWrites_follower (notDue_of_later hw hn) hsame hne hcov)
  · exact opportunity_eq hg (by rw [hp, dueWrites_goes hw hn (blockedBy_nil w), dueWrites_goes hv hk (blockedBy_nil v), dueWrites_nil])
  · exact opportunity_eq hg (hp ▸ dueWrites_partly (notDue_of_scoreboarded hw _) hv hk hwr hvr hsome hall)
  · subst hr
    exact ⟨_, groupOf_applyWrite_k hg rfl, readK_writeK_self hkeys hn _, fun k hk => readK_writeK_other g hk _⟩

end Sys2Proof.Proofs
end
